-- ==== Sys2Proof/Word.lean ====
section
/-!
DEFINITION. The plain names of the model: bytes, object keys, and the path of a host access.
Times are counted in sample periods of 12.5 ps since the state after reset (R10: 80 GS/s); a grain of raw data spans 64 of
them (R11), a cycle of the 100 MHz timebase 800.
-/

namespace Sys2Proof

/-- A byte as frames and CRCs see it. -/
abbrev Byte := BitVec 8

/-- An absolute time, in sample periods of 12.5 ps since the state after reset. -/
abbrev Time := Nat

/-- The path that carries a host access to the Miller (R380, R395): SDO, RPDO or OD frame. -/
inductive Path where
  | sdo
  | rpdo
  | od
  deriving DecidableEq, Repr

/-- The code of a path in LAST_COMMAND_PATH (R409) and REFUSAL_PATH (R395). -/
def Path.code : Path → Nat
  | .sdo => 1
  | .rpdo => 2
  | .od => 3

end Sys2Proof
end

