-- ==== Sys2Proof/Syntax.lean ====
section
/-!
DEFINITION. The commands: one constructor for each row of the table of operations and events, with what the sender or the
world supplies with it. `p` is the path of a host access, `rsv` and `arg` the reserved bits [15:8] and the argument of a
command word (R389), `v` a value as written, `c` a channel, `n` a slot, `q` a plan.
-/

namespace Sys2Proof

/-- What one GRAIN cycle brings from the world: the 64 codes of each channel (R43), the channels whose excursion passes
twice half the full scale (R500), slices whose checks fail, as channel, quad, slice (R309), Bolter residue
mismatches, as channel and sample of the raw grain whose output they affect (R87), and the levels at EXT_TRIG and CTB_D as synchronised (R95). -/
structure GrainIn where
  codes : List (List Int) := []
  big : List Nat := []
  fails : List (Nat × Nat × Nat) := []
  residue : List (Nat × Nat) := []
  ext : Nat := 0
  ctb : Nat := 0
  deriving DecidableEq, Repr

/-- What the module's code of its region finds in a burst of 32 bytes (R178): clean, corrected, or uncorrectable. -/
inductive Ecc where
  | clean
  | corrected
  | lost
  deriving DecidableEq, Repr

/-- A read of the store (R184) in class `cls` (R174): a grain of the sample region (0), of three bursts, or a line of the results (1) or
system (2) region, of two; `ecc`: what the code finds in each, clean where the list ends. -/
structure StoreRead where
  cls : Nat := 5
  region : Nat
  addr : Nat
  ecc : List Ecc := []
  row : Nat := 0
  deriving DecidableEq, Repr

/-- An edge of a raster marker: the sample at which it is captured, and its direction (R112, R129). -/
structure Marker where
  at_ : Int
  rising : Bool := true
  deriving DecidableEq, Repr

/-- A frequency measurement of REF_IN: its offset from the timebase, and the correction that the discipline loop arrives at, both in
10^-6 ppm (R258 to R260). -/
structure RefFreq where
  error : Int := 0
  corr : Int := 0
  deriving DecidableEq, Repr

/-- One scrub burst (R181): the grain or line of the 6 KiB in which the code finds something, what it finds, whether the ready spare of
the half holds exact poison, and errors that the stack has corrected on its die since they were last read (R178). -/
structure ScrubIn where
  rd : StoreRead
  poison : Bool := true
  onDie : Nat := 0
  deriving DecidableEq, Repr

/-- One step of an instance (R224): the instance, the runner offered to it, whether a grain it reads fails its CRC (R206), and how
many SRAM words were corrected. -/
structure StepIn where
  inst : Nat
  cluster : Nat := 0
  runner : Nat := 0
  crcBad : Bool := false
  sram : Nat := 0
  deriving DecidableEq, Repr

/-- An instance at a runner (R203, R224): the runner offered counts where the instance has none yet. -/
structure AtRunner where
  inst : Nat
  cluster : Nat := 0
  runner : Nat := 0
  deriving DecidableEq, Repr

/-- What start-up finds (R28, R258, R314, R334, R364, R377): failures of the self-test as unit, slice and, for a pseudo-channel, array
row; the section that did not come up in time; the sequence codes of each monitor converter; the reference found (0 none, 1 10 MHz,
2 100 MHz) and whether the timebase is already disciplined to it; and NODE_ID[6:0]. -/
structure BootIn where
  fails : List (Nat × Nat × Nat) := []
  late : Option Nat := none
  codes : List (List Int) := []
  ref : Nat := 0
  /-- Offset of that reference from the timebase, in 10^-6 ppm (R513). -/
  freq : Int := 0
  disciplined : Bool := false
  balls : Nat := 33
  deriving DecidableEq, Repr

/-- An SDO request frame (R379): a read; a write of up to 56 bytes; the first frame of a segmented write; a segment of `len` bytes of
value `v`; the next segment of a read; the host's abort; anything else. -/
inductive SdoIn where
  | read (idx sub : Nat)
  | write (idx sub len : Nat) (v : Int)
  | begin_ (idx sub size : Nat)
  | segment (len : Nat) (v : Nat) (last : Bool)
  | next
  | abort
  | malformed
  deriving DecidableEq, Repr


/-- The commands and events of the block. -/
inductive Instr where
  /-- ARM (R139). -/
  | arm (p : Path) (rsv : Nat) (arg : Nat)
  /-- STOP (R140). -/
  | stop (p : Path) (rsv : Nat) (arg : Nat)
  /-- HOLD (R141). -/
  | hold (p : Path) (rsv : Nat) (arg : Nat)
  /-- FORCE (R142). -/
  | force (p : Path) (rsv : Nat) (arg : Nat)
  /-- RELEASE (R143). -/
  | release (p : Path) (rsv : Nat) (arg : Nat)
  /-- DRESS (R285). -/
  | dress (p : Path) (rsv : Nat) (arg : Nat)
  /-- COMMIT_DRESS (R296). -/
  | commitDress (p : Path) (rsv : Nat) (arg : Nat)
  /-- SLEEP (R339). -/
  | sleep (p : Path) (rsv : Nat) (arg : Nat)
  /-- WAKE (R338). -/
  | wake (p : Path) (rsv : Nat) (arg : Nat)
  /-- UPDATE_BEGIN (R453). -/
  | updateBegin (p : Path) (rsv : Nat) (arg : Nat)
  /-- UPDATE_END (R456). -/
  | updateEnd (p : Path) (rsv : Nat) (arg : Nat)
  /-- RESET_STATS (R223). -/
  | resetStats (p : Path) (rsv : Nat) (arg : Nat)
  /-- DECIM_SYNC (R88). -/
  | decimSync (p : Path) (rsv : Nat) (arg : Nat)
  /-- OBJECT_WRITE (R402). -/
  | objectWrite (p : Path) (idx : Nat) (sub : Nat) (len : Nat) (v : Int)
  /-- RANGE_OFFSET_WRITE (R63). -/
  | rangeOffsetWrite (p : Path) (c : Nat) (isOffset : Bool) (v : Int)
  /-- RANGE_SWITCH (R63). -/
  | rangeSwitch (c : Nat)
  /-- CH_ENABLE_WRITE (R67). -/
  | chEnableWrite (p : Path) (c : Nat) (v : Int)
  /-- CHANNEL_READY (R67). -/
  | channelReady (c : Nat)
  /-- FE_STATUS_WRITE (R70). -/
  | feStatusWrite (p : Path) (c : Nat) (v : Int)
  /-- COUNTER_CLEAR (R69). -/
  | counterClear (p : Path) (idx : Nat) (sub : Nat) (v : Int)
  /-- BOLTER_CONFIG_WRITE (R75). -/
  | bolterConfigWrite (p : Path) (c : Nat) (sub : Nat) (v : Int)
  /-- BOLTER_CHANGE_APPLY (R82). -/
  | bolterChangeApply (c : Nat)
  /-- BANK_SWAP (R85). -/
  | bankSwap (p : Path) (c : Nat) (v : Int)
  /-- SWAP_BEGIN (R85). -/
  | swapBegin (c : Nat)
  /-- SWAP_COMPLETE (R85). -/
  | swapComplete (c : Nat)
  /-- COEF_STAGE_LATCH (R84). -/
  | coefStageLatch (p : Path) (c : Nat) (v : Int)
  /-- COEF_LOAD_PRESET (R84). -/
  | coefLoadPreset (p : Path) (c : Nat) (v : Int)
  /-- COEF_APPLY (R86). -/
  | coefApply (p : Path) (c : Nat) (v : Int)
  /-- DECIM_SYNC_EDGE (R88). -/
  | decimSyncEdge
  /-- DECIMATION_RESET (R88). -/
  | decimationReset
  /-- GRAIN_CYCLE (R92). -/
  | grainCycle (g : GrainIn)
  /-- HOLDOFF_END (R103). -/
  | holdoffEnd (n : Nat)
  /-- SEQUENCE_WINDOW_EXPIRE (R101). -/
  | sequenceWindowExpire (n : Nat)
  /-- TRIG_OUT_PULSE_END (R115). -/
  | trigOutPulseEnd
  /-- CTB_TRIGGER_ASSERT (R118). -/
  | ctbTriggerAssert
  /-- CTB_QUERY (R119). -/
  | ctbQuery (asserted : Bool)
  /-- CTB_CLK_ABSENT (R120). -/
  | ctbClkAbsent
  /-- CTB_CLK_PRESENT (R120). -/
  | ctbClkPresent
  /-- RASTER_FRAME_EDGE (R112). -/
  | rasterFrameEdge (m : Marker)
  /-- RASTER_LINE_EDGE (R112). -/
  | rasterLineEdge (m : Marker)
  /-- RASTER_ABSENT (R114). -/
  | rasterAbsent
  /-- LAST_TRIG_INDEX_READ (R123). -/
  | lastTrigIndexRead (p : Path)
  /-- SLOT_CONFIG_WRITE (R105). -/
  | slotConfigWrite (p : Path) (n : Nat) (sub : Nat) (v : Int)
  /-- RASTER_FRAME_COUNT_WRITE (R112). -/
  | rasterFrameCountWrite (p : Path) (v : Int)
  /-- PLAN_COMMAND_EFFECT (R137). -/
  | planCommandEffect (q : Nat)
  /-- SEGMENT_END (R146). -/
  | segmentEnd (q : Nat)
  /-- DIRECTORY_WRITE (R150). -/
  | directoryWrite
  /-- ENTRY_COMPLETE (R152). -/
  | entryComplete (seg : Nat)
  /-- ENTRY_RELEASED (R150). -/
  | entryReleased (seq : Nat)
  /-- HOST_ACK_SEQ_WRITE (R157). -/
  | hostAckSeqWrite (p : Path) (v : Int)
  /-- DIR_ROW_LATCH (R160). -/
  | dirRowLatch (p : Path) (v : Int)
  /-- SYNC_IN_EDGE (R277). -/
  | syncInEdge
  /-- EPOCH_START (R278). -/
  | epochStart
  /-- GAP_RANGE_WRITE (R25). -/
  | gapRangeWrite (c : Nat)
  /-- SHARE_WRITE (R169). -/
  | shareWrite (p : Path) (sub : Nat) (v : Int)
  /-- GAP_ROW_LATCH (R194). -/
  | gapRowLatch (p : Path) (v : Int)
  /-- STORE_READ (R184). -/
  | storeRead (rd : StoreRead)
  /-- WRITE_BACK (R180). -/
  | writeBack (ecc : Ecc)
  /-- SCRUB_BURST (R181). -/
  | scrubBurst (sc : ScrubIn)
  /-- PC_HARD_FAILURE (R187). -/
  | pcHardFailure (lam : Nat) (row : Nat)
  /-- PC_COPY_START (R187). -/
  | pcCopyStart (lam : Nat)
  /-- PC_COPY_STEP (R308). -/
  | pcCopyStep
  /-- PC_MAP_SWITCH (R187). -/
  | pcMapSwitch
  /-- PC_LOSS_MARKING (R187). -/
  | pcLossMarking (lam : Nat)
  /-- INSTANCE_STEP (R224). -/
  | instanceStep (st : StepIn)
  /-- RUNNER_RESIDUE_ERROR (R224). -/
  | runnerResidueError (id : AtRunner) (lost : List (Nat × Nat))
  /-- RETRY_WINDOW_EXPIRE (R224). -/
  | retryWindowExpire (id : Nat) (lost : List (Nat × Nat))
  /-- MEAS_TIMEOUT (R225). -/
  | measTimeout (id : AtRunner)
  /-- RESULT_WRITE_EVENT (R219). -/
  | resultWriteEvent (g : Nat)
  /-- RESULT_INTERVAL_WRITE (R219). -/
  | resultIntervalWrite (p : Path) (v : Int)
  /-- DRESSING_SWEEP (R221). -/
  | dressingSweep (c : Nat)
  /-- SPARE_SELF_TEST (R197). -/
  | spareSelfTest (k : Nat) (pass : Bool)
  /-- CR_ROW_LATCH (R230). -/
  | crRowLatch (p : Path) (v : Int)
  /-- CR_APPLY (R230). -/
  | crApply (p : Path) (v : Int)
  /-- PARAM_ROW_LATCH (R230). -/
  | paramRowLatch (p : Path) (v : Int)
  /-- PARAM_APPLY (R230). -/
  | paramApply (p : Path) (v : Int)
  /-- GATE_ROW_LATCH (R231). -/
  | gateRowLatch (p : Path) (v : Int)
  /-- GATE_APPLY (R231). -/
  | gateApply (p : Path) (v : Int)
  /-- GATE_RESET (R223). -/
  | gateReset (p : Path) (v : Int)
  /-- RES_ROW_LATCH (R233). -/
  | resRowLatch (p : Path) (v : Int)
  /-- PLANE_ROW_LATCH (R251). -/
  | planeRowLatch (p : Path) (v : Int)
  /-- PLANE_APPLY (R234). -/
  | planeApply (p : Path) (v : Int)
  /-- PLANE_CLEAR (R246). -/
  | planeClear (p : Path) (v : Int)
  /-- TILE_SPILL (R242). -/
  | tileSpill (run : Nat) (plane : Nat) (tile : Nat) (bad : List Nat)
  /-- SNAP_PLANE_WRITE (R244). -/
  | snapPlaneWrite (p : Path) (v : Int)
  /-- SNAPSHOT_READY (R244). -/
  | snapshotReady (n : Nat)
  /-- SNAP_RELEASE (R245). -/
  | snapRelease (p : Path) (v : Int)
  /-- SNAP_TIMEOUT (R245). -/
  | snapTimeout
  /-- DISP_GO (R248). -/
  | dispGo (p : Path) (v : Int)
  /-- DISPLAY_JOB_DONE (R250). -/
  | displayJobDone (b : Nat)
  /-- REF_MEASUREMENT (R258). -/
  | refMeasurement (kind : Nat) (far : Bool) (corr : RefFreq) (phase : Int)
  /-- REF_EDGE_TIMEOUT (R258). -/
  | refEdgeTimeout
  /-- TIMEBASE_DISCIPLINED (R259). -/
  | timebaseDisciplined
  /-- REF_SELECT_WRITE (R259). -/
  | refSelectWrite (p : Path) (v : Int)
  /-- TIMEBASE_STOPPED (R262). -/
  | timebaseStopped
  /-- LOOP_LOSS_OF_LOCK (R264). -/
  | loopLossOfLock (l : Nat)
  /-- LOOP_LOCK_TIMEOUT (R264). -/
  | loopLockTimeout (l : Nat)
  /-- LOOP_LOCKED (R264). -/
  | loopLocked (l : Nat)
  /-- GATE_REOPEN (R265). -/
  | gateReopen (l : Nat)
  /-- LOOP_COMMIT (R268). -/
  | loopCommit
  /-- SSC_COMMIT (R271). -/
  | sscCommit (p : Path) (v : Int)
  /-- TWIN_LOSS_OF_LOCK (R274). -/
  | twinLossOfLock
  /-- STANDBY_READY (R275). -/
  | standbyReady
  /-- TWIN_WEAR_SWAP (R310). -/
  | twinWearSwap
  /-- PASS_BEGIN (R287). -/
  | passBegin (u : Nat)
  /-- PASS_WAIT_TIMEOUT (R287). -/
  | passWaitTimeout (u : Nat)
  /-- PASS_STAGE_END (R286). -/
  | passStageEnd (u : Nat) (m : List Int)
  /-- PASS_COMPARE (R288). -/
  | passCompare (u : Nat) (q : List Nat)
  /-- PASS_END (R290). -/
  | passEnd (u : Nat)
  /-- PASS_RESTART (R39). -/
  | passRestart (u : Nat)
  /-- APPLY_STEP (R291). -/
  | applyStep (u : Nat)
  /-- GAP_WINDOW_COMPLETE (R293). -/
  | gapWindowComplete (item : Nat) (w : List Int)
  /-- GAP_DRESS_ENABLE_WRITE (R293). -/
  | gapDressEnableWrite (p : Path) (v : Int)
  /-- COMMIT_COMPLETE (R296). -/
  | commitComplete (first : Bool) (second : Bool)
  /-- DRESS_UNIT_LATCH (R300). -/
  | dressUnitLatch (p : Path) (v : Int)
  /-- WEAR_RECOMPUTE (R303). -/
  | wearRecompute (m : List (Nat × Nat × Nat))
  /-- ASK_TIMEOUT (R307). -/
  | askTimeout
  /-- LAYER_GRANT (R307). -/
  | layerGrant (p : Path) (v : Int)
  /-- LAYER_DECLINE (R307). -/
  | layerDecline (p : Path) (v : Int)
  /-- POLICY_WRITE (R306). -/
  | policyWrite (p : Path) (sub : Nat) (v : Int)
  /-- SLICE_WEAR_LAYERING (R308). -/
  | sliceWearLayering (c : Nat) (q : Nat)
  /-- SLICE_HARD_FAILURE (R309). -/
  | sliceHardFailure (c : Nat) (q : Nat) (sl : Nat)
  /-- RUNNER_LAYERING (R308). -/
  | runnerLayering (k : Nat)
  /-- LANE_WEAR_LAYERING (R308). -/
  | laneWearLayering (g : Nat)
  /-- PHASE_LAYERING (R308). -/
  | phaseLayering (hard : Bool) (g : Nat) (n : Nat)
  /-- LAYERING_MAP_WRITE (R305). -/
  | layeringMapWrite
  /-- PREV_FAULT_FLASH_WRITE (R319). -/
  | prevFaultFlashWrite
  /-- WEAR_UNIT_LATCH (R324). -/
  | wearUnitLatch (p : Path) (v : Int)
  /-- FAULT_ROW_LATCH (R327). -/
  | faultRowLatch (p : Path) (v : Int)
  /-- SUPPLY_CONDITION (R328). -/
  | supplyCondition (kind : Nat) (begins : Bool) (v : Nat)
  /-- THERMAL_CONDITION (R329). -/
  | thermalCondition (sensor : Nat) (v : Int)
  /-- SHUTDOWN_RESTART (R331). -/
  | shutdownRestart
  /-- SUPPLY_ESTABLISHED (R333). -/
  | supplyEstablished
  /-- RAIL_GROUP_START (R333). -/
  | railGroupStart
  /-- RAIL_GROUP_FAIL (R334). -/
  | railGroupFail
  /-- RESET_N (R335). -/
  | resetN (low : Bool) (ns : Nat)
  /-- BOOT_COMPLETE (R28). -/
  | bootComplete (i : BootIn)
  /-- FIRMWARE_BOOT_DECISION (R459). -/
  | firmwareBootDecision
  /-- IDLE_POWER_CHANGE (R337). -/
  | idlePowerChange
  /-- DOZE_NOW (R338). -/
  | dozeNow (p : Path) (v : Int)
  /-- DOZE_AFTER_EXPIRE (R338). -/
  | dozeAfterExpire
  /-- DOZE_EXIT_COMPLETE (R338). -/
  | dozeExitComplete
  /-- SLEEP_REACHED (R339). -/
  | sleepReached
  /-- WAKE_N_LOW (R340). -/
  | wakeNLow (ns : Nat) (held : Bool)
  /-- CAN_RX_WAKE (R340). -/
  | canRxWake
  /-- RUN_REACHED (R340). -/
  | runReached
  /-- WAKE_TIMEOUT (R340). -/
  | wakeTimeout (late : Nat)
  /-- GOVERNOR_EVALUATION (R341). -/
  | governorEvaluation (pin : Nat)
  /-- TIMER_EDGE (R349). -/
  | timerEdge (start : Bool) (falling : Bool) (k : Nat) (f : Nat)
  /-- PAIR_LIMIT_EXPIRE (R350). -/
  | pairLimitExpire
  /-- TIMER_REARM (R349). -/
  | timerRearm
  /-- TIMER_MODE_WRITE (R361). -/
  | timerModeWrite (p : Path) (v : Int)
  /-- STAMP_NEXT (R356). -/
  | stampNext (p : Path)
  /-- TT_ROW_LATCH (R370). -/
  | ttRowLatch (p : Path) (v : Int)
  /-- MONITOR_TABLE_ENTRY (R363). -/
  | monitorTableEntry (m : Nat) (raw : Int)
  /-- MONITOR_SEQUENCE_END (R364). -/
  | monitorSequenceEnd (m : Nat) (codes : List Int)
  /-- MON_TEST (R364). -/
  | monTest (p : Path) (v : Int)
  /-- CROSS_CHECK (R365). -/
  | crossCheck (a22 : Int) (b22 : Int) (a23 : Int) (b23 : Int)
  /-- INJ_REQUEST (R366). -/
  | injRequest (p : Path) (v : Int)
  /-- INJECTED_CONVERSION (R366). -/
  | injectedConversion (m : Nat) (raw : Int)
  /-- MT_APPLY (R363). -/
  | mtApply (p : Path) (v : Int)
  /-- SQ_ROW_LATCH (R374). -/
  | sqRowLatch (p : Path) (v : Int)
  /-- SDO_REQUEST (R379). -/
  | sdoRequest (r : SdoIn)
  /-- TRANSFER_TIMEOUT (R379). -/
  | transferTimeout
  /-- RPDO_RECEIVED (R384). -/
  | rpdoReceived (n : Nat) (data : List Nat)
  /-- SYNC_RECEIVED (R385). -/
  | syncReceived (counter : Option Nat)
  /-- TPDO_EVENT (R383). -/
  | tpdoEvent (n : Nat)
  /-- HEARTBEAT (R387). -/
  | heartbeat
  /-- EMCY_SEND (R386). -/
  | emcySend
  /-- CAN_FRAME_IGNORED (R375). -/
  | canFrameIgnored
  /-- CAN_ERROR_STATE (R386). -/
  | canErrorState (e : Nat)
  /-- START_REMOTE_NODE (R32). -/
  | startRemoteNode (node : Nat)
  /-- STOP_REMOTE_NODE (R378). -/
  | stopRemoteNode (node : Nat)
  /-- ENTER_PRE_OPERATIONAL (R32). -/
  | enterPreOperational (node : Nat)
  /-- RESET_NODE (R378). -/
  | resetNode (node : Nat)
  /-- RESET_COMMUNICATION (R378). -/
  | resetCommunication (node : Nat) (balls : Nat)
  /-- NODE_ID_WRITE (R377). -/
  | nodeIdWrite (p : Path) (sub : Nat) (v : Int)
  /-- STORE_PARAMETERS (R383). -/
  | storeParameters (p : Path) (v : Int)
  /-- RESTORE_PARAMETERS (R383). -/
  | restoreParameters (p : Path) (v : Int)
  /-- ERROR_HISTORY_CLEAR (R386). -/
  | errorHistoryClear (p : Path) (v : Int)
  /-- OD_REQUEST (R388). -/
  | odRequest
  /-- MARKER_BOUNDARY (R420). -/
  | markerBoundary (inv : List (Nat × Nat))
  /-- MARKER_RECEIVED (R421). -/
  | markerReceived (l : Nat) (m : List Nat)
  /-- SYMBOL_LOCK (R422). -/
  | symbolLock (l : Nat) (skew : Nat)
  /-- LANE_LOSS_OF_LOCK (R422). -/
  | laneLossOfLock (l : Nat) (n : Nat)
  /-- LANE_LOCK_TIMEOUT (R424). -/
  | laneLockTimeout (l : Nat)
  /-- LANE_REJOIN (R435). -/
  | laneRejoin (l : Nat)
  /-- FRAME_RECEIVED (R429). -/
  | frameReceived (g : Nat) (bytes : List Nat)
  /-- REPLAY_TIMEOUT (R429). -/
  | replayTimeout (g : Nat)
  /-- REPLAY_ESCALATION (R429). -/
  | replayEscalation (g : Nat)
  /-- GATE_BULK (R431). -/
  | gateBulk (p : Path) (len : Nat) (v : Int)
  /-- STREAM_GO (R433). -/
  | streamGo (p : Path) (v : Int)
  /-- STREAM_ABORT (R434). -/
  | streamAbort (p : Path) (v : Int)
  /-- DELIVERY_FRAME (R433). -/
  | deliveryFrame (n : Nat)
  /-- CREDIT_TIMEOUT (R434). -/
  | creditTimeout (n : Nat)
  /-- HEDGE_EPOCH_RECORD (R438). -/
  | hedgeEpochRecord (g : Nat)
  /-- LANE_ENABLE_WRITE (R419). -/
  | laneEnableWrite (p : Path) (v : Int)
  /-- CTB_ROLE_WRITE (R440). -/
  | ctbRoleWrite (p : Path) (sub : Nat) (v : Int)
  /-- UPD_DATA (R454). -/
  | updData (p : Path) (len : Nat) (v : Int)
  /-- UPDATE_FRAME (R454). -/
  | updateFrame
  /-- SESSION_INACTIVITY (R454). -/
  | sessionInactivity
  /-- UPD_ABORT (R455). -/
  | updAbort (p : Path) (v : Int)
  /-- BANK_WRITE_COMPLETE (R456). -/
  | bankWriteComplete (good : Bool)
  /-- HEDGE_OFFER (R458). -/
  | hedgeOffer
  /-- HEDGE_ANSWER (R457). -/
  | hedgeAnswer
  /-- HEDGE_END (R458). -/
  | hedgeEnd
  /-- FORWARD_RETRY (R457). -/
  | forwardRetry (k : Nat)
  /-- CONFIRM (R462). -/
  | confirm (p : Path) (v : Int)
  /-- TRIAL_TIMEOUT (R462). -/
  | trialTimeout
  /-- TRACE_WRITE (R470). -/
  | traceWrite
  /-- TRACE_PORT_SEND (R475). -/
  | tracePortSend
  /-- TRACE_ROW_LATCH (R474). -/
  | traceRowLatch (p : Path) (v : Int)
  /-- RAIL_FAULT (R332). -/
  | railFault (g : Nat) (v : Nat)
  /-- ERROR_REGISTER_BIT_4_CLEAR (R386). -/
  | errorRegisterBit4Clear
  deriving DecidableEq, Repr

end Sys2Proof
end

