-- ==== Sys2Proof/Decode.lean ====
section
/-!
DEFINITION. Reading a command from a table word. The commands of this block are accesses and events, and no row of the table has
bits, so that no word spells one.
-/

namespace Sys2Proof

/-- The command that the `nbits` bits of `w` spell: none, for the table gives no row bits. -/
def decodeTableWord (_nbits _w : Nat) : Option Instr := none

end Sys2Proof
end

