-- ==== Sys2Proof/Config.lean ====
section
/-!
DEFINITION. What an implementation fixes and the manual leaves open. Every `free…` is a constant without a body: no proof can
see its value. A free value is taken with the counter `State.free`, which each taking advances (log entry 2).
-/

namespace Sys2Proof.Config

/-- A value within a stated latitude, or a value the manual leaves open; reduced to the stated bound where it is used. -/
opaque freeNat : Nat → Nat

/-- A signed value the manual leaves open. -/
opaque freeInt : Nat → Int

/-- The preset coefficients of filter stage 0 to 3, which the device description file lists (R80); in use where they are as R80 says. -/
opaque presetTaps : Nat → List Int

/-- The fractional-phase variant of stage-1 coefficients for DELAY_FRAC (R81: "windowed interpolation", not given), tap by tap. -/
opaque fracVariant : List Int → Nat → List Int

/-- The interpolator reference of a channel as loaded from flash: correction entry j of 64, in 1/65,536 sample (R110, R293). -/
opaque interpCorrection : Nat → Nat → Int

/-- Factory constants of the event timer: table entry of a fine converter in fs, and the path delays (R358, R359). -/
opaque timerTable : Nat → Nat → Nat
opaque pathDelay : Nat → Int

/-- Quality figures of a unit as loaded from flash (R300). -/
opaque quality : Nat → Nat → Nat

/-- Set at manufacture or by the release: serial number, hardware revision, firmware version, dictionary version, vendor-ID. -/
opaque serialNumber : Nat
opaque hwRevision : Nat
opaque fwVersion : Nat
opaque dictionaryVersion : Nat
opaque vendorId : Nat
opaque catalogueVersion : Nat

/-- The verdict of the signature check of an image (R460): KEY_ID, bytes 0 to 63 as a number, SIGNATURE as a number. The keys are
the maker's, held in the boot ROM. -/
opaque knownKey : Nat → Bool
opaque signatureGood : Nat → Nat → Nat → Bool

/-- The header layout version that FORMAT must name (R449). -/
opaque headerFormat : Nat

/-- The release written at manufacture: its DIGEST (R449). -/
opaque factoryDigest : Nat

end Sys2Proof.Config
end

