-- ==== Sys2Proof/Machine/Bits.lean ====
section
/-!
DEFINITION. Bit fields, two's complement, little-endian bytes, and rounding: the helpers that the meanings share.
-/

namespace Sys2Proof.Machine

/-- Bit `i` of `n`. -/
def bit (n i : Nat) : Bool := n / 2 ^ i % 2 == 1

/-- Bits [hi:lo] of `n`. -/
def bits (n hi lo : Nat) : Nat := n / 2 ^ lo % 2 ^ (hi + 1 - lo)

/-- `n` with bit `i` set to `b`. -/
def setBit (n i : Nat) (b : Bool) : Nat :=
  if bit n i == b then n else if b then n + 2 ^ i else n - 2 ^ i

/-- The number of a truth value. -/
def b2n (b : Bool) : Nat := if b then 1 else 0

/-- `b` at bit `i`. -/
def at_ (b : Bool) (i : Nat) : Nat := if b then 2 ^ i else 0

/-- The bits of `n` in the order of `is`, lowest first: the positions below `k` that are set. -/
def onesBelow (n k : Nat) : List Nat := (List.range k).filter (fun i => bit n i)

/-- `x` as a `w`-bit two's complement pattern. -/
def wrapU (w : Nat) (x : Int) : Nat := (x % (2 ^ w : Nat)).toNat

/-- A `w`-bit pattern as a signed number. -/
def wrapS (w : Nat) (x : Int) : Int :=
  let u := x % (2 ^ w : Nat)
  if u ≥ (2 ^ (w - 1) : Nat) then u - (2 ^ w : Nat) else u

/-- `x` held to [lo, hi]. -/
def clampI (lo hi x : Int) : Int := if x < lo then lo else if hi < x then hi else x

/-- Saturation to 16 bits (R76). -/
def sat16 (x : Int) : Int := clampI (-32768) 32767 x

/-- a / b rounded to the nearest, ties away from zero (b positive). -/
def roundDiv (a b : Int) : Int :=
  if a ≥ 0 then (2 * a + b) / (2 * b) else -((2 * (-a) + b) / (2 * b))

/-- The least multiple of `m` above `a` that is at or above `b` when counted from `a`. -/
def alignUp (a m b : Nat) : Nat := if b ≤ a then a else a + (b - a + m - 1) / m * m

/-- ceil(a / b) for naturals. -/
def ceilDiv (a b : Nat) : Nat := (a + b - 1) / b

/-- `n` bytes of `v`, little-endian. -/
def leBytes : Nat → Nat → List Nat
  | 0, _ => []
  | n + 1, v => v % 256 :: leBytes n (v / 256)

/-- The number that little-endian bytes spell. -/
def ofLe : List Nat → Nat
  | [] => 0
  | b :: r => b % 256 + 256 * ofLe r

/-- One bit step of CRC-32C, reflected polynomial 0x82F6_3B78 (R54). -/
def crcBit (c : Nat) : Nat := if c % 2 == 1 then (c / 2) ^^^ 0x82F63B78 else c / 2

/-- One byte step of CRC-32C. -/
def crcByte (c b : Nat) : Nat := crcBit (crcBit (crcBit (crcBit (crcBit (crcBit (crcBit (crcBit (c ^^^ b))))))))

/-- CRC-32C over bytes, initial value and final exclusive-OR 0xFFFF_FFFF (R54). -/
def crc32c (bs : List Nat) : Nat := bs.foldl crcByte 0xFFFFFFFF ^^^ 0xFFFFFFFF

end Sys2Proof.Machine
end

