-- ==== Sys2Proof/Machine/Tbl.lean ====
section
/-!
DEFINITION. Finite tables: an association list with strictly rising keys. Everything the part holds many of (objects, rows,
slots, plans, grains) is held in one of these; a key with no entry reads as the table's rest value, which the reader names.
-/

namespace Sys2Proof.Machine

/-- A table from numbers to values, keys strictly rising (`Tbl.wf`). -/
abbrev Tbl (α : Type) := List (Nat × α)

/-- The entry of key `k`, if one is listed. -/
def tfind {α : Type} (t : Tbl α) (k : Nat) : Option α :=
  match t with
  | [] => none
  | (j, v) :: r => if j = k then some v else tfind r k

/-- The value of key `k`: its entry, or the rest value `d k`. -/
def tget {α : Type} (d : Nat → α) (t : Tbl α) (k : Nat) : α :=
  (tfind t k).getD (d k)

/-- Write `v` at key `k`. -/
def tset {α : Type} (k : Nat) (v : α) (t : Tbl α) : Tbl α :=
  match t with
  | [] => [(k, v)]
  | (j, w) :: r =>
    if k < j then (k, v) :: (j, w) :: r
    else if k = j then (k, v) :: r
    else (j, w) :: tset k v r

/-- Remove the entry of key `k`. -/
def tdel {α : Type} (k : Nat) (t : Tbl α) : Tbl α :=
  match t with
  | [] => []
  | (j, w) :: r => if j = k then r else (j, w) :: tdel k r

/-- Change the value at key `k` by `f`, from the rest value `d k` where none is listed. -/
def tmod {α : Type} (d : Nat → α) (k : Nat) (f : α → α) (t : Tbl α) : Tbl α :=
  tset k (f (tget d t k)) t

/-- Write `f k` at every key of `ks`. -/
def tsetMany {α : Type} (ks : List Nat) (f : Nat → α) (t : Tbl α) : Tbl α :=
  ks.foldl (fun u k => tset k (f k) u) t

/-- The canonical form: keys strictly rising. -/
def Tbl.wf {α : Type} (t : Tbl α) : Bool :=
  match t with
  | [] => true
  | [_] => true
  | (j, _) :: (k, w) :: r => decide (j < k) && Tbl.wf ((k, w) :: r)

end Sys2Proof.Machine
end

