-- ==== Sys2Proof/Machine/Dict.lean ====
section
/-!
DEFINITION. The object dictionary's rows: index, how many indices repeat the row and at what distance, first and last
sub-index, type (R401), access (R402), default, range (R9), the mask of a bit map's defined bits, and whether the range is
an encoding table (R9: a value outside it is reserved). One row per line of the chapters' object tables; the rows 1000h to
1FFFh follow R375, R383, R385 to R387, R405 with the sub-indices of CiA 1301 (PRESUMED, log entry 9).
-/

namespace Sys2Proof.Machine

/-- The types of R401. -/
inductive Ty where
  | bool | u8 | u16 | u32 | u64 | i8 | i16 | i32 | i64 | r32 | r64 | dom
  deriving DecidableEq, Repr

/-- The access codes of R402. -/
inductive Access where
  | ro | rw | wo
  deriving DecidableEq, Repr

/-- One row of an object table. -/
structure Row where
  idx : Nat
  cnt : Nat
  step : Nat
  sub0 : Nat
  sub1 : Nat
  ty : Ty
  acc : Access
  dflt : Int
  lo : Int
  hi : Int
  mask : Option Nat
  enc : Bool
  deriving DecidableEq, Repr

/-- Object rows of chapter 02. -/
def rows02a : List Row := [
  ⟨0x3000, 4, 0x100, 1, 1, .bool, .rw, 1, 0, 1, none, false⟩,
  ⟨0x3000, 4, 0x100, 2, 2, .u8, .rw, 5, 0, 5, none, true⟩,
  ⟨0x3000, 4, 0x100, 3, 3, .i16, .rw, 0, -20000, 20000, none, false⟩,
  ⟨0x3000, 4, 0x100, 4, 4, .u8, .ro, 5, 0, 255, none, false⟩,
  ⟨0x3000, 4, 0x100, 5, 5, .i16, .ro, 0, -32768, 32767, none, false⟩,
  ⟨0x3000, 4, 0x100, 6, 6, .u16, .rw, 3, 0, 65535, (some 31), false⟩,
  ⟨0x3000, 4, 0x100, 7, 7, .u64, .ro, 0, 0, 18446744073709551615, none, false⟩,
  ⟨0x3000, 4, 0x100, 8, 8, .r32, .ro, 1148493332, 0, 4294967295, none, false⟩,
  ⟨0x3000, 4, 0x100, 9, 9, .u32, .rw, 0, 0, 0, none, false⟩,
  ⟨0x3000, 4, 0x100, 10, 10, .u8, .ro, 0, 0, 255, none, false⟩,
  ⟨0x3000, 4, 0x100, 11, 11, .u16, .ro, 4, 0, 65535, none, false⟩,
  ⟨0x3000, 4, 0x100, 12, 12, .u16, .ro, 4, 0, 65535, none, false⟩,
  ⟨0x3000, 4, 0x100, 13, 13, .u16, .ro, 4, 0, 65535, none, false⟩,
  ⟨0x3000, 4, 0x100, 14, 14, .u16, .ro, 4, 0, 65535, none, false⟩]

/-- Object rows of chapter 03. -/
def rows03a : List Row := [
  ⟨0x3410, 4, 0x100, 1, 1, .u8, .rw, 1, 1, 4, none, false⟩,
  ⟨0x3410, 4, 0x100, 2, 2, .u8, .rw, 0, 0, 255, none, false⟩,
  ⟨0x3410, 4, 0x100, 3, 3, .i32, .rw, 0, -131072, 131071, none, false⟩,
  ⟨0x3410, 4, 0x100, 4, 4, .u8, .rw, 17, 0, 31, none, false⟩,
  ⟨0x3410, 4, 0x100, 5, 5, .u8, .ro, 15, 0, 255, none, false⟩,
  ⟨0x3410, 4, 0x100, 6, 6, .i32, .ro, 0, -2147483648, 2147483647, none, false⟩,
  ⟨0x3410, 4, 0x100, 7, 7, .u8, .ro, 17, 0, 255, none, false⟩,
  ⟨0x3410, 4, 0x100, 8, 8, .bool, .wo, 0, 1, 1, none, false⟩,
  ⟨0x3410, 4, 0x100, 9, 9, .bool, .wo, 0, 1, 1, none, false⟩,
  ⟨0x3400, 4, 0x100, 1, 1, .u8, .rw, 0, 0, 4, none, true⟩,
  ⟨0x3400, 4, 0x100, 2, 2, .u8, .rw, 1, 1, 2, none, true⟩,
  ⟨0x3400, 4, 0x100, 3, 3, .u32, .rw, 2, 2, 1048576, none, false⟩,
  ⟨0x3400, 4, 0x100, 4, 4, .u16, .rw, 0, 0, 4095, none, false⟩,
  ⟨0x3400, 4, 0x100, 5, 5, .u8, .rw, 0, 0, 63, none, false⟩,
  ⟨0x3400, 4, 0x100, 6, 6, .u16, .ro, 0, 0, 65535, none, false⟩,
  ⟨0x3400, 4, 0x100, 7, 7, .u16, .rw, 0, 0, 4096, none, false⟩,
  ⟨0x3400, 4, 0x100, 8, 8, .bool, .wo, 0, 1, 1, none, false⟩,
  ⟨0x3400, 4, 0x100, 9, 9, .u8, .ro, 0, 0, 255, none, false⟩,
  ⟨0x3400, 4, 0x100, 10, 10, .u64, .ro, 0, 0, 18446744073709551615, none, false⟩,
  ⟨0x3400, 4, 0x100, 11, 11, .u32, .rw, 0, 0, 0, none, false⟩,
  ⟨0x3400, 4, 0x100, 12, 12, .u32, .rw, 0, 0, 0, none, false⟩,
  ⟨0x3400, 4, 0x100, 13, 13, .u32, .ro, 0, 0, 4294967295, none, false⟩,
  ⟨0x3400, 4, 0x100, 14, 14, .u64, .ro, 0, 0, 18446744073709551615, none, false⟩,
  ⟨0x3400, 4, 0x100, 15, 15, .bool, .rw, 1, 0, 1, none, false⟩]

/-- Object rows of chapter 03. -/
def rows03b : List Row := [
  ⟨0x3400, 4, 0x100, 16, 16, .u32, .rw, 0, 0, 0, none, false⟩,
  ⟨0x3400, 4, 0x100, 17, 17, .u32, .rw, 0, 0, 0, none, false⟩,
  ⟨0x3400, 4, 0x100, 18, 18, .u32, .rw, 0, 0, 0, none, false⟩]

/-- Object rows of chapter 04. -/
def rows04a : List Row := [
  ⟨0x4000, 1, 0x1, 1, 1, .u16, .ro, 0, 0, 65535, none, false⟩,
  ⟨0x4000, 1, 0x1, 2, 2, .u8, .rw, 1, 0, 2, none, true⟩,
  ⟨0x4000, 1, 0x1, 3, 3, .u16, .rw, 0, 0, 65535, none, false⟩,
  ⟨0x4000, 1, 0x1, 4, 4, .u8, .rw, 0, 0, 255, none, false⟩,
  ⟨0x4000, 1, 0x1, 5, 5, .u16, .rw, 10, 2, 1250, none, false⟩,
  ⟨0x4000, 1, 0x1, 6, 6, .bool, .rw, 0, 0, 1, none, false⟩,
  ⟨0x4000, 1, 0x1, 7, 7, .u8, .rw, 0, 0, 255, (some 15), false⟩,
  ⟨0x4000, 1, 0x1, 8, 8, .u16, .ro, 0, 0, 65535, none, false⟩,
  ⟨0x4000, 1, 0x1, 9, 9, .u64, .ro, 0, 0, 18446744073709551615, none, false⟩,
  ⟨0x4000, 1, 0x1, 10, 10, .u16, .ro, 0, 0, 65535, none, false⟩,
  ⟨0x4000, 1, 0x1, 11, 11, .u8, .ro, 0, 0, 255, none, false⟩,
  ⟨0x4000, 1, 0x1, 12, 12, .u16, .ro, 0, 0, 65535, none, false⟩,
  ⟨0x4000, 1, 0x1, 13, 13, .u32, .rw, 0, 0, 0, none, false⟩,
  ⟨0x4000, 1, 0x1, 14, 14, .u8, .ro, 0, 0, 255, none, false⟩,
  ⟨0x4000, 1, 0x1, 16, 31, .u32, .rw, 0, 0, 0, none, false⟩,
  ⟨0x4010, 8, 0x1, 1, 1, .u8, .rw, 0, 0, 5, none, true⟩,
  ⟨0x4010, 8, 0x1, 2, 2, .u8, .rw, 0, 0, 1, none, true⟩,
  ⟨0x4010, 8, 0x1, 3, 3, .u8, .rw, 0, 0, 3, none, false⟩,
  ⟨0x4010, 8, 0x1, 4, 4, .u8, .rw, 0, 0, 2, none, true⟩,
  ⟨0x4010, 8, 0x1, 5, 5, .i16, .rw, 0, -32768, 32767, none, false⟩,
  ⟨0x4010, 8, 0x1, 6, 6, .i16, .rw, 0, -32768, 32767, none, false⟩,
  ⟨0x4010, 8, 0x1, 7, 7, .u16, .rw, 64, 0, 8192, none, false⟩,
  ⟨0x4010, 8, 0x1, 8, 8, .u16, .rw, 0, 0, 65535, none, false⟩,
  ⟨0x4010, 8, 0x1, 9, 9, .u16, .rw, 0, 0, 65535, none, false⟩]

/-- Object rows of chapter 04. -/
def rows04b : List Row := [
  ⟨0x4010, 8, 0x1, 10, 10, .u8, .rw, 1, 0, 1, none, true⟩,
  ⟨0x4010, 8, 0x1, 11, 11, .u8, .rw, 0, 0, 7, none, false⟩,
  ⟨0x4010, 8, 0x1, 12, 12, .u8, .rw, 0, 0, 7, none, false⟩,
  ⟨0x4010, 8, 0x1, 13, 13, .u64, .rw, 0, 0, 1099511627776, none, false⟩,
  ⟨0x4010, 8, 0x1, 14, 14, .u8, .rw, 0, 0, 2, none, true⟩,
  ⟨0x4010, 8, 0x1, 15, 15, .u32, .rw, 0, 0, 4294967295, none, false⟩,
  ⟨0x4010, 8, 0x1, 16, 16, .u16, .rw, 2, 2, 65535, none, false⟩,
  ⟨0x4010, 8, 0x1, 17, 17, .u16, .rw, 65535, 0, 65535, none, false⟩,
  ⟨0x4010, 8, 0x1, 18, 18, .u32, .rw, 0, 0, 16777215, none, false⟩,
  ⟨0x4010, 8, 0x1, 19, 19, .u8, .rw, 0, 0, 2, none, true⟩,
  ⟨0x4010, 8, 0x1, 20, 20, .u64, .rw, 1, 1, 1099511627776, none, false⟩,
  ⟨0x4010, 8, 0x1, 21, 21, .u32, .rw, 1, 1, 4294967295, none, false⟩,
  ⟨0x4010, 8, 0x1, 22, 22, .u32, .rw, 0, 0, 0, none, false⟩,
  ⟨0x4010, 8, 0x1, 23, 23, .u32, .rw, 0, 0, 0, none, false⟩,
  ⟨0x4010, 8, 0x1, 24, 24, .u16, .ro, 0, 0, 65535, none, false⟩,
  ⟨0x4020, 4, 0x1, 1, 1, .i16, .rw, 16384, -32768, 32767, none, false⟩,
  ⟨0x4020, 4, 0x1, 2, 2, .i16, .rw, -16384, -32768, 32767, none, false⟩,
  ⟨0x4020, 4, 0x1, 3, 3, .u16, .rw, 64, 0, 8192, none, false⟩,
  ⟨0x4030, 1, 0x1, 1, 1, .u8, .rw, 0, 0, 255, (some 3), false⟩,
  ⟨0x4030, 1, 0x1, 2, 2, .u32, .rw, 0, 0, 4294967295, none, false⟩,
  ⟨0x4030, 1, 0x1, 3, 3, .u16, .ro, 65535, 0, 65535, none, false⟩,
  ⟨0x4030, 1, 0x1, 4, 4, .u16, .ro, 0, 0, 65535, none, false⟩,
  ⟨0x4030, 1, 0x1, 5, 5, .u32, .ro, 0, 0, 4294967295, none, false⟩,
  ⟨0x4030, 1, 0x1, 6, 6, .u16, .rw, 0, 0, 65534, none, false⟩]

/-- Object rows of chapter 04. -/
def rows04c : List Row := [
  ⟨0x4030, 1, 0x1, 7, 7, .u16, .rw, 0, 0, 65535, none, false⟩,
  ⟨0x4030, 1, 0x1, 8, 8, .u32, .rw, 0, 0, 4294967295, none, false⟩,
  ⟨0x4030, 1, 0x1, 9, 9, .u32, .rw, 0, 0, 4294967295, none, false⟩]

/-- Object rows of chapter 05. -/
def rows05a : List Row := [
  ⟨0x4100, 16, 0x1, 1, 1, .u8, .ro, 0, 0, 255, none, false⟩,
  ⟨0x4100, 16, 0x1, 2, 2, .u8, .rw, 0, 0, 255, (some 15), false⟩,
  ⟨0x4100, 16, 0x1, 3, 3, .u32, .rw, 0, 0, 4294967295, (some 4280287231), false⟩,
  ⟨0x4100, 16, 0x1, 4, 4, .u32, .rw, 0, 0, 4294967295, (some 4280287231), false⟩,
  ⟨0x4100, 16, 0x1, 5, 5, .u32, .rw, 0, 0, 4294967295, (some 4280287231), false⟩,
  ⟨0x4100, 16, 0x1, 6, 6, .u32, .rw, 0, 0, 4294967295, (some 4280287231), false⟩,
  ⟨0x4100, 16, 0x1, 7, 7, .u8, .rw, 0, 0, 255, none, false⟩,
  ⟨0x4100, 16, 0x1, 8, 8, .u8, .rw, 0, 0, 2, none, true⟩,
  ⟨0x4100, 16, 0x1, 9, 9, .u32, .rw, 0, 0, 111848105, none, false⟩,
  ⟨0x4100, 16, 0x1, 10, 10, .u32, .rw, 1, 1, 111848106, none, false⟩,
  ⟨0x4100, 16, 0x1, 11, 11, .u32, .rw, 1, 1, 262144, none, false⟩,
  ⟨0x4100, 16, 0x1, 12, 12, .u32, .rw, 0, 0, 111848106, none, false⟩,
  ⟨0x4100, 16, 0x1, 13, 13, .u32, .rw, 0, 0, 111848106, none, false⟩,
  ⟨0x4100, 16, 0x1, 14, 14, .u16, .rw, 0, 0, 65535, none, false⟩,
  ⟨0x4100, 16, 0x1, 15, 15, .u32, .rw, 0, 0, 65536, none, false⟩,
  ⟨0x4100, 16, 0x1, 16, 16, .bool, .rw, 0, 0, 1, none, false⟩,
  ⟨0x4100, 16, 0x1, 17, 17, .u32, .ro, 0, 0, 4294967295, none, false⟩,
  ⟨0x4100, 16, 0x1, 18, 18, .u32, .rw, 0, 0, 0, none, false⟩,
  ⟨0x4100, 16, 0x1, 19, 19, .u32, .rw, 0, 0, 0, none, false⟩,
  ⟨0x4100, 16, 0x1, 20, 20, .u64, .ro, 0, 0, 18446744073709551615, none, false⟩,
  ⟨0x4100, 16, 0x1, 21, 21, .u64, .ro, 0, 0, 18446744073709551615, none, false⟩,
  ⟨0x4100, 16, 0x1, 22, 22, .u32, .ro, 0, 0, 4294967295, none, false⟩,
  ⟨0x4100, 16, 0x1, 23, 23, .u32, .ro, 0, 0, 4294967295, none, false⟩,
  ⟨0x4100, 16, 0x1, 24, 24, .u64, .ro, 0, 0, 18446744073709551615, none, false⟩]

/-- Object rows of chapter 05. -/
def rows05b : List Row := [
  ⟨0x4200, 1, 0x1, 1, 1, .u32, .rw, 0, 0, 262143, none, false⟩,
  ⟨0x4200, 1, 0x1, 2, 2, .u32, .ro, 0, 0, 4294967295, none, false⟩,
  ⟨0x4200, 1, 0x1, 3, 3, .u16, .ro, 0, 0, 65535, none, false⟩,
  ⟨0x4200, 1, 0x1, 4, 4, .u8, .ro, 0, 0, 255, none, false⟩,
  ⟨0x4200, 1, 0x1, 5, 5, .u8, .ro, 0, 0, 255, none, false⟩,
  ⟨0x4200, 1, 0x1, 6, 6, .u16, .ro, 0, 0, 65535, none, false⟩,
  ⟨0x4200, 1, 0x1, 7, 7, .u16, .ro, 0, 0, 65535, none, false⟩,
  ⟨0x4200, 1, 0x1, 8, 8, .u32, .ro, 0, 0, 4294967295, none, false⟩,
  ⟨0x4200, 1, 0x1, 9, 9, .u64, .ro, 0, 0, 18446744073709551615, none, false⟩,
  ⟨0x4200, 1, 0x1, 10, 10, .u64, .ro, 0, 0, 18446744073709551615, none, false⟩,
  ⟨0x4200, 1, 0x1, 11, 11, .u32, .ro, 0, 0, 4294967295, none, false⟩,
  ⟨0x4200, 1, 0x1, 12, 12, .u32, .ro, 0, 0, 4294967295, none, false⟩,
  ⟨0x4200, 1, 0x1, 13, 13, .u32, .ro, 0, 0, 4294967295, none, false⟩,
  ⟨0x4200, 1, 0x1, 14, 14, .u8, .ro, 0, 0, 255, none, false⟩,
  ⟨0x4201, 1, 0x1, 1, 1, .u32, .ro, 0, 0, 4294967295, none, false⟩,
  ⟨0x4201, 1, 0x1, 2, 2, .u32, .ro, 0, 0, 4294967295, none, false⟩,
  ⟨0x4201, 1, 0x1, 3, 3, .u32, .ro, 262144, 0, 4294967295, none, false⟩,
  ⟨0x4201, 1, 0x1, 4, 4, .u32, .rw, 4294967295, 0, 4294967295, none, false⟩,
  ⟨0x4201, 1, 0x1, 5, 5, .u32, .rw, 0, 0, 0, none, false⟩,
  ⟨0x4201, 1, 0x1, 6, 6, .u32, .rw, 0, 0, 0, none, false⟩,
  ⟨0x4201, 1, 0x1, 7, 7, .u32, .rw, 0, 0, 0, none, false⟩,
  ⟨0x4201, 1, 0x1, 8, 8, .u32, .rw, 0, 0, 0, none, false⟩,
  ⟨0x4201, 1, 0x1, 9, 9, .u32, .ro, 0, 0, 4294967295, none, false⟩]

/-- Object rows of chapter 06. -/
def rows06a : List Row := [
  ⟨0x4400, 1, 0x1, 1, 1, .u16, .ro, 1, 0, 65535, none, false⟩,
  ⟨0x4400, 1, 0x1, 2, 2, .u32, .ro, 447392426, 0, 4294967295, none, false⟩,
  ⟨0x4400, 1, 0x1, 3, 3, .u32, .rw, 111848106, 0, 4294967295, none, false⟩,
  ⟨0x4400, 1, 0x1, 4, 4, .u32, .rw, 111848106, 0, 4294967295, none, false⟩,
  ⟨0x4400, 1, 0x1, 5, 5, .u32, .rw, 111848106, 0, 4294967295, none, false⟩,
  ⟨0x4400, 1, 0x1, 6, 6, .u32, .rw, 111848106, 0, 4294967295, none, false⟩,
  ⟨0x4400, 1, 0x1, 7, 7, .u32, .ro, 111848106, 0, 4294967295, none, false⟩,
  ⟨0x4400, 1, 0x1, 8, 8, .u32, .ro, 111848106, 0, 4294967295, none, false⟩,
  ⟨0x4400, 1, 0x1, 9, 9, .u32, .ro, 111848106, 0, 4294967295, none, false⟩,
  ⟨0x4400, 1, 0x1, 10, 10, .u32, .ro, 111848106, 0, 4294967295, none, false⟩,
  ⟨0x4400, 1, 0x1, 11, 11, .u16, .rw, 3968, 3968, 8192, none, false⟩,
  ⟨0x4400, 1, 0x1, 12, 12, .u16, .rw, 760, 100, 760, none, false⟩,
  ⟨0x4400, 1, 0x1, 13, 13, .u16, .ro, 0, 0, 65535, none, false⟩,
  ⟨0x4400, 1, 0x1, 14, 14, .u16, .ro, 0, 0, 65535, none, false⟩,
  ⟨0x4400, 1, 0x1, 15, 15, .u16, .ro, 0, 0, 65535, none, false⟩,
  ⟨0x4400, 1, 0x1, 16, 16, .u16, .ro, 0, 0, 65535, none, false⟩,
  ⟨0x4400, 1, 0x1, 17, 17, .u16, .ro, 0, 0, 65535, none, false⟩,
  ⟨0x4400, 1, 0x1, 18, 18, .u32, .rw, 0, 0, 0, none, false⟩,
  ⟨0x4400, 1, 0x1, 19, 19, .u32, .rw, 0, 0, 0, none, false⟩,
  ⟨0x4400, 1, 0x1, 20, 20, .u32, .ro, 0, 0, 4294967295, none, false⟩,
  ⟨0x4400, 1, 0x1, 21, 21, .u32, .ro, 0, 0, 4294967295, none, false⟩,
  ⟨0x4400, 1, 0x1, 22, 22, .u32, .ro, 0, 0, 4294967295, none, false⟩,
  ⟨0x4400, 1, 0x1, 23, 23, .u16, .ro, 4, 0, 65535, none, false⟩,
  ⟨0x4400, 1, 0x1, 24, 24, .u16, .ro, 4, 0, 65535, none, false⟩]

/-- Object rows of chapter 06. -/
def rows06b : List Row := [
  ⟨0x4400, 1, 0x1, 25, 25, .u16, .ro, 4, 0, 65535, none, false⟩,
  ⟨0x4400, 1, 0x1, 26, 26, .u16, .ro, 4, 0, 65535, none, false⟩,
  ⟨0x4400, 1, 0x1, 27, 27, .u8, .ro, 0, 0, 255, none, false⟩,
  ⟨0x4401, 1, 0x1, 1, 1, .u32, .rw, 0, 0, 1048575, none, false⟩,
  ⟨0x4401, 1, 0x1, 2, 2, .u8, .ro, 0, 0, 255, none, false⟩,
  ⟨0x4401, 1, 0x1, 3, 3, .u8, .ro, 0, 0, 255, none, false⟩,
  ⟨0x4401, 1, 0x1, 4, 4, .u64, .ro, 0, 0, 18446744073709551615, none, false⟩,
  ⟨0x4401, 1, 0x1, 5, 5, .u32, .ro, 0, 0, 4294967295, none, false⟩,
  ⟨0x4401, 1, 0x1, 6, 6, .u32, .ro, 0, 0, 4294967295, none, false⟩,
  ⟨0x4401, 1, 0x1, 7, 7, .u8, .ro, 0, 0, 255, none, false⟩,
  ⟨0x4401, 1, 0x1, 8, 8, .u8, .ro, 0, 0, 255, none, false⟩]

/-- Object rows of chapter 07. -/
def rows07a : List Row := [
  ⟨0x4800, 1, 0x1, 1, 1, .u32, .ro, 0, 0, 4294967295, none, false⟩,
  ⟨0x4800, 1, 0x1, 2, 2, .u16, .ro, 256, 0, 65535, none, false⟩,
  ⟨0x4800, 1, 0x1, 3, 3, .u16, .ro, 0, 0, 65535, none, false⟩,
  ⟨0x4800, 1, 0x1, 4, 4, .u16, .ro, 1500, 0, 65535, none, false⟩,
  ⟨0x4800, 1, 0x1, 5, 5, .u16, .rw, 10, 1, 1000, none, false⟩,
  ⟨0x4800, 1, 0x1, 6, 6, .u16, .rw, 10, 1, 1000, none, false⟩,
  ⟨0x4800, 1, 0x1, 7, 7, .u32, .ro, 0, 0, 4294967295, none, false⟩,
  ⟨0x4800, 1, 0x1, 8, 8, .u8, .ro, 0, 0, 255, none, false⟩,
  ⟨0x4800, 1, 0x1, 9, 9, .u64, .rw, 0, 0, 0, none, false⟩,
  ⟨0x4800, 1, 0x1, 10, 10, .u32, .rw, 0, 0, 0, none, false⟩,
  ⟨0x4800, 1, 0x1, 11, 11, .u32, .rw, 0, 0, 0, none, false⟩,
  ⟨0x4800, 1, 0x1, 12, 12, .u32, .rw, 0, 0, 0, none, false⟩,
  ⟨0x4800, 1, 0x1, 13, 13, .u32, .rw, 0, 0, 0, none, false⟩,
  ⟨0x4800, 1, 0x1, 14, 14, .u32, .rw, 0, 0, 0, none, false⟩,
  ⟨0x4800, 1, 0x1, 15, 15, .u32, .rw, 0, 0, 0, none, false⟩,
  ⟨0x4800, 1, 0x1, 16, 31, .u16, .ro, 4, 0, 65535, none, false⟩,
  ⟨0x4800, 1, 0x1, 32, 32, .u32, .rw, 0, 0, 0, none, false⟩,
  ⟨0x4810, 1, 0x1, 1, 1, .u8, .rw, 0, 0, 255, none, false⟩,
  ⟨0x4810, 1, 0x1, 2, 2, .u8, .rw, 2, 1, 2, none, false⟩,
  ⟨0x4810, 1, 0x1, 3, 3, .u32, .rw, 436907, 131072, 4294967295, none, false⟩,
  ⟨0x4810, 1, 0x1, 4, 4, .u8, .rw, 6, 1, 16, none, false⟩,
  ⟨0x4810, 1, 0x1, 5, 5, .u8, .rw, 14, 2, 30, none, false⟩,
  ⟨0x4810, 1, 0x1, 6, 6, .u8, .rw, 1, 0, 1, none, true⟩,
  ⟨0x4810, 1, 0x1, 7, 7, .u16, .rw, 256, 0, 65535, none, false⟩]

/-- Object rows of chapter 07. -/
def rows07b : List Row := [
  ⟨0x4810, 1, 0x1, 8, 8, .bool, .wo, 0, 1, 1, none, false⟩,
  ⟨0x4820, 1, 0x1, 1, 1, .u8, .rw, 0, 0, 255, none, false⟩,
  ⟨0x4820, 1, 0x1, 2, 2, .u8, .rw, 0, 0, 1, none, true⟩,
  ⟨0x4820, 1, 0x1, 3, 3, .u16, .rw, 20, 1, 500, none, false⟩,
  ⟨0x4820, 1, 0x1, 4, 4, .u8, .rw, 0, 0, 1, none, true⟩,
  ⟨0x4820, 1, 0x1, 5, 5, .u16, .rw, 500, 1, 999, none, false⟩,
  ⟨0x4820, 1, 0x1, 6, 6, .r32, .rw, 0, 0, 4294967295, none, false⟩,
  ⟨0x4820, 1, 0x1, 7, 7, .u16, .rw, 50, 0, 250, none, false⟩,
  ⟨0x4820, 1, 0x1, 8, 8, .u8, .rw, 0, 0, 1, none, true⟩,
  ⟨0x4820, 1, 0x1, 9, 9, .bool, .wo, 0, 1, 1, none, false⟩,
  ⟨0x4A00, 1, 0x1, 1, 1, .u16, .rw, 0, 0, 65535, none, false⟩,
  ⟨0x4A00, 1, 0x1, 2, 2, .bool, .rw, 0, 0, 1, none, false⟩,
  ⟨0x4A00, 1, 0x1, 3, 3, .u8, .rw, 0, 0, 3, none, true⟩,
  ⟨0x4A00, 1, 0x1, 4, 4, .u8, .rw, 0, 0, 7, none, false⟩,
  ⟨0x4A00, 1, 0x1, 5, 5, .u8, .rw, 0, 0, 2, none, true⟩,
  ⟨0x4A00, 1, 0x1, 6, 6, .u32, .rw, 0, 0, 4294967295, none, false⟩,
  ⟨0x4A00, 1, 0x1, 7, 7, .u16, .rw, 2, 2, 65535, none, false⟩,
  ⟨0x4A00, 1, 0x1, 8, 8, .u16, .rw, 65535, 0, 65535, none, false⟩,
  ⟨0x4A00, 1, 0x1, 9, 9, .i64, .rw, 0, -1099511627776, 1099511627776, none, false⟩,
  ⟨0x4A00, 1, 0x1, 10, 10, .u64, .rw, 0, 0, 1099511627776, none, false⟩,
  ⟨0x4A00, 1, 0x1, 11, 11, .u8, .rw, 0, 0, 255, (some 15), false⟩,
  ⟨0x4A00, 1, 0x1, 12, 12, .u32, .rw, 0, 0, 4294967295, (some 1073741823), false⟩,
  ⟨0x4A00, 1, 0x1, 13, 13, .u16, .rw, 65535, 0, 65535, none, false⟩,
  ⟨0x4A00, 1, 0x1, 14, 14, .u8, .rw, 0, 0, 255, none, false⟩]

/-- Object rows of chapter 07. -/
def rows07c : List Row := [
  ⟨0x4A00, 1, 0x1, 15, 15, .u16, .rw, 65535, 0, 65535, none, false⟩,
  ⟨0x4A00, 1, 0x1, 16, 16, .u16, .rw, 0, 0, 65535, (some 7943), false⟩,
  ⟨0x4A00, 1, 0x1, 17, 17, .bool, .wo, 0, 1, 1, none, false⟩,
  ⟨0x4A00, 1, 0x1, 18, 18, .u32, .ro, 0, 0, 4294967295, none, false⟩,
  ⟨0x4A00, 1, 0x1, 19, 19, .u32, .ro, 0, 0, 4294967295, none, false⟩,
  ⟨0x4A00, 1, 0x1, 20, 20, .u32, .ro, 0, 0, 4294967295, none, false⟩,
  ⟨0x4A00, 1, 0x1, 21, 21, .bool, .wo, 0, 1, 1, none, false⟩,
  ⟨0x4C00, 1, 0x1, 1, 1, .u32, .rw, 0, 0, 2097151, none, false⟩,
  ⟨0x4C00, 1, 0x1, 2, 2, .r64, .ro, 0, 0, 18446744073709551615, none, false⟩,
  ⟨0x4C00, 1, 0x1, 3, 3, .r64, .ro, 0, 0, 18446744073709551615, none, false⟩,
  ⟨0x4C00, 1, 0x1, 4, 4, .r64, .ro, 0, 0, 18446744073709551615, none, false⟩,
  ⟨0x4C00, 1, 0x1, 5, 5, .r64, .ro, 0, 0, 18446744073709551615, none, false⟩,
  ⟨0x4C00, 1, 0x1, 6, 6, .r64, .ro, 0, 0, 18446744073709551615, none, false⟩,
  ⟨0x4C00, 1, 0x1, 7, 7, .u64, .ro, 0, 0, 18446744073709551615, none, false⟩,
  ⟨0x4C00, 1, 0x1, 8, 8, .u64, .ro, 0, 0, 18446744073709551615, none, false⟩,
  ⟨0x4C00, 1, 0x1, 9, 9, .u32, .ro, 0, 0, 4294967295, none, false⟩,
  ⟨0x4C00, 1, 0x1, 10, 10, .u16, .ro, 0, 0, 65535, none, false⟩]

/-- Object rows of chapter 08. -/
def rows08a : List Row := [
  ⟨0x4E00, 1, 0x1, 1, 1, .u16, .rw, 0, 0, 4095, none, false⟩,
  ⟨0x4E00, 1, 0x1, 2, 2, .u8, .rw, 0, 0, 3, none, true⟩,
  ⟨0x4E00, 1, 0x1, 3, 3, .u8, .rw, 1, 1, 2, none, false⟩,
  ⟨0x4E00, 1, 0x1, 4, 4, .r32, .rw, 3204448256, 0, 4294967295, none, false⟩,
  ⟨0x4E00, 1, 0x1, 5, 5, .r32, .rw, 1056964608, 0, 4294967295, none, false⟩,
  ⟨0x4E00, 1, 0x1, 6, 6, .u32, .rw, 0, 0, 4294967295, none, false⟩,
  ⟨0x4E00, 1, 0x1, 7, 7, .u8, .rw, 0, 0, 32, none, false⟩,
  ⟨0x4E00, 1, 0x1, 8, 8, .bool, .wo, 0, 1, 1, none, false⟩,
  ⟨0x4E00, 1, 0x1, 9, 9, .bool, .wo, 0, 1, 1, none, false⟩,
  ⟨0x4E00, 1, 0x1, 10, 10, .u16, .ro, 0, 0, 65535, none, false⟩,
  ⟨0x4E00, 1, 0x1, 11, 11, .u64, .ro, 0, 0, 18446744073709551615, none, false⟩,
  ⟨0x4E00, 1, 0x1, 12, 12, .u32, .ro, 0, 0, 4294967295, none, false⟩,
  ⟨0x4E00, 1, 0x1, 13, 13, .u32, .ro, 0, 0, 4294967295, none, false⟩,
  ⟨0x4E00, 1, 0x1, 14, 14, .u64, .ro, 0, 0, 18446744073709551615, none, false⟩,
  ⟨0x4E00, 1, 0x1, 15, 15, .u32, .ro, 0, 0, 4294967295, none, false⟩,
  ⟨0x4E00, 1, 0x1, 16, 16, .u16, .ro, 0, 0, 65535, none, false⟩,
  ⟨0x4E00, 1, 0x1, 17, 17, .u16, .ro, 0, 0, 65535, none, false⟩,
  ⟨0x4E00, 1, 0x1, 18, 18, .u32, .ro, 0, 0, 4294967295, none, false⟩,
  ⟨0x4E00, 1, 0x1, 20, 51, .u64, .rw, 0, 0, 18446744073709551615, none, false⟩,
  ⟨0x4E10, 1, 0x1, 1, 1, .u16, .rw, 0, 0, 4095, none, false⟩,
  ⟨0x4E10, 1, 0x1, 2, 2, .u8, .ro, 0, 0, 255, none, false⟩,
  ⟨0x4E10, 1, 0x1, 3, 3, .dom, .ro, 0, 64, 64, none, false⟩,
  ⟨0x4E10, 1, 0x1, 4, 4, .u16, .rw, 0, 0, 511, none, false⟩,
  ⟨0x4E10, 1, 0x1, 5, 5, .dom, .ro, 0, 2048, 2048, none, false⟩]

/-- Object rows of chapter 08. -/
def rows08b : List Row := [
  ⟨0x4E10, 1, 0x1, 6, 6, .bool, .wo, 0, 1, 1, none, false⟩,
  ⟨0x4E10, 1, 0x1, 7, 7, .u16, .rw, 60, 1, 600, none, false⟩,
  ⟨0x4E20, 1, 0x1, 1, 1, .u8, .rw, 0, 0, 15, none, false⟩,
  ⟨0x4E20, 1, 0x1, 2, 2, .u32, .rw, 0, 0, 4294967295, none, false⟩,
  ⟨0x4E20, 1, 0x1, 3, 3, .u8, .rw, 0, 0, 3, none, false⟩,
  ⟨0x4E20, 1, 0x1, 4, 4, .u64, .rw, 0, 0, 18446744073709551615, none, false⟩,
  ⟨0x4E20, 1, 0x1, 5, 5, .u64, .rw, 1, 1, 1099511627776, none, false⟩,
  ⟨0x4E20, 1, 0x1, 6, 6, .u32, .rw, 2, 2, 1048576, none, false⟩,
  ⟨0x4E20, 1, 0x1, 7, 7, .bool, .wo, 0, 1, 1, none, false⟩,
  ⟨0x4E20, 1, 0x1, 8, 8, .u8, .ro, 0, 0, 255, none, false⟩,
  ⟨0x4E20, 1, 0x1, 9, 9, .u32, .ro, 0, 0, 4294967295, none, false⟩,
  ⟨0x4E20, 1, 0x1, 10, 10, .u16, .rw, 0, 0, 10921, none, false⟩,
  ⟨0x4E20, 1, 0x1, 11, 11, .dom, .ro, 0, 96, 96, none, false⟩,
  ⟨0x4E30, 1, 0x1, 1, 1, .u16, .ro, 0, 0, 65535, none, false⟩,
  ⟨0x4E30, 1, 0x1, 2, 2, .u16, .ro, 0, 0, 65535, none, false⟩,
  ⟨0x4E30, 1, 0x1, 3, 3, .u16, .ro, 16, 0, 65535, none, false⟩,
  ⟨0x4E30, 1, 0x1, 4, 4, .u16, .rw, 100, 10, 10000, none, false⟩,
  ⟨0x4E30, 1, 0x1, 5, 5, .u32, .rw, 0, 0, 0, none, false⟩]

/-- Object rows of chapter 09. -/
def rows09a : List Row := [
  ⟨0x2300, 1, 0x1, 1, 1, .u8, .ro, 0, 0, 255, none, false⟩,
  ⟨0x2300, 1, 0x1, 2, 2, .u8, .rw, 0, 0, 3, none, true⟩,
  ⟨0x2300, 1, 0x1, 3, 3, .u8, .ro, 0, 0, 255, none, false⟩,
  ⟨0x2300, 1, 0x1, 4, 4, .i32, .ro, 0, -2147483648, 2147483647, none, false⟩,
  ⟨0x2300, 1, 0x1, 5, 5, .i16, .ro, 0, -32768, 32767, none, false⟩,
  ⟨0x2300, 1, 0x1, 6, 6, .u32, .rw, 0, 0, 0, none, false⟩,
  ⟨0x2300, 1, 0x1, 7, 7, .u16, .ro, 1151, 0, 65535, none, false⟩,
  ⟨0x2300, 1, 0x1, 8, 8, .u32, .ro, 0, 0, 4294967295, none, false⟩,
  ⟨0x2300, 1, 0x1, 9, 9, .u32, .rw, 0, 0, 0, none, false⟩,
  ⟨0x2300, 1, 0x1, 10, 16, .u32, .rw, 0, 0, 0, none, false⟩,
  ⟨0x2300, 1, 0x1, 17, 17, .u8, .rw, 0, 0, 255, (some 27), false⟩,
  ⟨0x2300, 1, 0x1, 18, 18, .u8, .wo, 0, 0, 255, (some 7), false⟩,
  ⟨0x2300, 1, 0x1, 19, 19, .bool, .rw, 1, 0, 1, none, false⟩,
  ⟨0x2300, 1, 0x1, 20, 20, .u32, .rw, 0, 0, 0, none, false⟩,
  ⟨0x2300, 1, 0x1, 21, 21, .u8, .rw, 0, 0, 255, (some 27), false⟩,
  ⟨0x2300, 1, 0x1, 22, 22, .u8, .rw, 0, 0, 255, (some 27), false⟩]

/-- Object rows of chapter 10. -/
def rows10a : List Row := [
  ⟨0x5000, 1, 0x1, 1, 1, .u16, .ro, 1, 0, 65535, none, false⟩,
  ⟨0x5000, 1, 0x1, 2, 2, .u8, .ro, 0, 0, 255, none, false⟩,
  ⟨0x5000, 1, 0x1, 3, 3, .bool, .rw, 1, 0, 1, none, false⟩,
  ⟨0x5000, 1, 0x1, 4, 4, .u32, .ro, 1, 0, 4294967295, none, false⟩,
  ⟨0x5000, 1, 0x1, 5, 5, .u8, .ro, 1, 0, 255, none, false⟩,
  ⟨0x5000, 1, 0x1, 6, 6, .u8, .ro, 0, 0, 255, none, false⟩,
  ⟨0x5000, 1, 0x1, 7, 7, .u32, .rw, 0, 0, 0, none, false⟩,
  ⟨0x5000, 1, 0x1, 8, 8, .u32, .rw, 0, 0, 0, none, false⟩,
  ⟨0x5000, 1, 0x1, 9, 9, .u32, .rw, 0, 0, 0, none, false⟩,
  ⟨0x5000, 1, 0x1, 10, 10, .u32, .rw, 0, 0, 0, none, false⟩,
  ⟨0x5010, 1, 0x1, 1, 1, .u16, .rw, 256, 0, 65535, none, false⟩,
  ⟨0x5010, 1, 0x1, 2, 2, .u8, .ro, 0, 0, 255, none, false⟩,
  ⟨0x5010, 1, 0x1, 3, 3, .u8, .ro, 0, 0, 255, none, false⟩,
  ⟨0x5010, 1, 0x1, 4, 4, .r32, .ro, 0, 0, 4294967295, none, false⟩,
  ⟨0x5010, 1, 0x1, 5, 5, .r32, .ro, 0, 0, 4294967295, none, false⟩,
  ⟨0x5010, 1, 0x1, 6, 6, .r32, .ro, 0, 0, 4294967295, none, false⟩,
  ⟨0x5010, 1, 0x1, 7, 7, .u16, .ro, 0, 0, 65535, none, false⟩,
  ⟨0x5010, 1, 0x1, 8, 8, .u16, .ro, 0, 0, 65535, none, false⟩,
  ⟨0x5010, 1, 0x1, 9, 9, .u64, .ro, 0, 0, 18446744073709551615, none, false⟩,
  ⟨0x5010, 1, 0x1, 10, 10, .u8, .ro, 0, 0, 255, none, false⟩,
  ⟨0x5010, 1, 0x1, 11, 11, .u32, .ro, 0, 0, 4294967295, none, false⟩,
  ⟨0x5020, 1, 0x1, 1, 4, .u32, .ro, 4294967295, 0, 4294967295, none, false⟩,
  ⟨0x5020, 1, 0x1, 5, 5, .u32, .ro, 4294967295, 0, 4294967295, none, false⟩,
  ⟨0x5020, 1, 0x1, 6, 9, .u32, .ro, 4294967295, 0, 4294967295, none, false⟩]

/-- Object rows of chapter 10. -/
def rows10b : List Row := [
  ⟨0x5020, 1, 0x1, 10, 10, .u32, .rw, 0, 0, 0, none, false⟩,
  ⟨0x5020, 1, 0x1, 11, 11, .u32, .rw, 0, 0, 0, none, false⟩]

/-- Object rows of chapter 11. -/
def rows11a : List Row := [
  ⟨0x5200, 1, 0x1, 1, 1, .u16, .ro, 0, 0, 65535, none, false⟩,
  ⟨0x5200, 1, 0x1, 2, 5, .u8, .rw, 0, 0, 2, none, true⟩,
  ⟨0x5200, 1, 0x1, 6, 6, .u8, .rw, 0, 0, 2, none, true⟩,
  ⟨0x5200, 1, 0x1, 7, 7, .u8, .rw, 0, 0, 2, none, true⟩,
  ⟨0x5200, 1, 0x1, 8, 8, .u8, .rw, 0, 0, 2, none, true⟩,
  ⟨0x5200, 1, 0x1, 9, 9, .u8, .rw, 0, 0, 2, none, true⟩,
  ⟨0x5200, 1, 0x1, 10, 10, .u8, .rw, 0, 0, 2, none, true⟩,
  ⟨0x5200, 1, 0x1, 11, 11, .u8, .rw, 0, 0, 2, none, true⟩,
  ⟨0x5200, 1, 0x1, 12, 12, .u16, .rw, 1000, 500, 1000, none, false⟩,
  ⟨0x5200, 1, 0x1, 13, 13, .u32, .rw, 60, 1, 86400, none, false⟩,
  ⟨0x5200, 1, 0x1, 14, 14, .u16, .wo, 0, 0, 65535, none, false⟩,
  ⟨0x5200, 1, 0x1, 15, 15, .u16, .wo, 0, 0, 65535, none, false⟩,
  ⟨0x5200, 1, 0x1, 16, 16, .u8, .ro, 0, 0, 255, none, false⟩,
  ⟨0x5200, 1, 0x1, 17, 17, .u32, .rw, 0, 0, 0, none, false⟩,
  ⟨0x5200, 1, 0x1, 18, 18, .u32, .rw, 0, 0, 0, none, false⟩,
  ⟨0x5200, 1, 0x1, 19, 19, .u8, .ro, 16, 0, 255, none, false⟩,
  ⟨0x5200, 1, 0x1, 20, 20, .u8, .ro, 4, 0, 255, none, false⟩,
  ⟨0x5200, 1, 0x1, 21, 21, .u8, .ro, 16, 0, 255, none, false⟩,
  ⟨0x5200, 1, 0x1, 22, 22, .u8, .ro, 2, 0, 255, none, false⟩,
  ⟨0x5200, 1, 0x1, 23, 23, .u8, .ro, 2, 0, 255, none, false⟩,
  ⟨0x5200, 1, 0x1, 24, 24, .u8, .ro, 12, 0, 255, none, false⟩,
  ⟨0x5200, 1, 0x1, 25, 25, .bool, .ro, 1, 0, 1, none, false⟩,
  ⟨0x5210, 1, 0x1, 1, 1, .u16, .rw, 256, 0, 65535, none, false⟩,
  ⟨0x5210, 1, 0x1, 2, 2, .u16, .ro, 0, 0, 65535, none, false⟩]

/-- Object rows of chapter 11. -/
def rows11b : List Row := [
  ⟨0x5210, 1, 0x1, 3, 3, .u8, .ro, 0, 0, 255, none, false⟩,
  ⟨0x5210, 1, 0x1, 4, 4, .u16, .ro, 0, 0, 65535, none, false⟩,
  ⟨0x5210, 1, 0x1, 5, 5, .u8, .ro, 0, 0, 255, none, false⟩,
  ⟨0x5210, 1, 0x1, 6, 6, .u32, .ro, 0, 0, 4294967295, none, false⟩,
  ⟨0x5210, 1, 0x1, 7, 7, .u16, .ro, 0, 0, 65535, none, false⟩,
  ⟨0x5400, 1, 0x1, 1, 1, .u16, .ro, 0, 0, 65535, none, false⟩,
  ⟨0x5400, 1, 0x1, 2, 2, .u32, .ro, 0, 0, 4294967295, none, false⟩,
  ⟨0x5400, 1, 0x1, 3, 3, .u32, .rw, 0, 0, 0, none, false⟩,
  ⟨0x5400, 1, 0x1, 4, 4, .u32, .ro, 0, 0, 4294967295, none, false⟩,
  ⟨0x5400, 1, 0x1, 5, 5, .u32, .ro, 4294967295, 0, 4294967295, none, false⟩,
  ⟨0x5400, 1, 0x1, 6, 6, .u32, .rw, 0, 0, 0, none, false⟩,
  ⟨0x5400, 1, 0x1, 10, 17, .dom, .ro, 0, 32, 32, none, false⟩,
  ⟨0x5410, 1, 0x1, 1, 1, .u8, .rw, 0, 0, 255, none, false⟩,
  ⟨0x5410, 1, 0x1, 2, 2, .dom, .ro, 0, 32, 32, none, false⟩,
  ⟨0x5410, 1, 0x1, 3, 3, .u32, .ro, 0, 0, 4294967295, none, false⟩,
  ⟨0x5410, 1, 0x1, 4, 4, .u16, .ro, 0, 0, 65535, none, false⟩,
  ⟨0x5410, 1, 0x1, 5, 5, .u16, .ro, 0, 0, 65535, none, false⟩,
  ⟨0x5410, 1, 0x1, 6, 6, .u8, .ro, 0, 0, 255, none, false⟩,
  ⟨0x5410, 1, 0x1, 7, 7, .u64, .ro, 0, 0, 18446744073709551615, none, false⟩]

/-- Object rows of chapter 12. -/
def rows12a : List Row := [
  ⟨0x2200, 1, 0x1, 1, 1, .u16, .ro, 3, 0, 65535, none, false⟩,
  ⟨0x2200, 1, 0x1, 2, 2, .u8, .ro, 0, 0, 255, none, false⟩,
  ⟨0x2200, 1, 0x1, 3, 3, .u16, .rw, 190, 100, 190, none, false⟩,
  ⟨0x2200, 1, 0x1, 4, 4, .u8, .rw, 85, 60, 85, none, false⟩,
  ⟨0x2200, 1, 0x1, 5, 5, .u16, .rw, 1500, 750, 1500, none, false⟩,
  ⟨0x2200, 1, 0x1, 6, 6, .u8, .ro, 0, 0, 255, none, false⟩,
  ⟨0x2200, 1, 0x1, 7, 7, .u16, .ro, 0, 0, 65535, none, false⟩,
  ⟨0x2200, 1, 0x1, 8, 8, .u16, .ro, 0, 0, 65535, none, false⟩,
  ⟨0x2200, 1, 0x1, 9, 9, .u16, .ro, 0, 0, 65535, none, false⟩,
  ⟨0x2200, 1, 0x1, 10, 10, .u16, .rw, 0, 0, 0, none, false⟩,
  ⟨0x2200, 1, 0x1, 11, 11, .u16, .ro, 0, 0, 65535, none, false⟩,
  ⟨0x2200, 1, 0x1, 12, 17, .u16, .ro, 0, 0, 65535, none, false⟩,
  ⟨0x2200, 1, 0x1, 18, 18, .u64, .rw, 0, 0, 0, none, false⟩,
  ⟨0x2200, 1, 0x1, 19, 19, .u32, .rw, 0, 0, 86400, none, false⟩,
  ⟨0x2200, 1, 0x1, 20, 20, .bool, .wo, 0, 1, 1, none, false⟩,
  ⟨0x2200, 1, 0x1, 21, 21, .u8, .ro, 0, 0, 255, none, false⟩,
  ⟨0x2200, 1, 0x1, 22, 22, .u16, .ro, 0, 0, 65535, none, false⟩,
  ⟨0x2200, 1, 0x1, 23, 23, .u32, .rw, 0, 0, 0, none, false⟩,
  ⟨0x2200, 1, 0x1, 24, 24, .u32, .rw, 0, 0, 0, none, false⟩,
  ⟨0x2200, 1, 0x1, 25, 25, .u32, .rw, 0, 0, 0, none, false⟩,
  ⟨0x2200, 1, 0x1, 26, 26, .u32, .rw, 0, 0, 0, none, false⟩,
  ⟨0x2200, 1, 0x1, 27, 27, .u32, .ro, 0, 0, 4294967295, none, false⟩,
  ⟨0x2200, 1, 0x1, 28, 28, .i16, .ro, 0, -32768, 32767, none, false⟩,
  ⟨0x2200, 1, 0x1, 29, 39, .i16, .ro, 0, -32768, 32767, none, false⟩]

/-- Object rows of chapter 13. -/
def rows13a : List Row := [
  ⟨0x2400, 1, 0x1, 1, 1, .u16, .ro, 0, 0, 65535, none, false⟩,
  ⟨0x2400, 1, 0x1, 2, 2, .u8, .rw, 0, 0, 2, none, true⟩,
  ⟨0x2400, 1, 0x1, 3, 3, .u8, .rw, 0, 0, 255, (some 3), false⟩,
  ⟨0x2400, 1, 0x1, 4, 4, .u32, .rw, 0, 0, 4294967295, none, false⟩,
  ⟨0x2400, 1, 0x1, 5, 5, .u8, .ro, 0, 0, 255, none, false⟩,
  ⟨0x2400, 1, 0x1, 6, 6, .dom, .ro, 0, 32, 32, none, false⟩,
  ⟨0x2400, 1, 0x1, 7, 7, .u32, .ro, 0, 0, 4294967295, none, false⟩,
  ⟨0x2400, 1, 0x1, 8, 8, .u32, .rw, 0, 0, 0, none, false⟩,
  ⟨0x2400, 1, 0x1, 9, 9, .u32, .rw, 0, 0, 0, none, false⟩,
  ⟨0x2400, 1, 0x1, 10, 10, .u32, .rw, 0, 0, 0, none, false⟩,
  ⟨0x2400, 1, 0x1, 11, 11, .u32, .rw, 0, 0, 0, none, false⟩,
  ⟨0x2400, 1, 0x1, 12, 12, .u32, .ro, 0, 0, 4294967295, none, false⟩,
  ⟨0x2400, 1, 0x1, 13, 13, .i32, .ro, 0, -2147483648, 2147483647, none, false⟩,
  ⟨0x2400, 1, 0x1, 14, 14, .i32, .ro, 0, -2147483648, 2147483647, none, false⟩,
  ⟨0x2410, 1, 0x1, 1, 1, .u32, .rw, 0, 0, 4294967295, none, false⟩,
  ⟨0x2410, 1, 0x1, 2, 2, .u8, .rw, 0, 0, 1, none, true⟩,
  ⟨0x2410, 1, 0x1, 3, 3, .u8, .rw, 0, 0, 64, none, false⟩,
  ⟨0x2410, 1, 0x1, 4, 4, .u32, .ro, 0, 0, 4294967295, none, false⟩,
  ⟨0x2500, 1, 0x1, 1, 1, .u16, .ro, 1, 0, 65535, none, false⟩,
  ⟨0x2500, 1, 0x1, 2, 2, .i16, .ro, 0, -32768, 32767, none, false⟩,
  ⟨0x2500, 1, 0x1, 3, 3, .i16, .ro, 0, -32768, 32767, none, false⟩,
  ⟨0x2500, 1, 0x1, 4, 4, .u32, .rw, 0, 0, 0, none, false⟩,
  ⟨0x2500, 1, 0x1, 5, 5, .u8, .wo, 0, 0, 255, (some 3), false⟩,
  ⟨0x2500, 1, 0x1, 6, 7, .u32, .ro, 0, 0, 4294967295, none, false⟩]

/-- Object rows of chapter 13. -/
def rows13b : List Row := [
  ⟨0x2500, 1, 0x1, 8, 8, .u16, .wo, 0, 0, 65535, (some 287), false⟩,
  ⟨0x2500, 1, 0x1, 9, 10, .u32, .ro, 0, 0, 4294967295, none, false⟩,
  ⟨0x2500, 1, 0x1, 11, 12, .i32, .ro, 0, -2147483648, 2147483647, none, false⟩,
  ⟨0x2510, 1, 0x1, 1, 1, .u8, .rw, 0, 0, 1, none, false⟩,
  ⟨0x2510, 1, 0x1, 2, 2, .u8, .rw, 0, 0, 63, none, false⟩,
  ⟨0x2510, 1, 0x1, 3, 3, .u8, .rw, 0, 0, 23, none, false⟩,
  ⟨0x2510, 1, 0x1, 4, 4, .u8, .rw, 1, 1, 8, none, false⟩,
  ⟨0x2510, 1, 0x1, 5, 5, .u8, .rw, 0, 0, 7, none, false⟩,
  ⟨0x2510, 1, 0x1, 6, 6, .u8, .rw, 24, 1, 64, none, false⟩,
  ⟨0x2510, 1, 0x1, 7, 7, .bool, .wo, 0, 1, 1, none, false⟩,
  ⟨0x2520, 1, 0x1, 1, 1, .u8, .rw, 0, 0, 1, none, false⟩,
  ⟨0x2520, 1, 0x1, 2, 2, .u8, .rw, 0, 0, 15, none, false⟩,
  ⟨0x2520, 1, 0x1, 3, 3, .u8, .ro, 0, 0, 255, none, false⟩,
  ⟨0x2520, 1, 0x1, 4, 4, .u8, .ro, 1, 0, 255, none, false⟩,
  ⟨0x2520, 1, 0x1, 5, 5, .u8, .ro, 40, 0, 255, none, false⟩,
  ⟨0x2520, 1, 0x1, 6, 6, .u16, .ro, 0, 0, 65535, none, false⟩,
  ⟨0x2501, 2, 0x1, 1, 24, .u16, .ro, 0, 0, 65535, none, false⟩]

/-- Object rows of chapter 14. -/
def rows14a : List Row := [
  ⟨0x2F10, 1, 0x1, 1, 1, .u16, .ro, 0, 0, 65535, none, false⟩,
  ⟨0x2F10, 1, 0x1, 2, 2, .u32, .ro, 0, 0, 4294967295, none, false⟩,
  ⟨0x2F10, 1, 0x1, 3, 3, .u32, .ro, 0, 0, 4294967295, none, false⟩,
  ⟨0x2F10, 1, 0x1, 4, 4, .u32, .ro, 0, 0, 4294967295, none, false⟩,
  ⟨0x2F10, 1, 0x1, 5, 5, .u8, .ro, 255, 0, 255, none, false⟩,
  ⟨0x2F10, 1, 0x1, 6, 6, .u8, .ro, 0, 0, 255, none, false⟩,
  ⟨0x2F10, 1, 0x1, 7, 7, .u32, .ro, 0, 0, 4294967295, none, false⟩,
  ⟨0x2F00, 1, 0x1, 1, 1, .u8, .ro, 0, 0, 255, none, false⟩,
  ⟨0x2F00, 1, 0x1, 2, 2, .u8, .rw, 0, 0, 127, none, false⟩,
  ⟨0x2F00, 1, 0x1, 3, 3, .u8, .ro, 0, 0, 255, none, false⟩,
  ⟨0x2F00, 1, 0x1, 4, 4, .u8, .rw, 2, 0, 2, none, true⟩,
  ⟨0x2F00, 1, 0x1, 5, 5, .u16, .ro, 0, 0, 65535, none, false⟩,
  ⟨0x2F00, 1, 0x1, 6, 6, .u32, .rw, 0, 0, 0, none, false⟩,
  ⟨0x2F00, 1, 0x1, 7, 7, .u32, .rw, 0, 0, 0, none, false⟩,
  ⟨0x2F00, 1, 0x1, 8, 8, .u32, .rw, 0, 0, 0, none, false⟩,
  ⟨0x2F00, 1, 0x1, 9, 9, .u32, .rw, 0, 0, 0, none, false⟩,
  ⟨0x2F00, 1, 0x1, 10, 10, .u32, .rw, 0, 0, 0, none, false⟩,
  ⟨0x2F00, 1, 0x1, 11, 11, .u32, .rw, 0, 0, 0, none, false⟩,
  ⟨0x1000, 1, 0x1, 0, 0, .u32, .ro, 0, 0, 4294967295, none, false⟩,
  ⟨0x1001, 1, 0x1, 0, 0, .u8, .ro, 0, 0, 255, none, false⟩,
  ⟨0x1003, 1, 0x1, 0, 0, .u8, .rw, 0, 0, 0, none, false⟩,
  ⟨0x1003, 1, 0x1, 1, 16, .u32, .ro, 0, 0, 4294967295, none, false⟩,
  ⟨0x1005, 1, 0x1, 0, 0, .u32, .rw, 128, 0, 4294967295, none, false⟩,
  ⟨0x1010, 1, 0x1, 0, 0, .u8, .ro, 2, 0, 255, none, false⟩]

/-- Object rows of chapter 14. -/
def rows14b : List Row := [
  ⟨0x1010, 1, 0x1, 2, 2, .u32, .rw, 1, 0, 4294967295, none, false⟩,
  ⟨0x1011, 1, 0x1, 0, 0, .u8, .ro, 2, 0, 255, none, false⟩,
  ⟨0x1011, 1, 0x1, 2, 2, .u32, .rw, 1, 0, 4294967295, none, false⟩,
  ⟨0x1014, 1, 0x1, 0, 0, .u32, .rw, 0, 0, 4294967295, none, false⟩,
  ⟨0x1015, 1, 0x1, 0, 0, .u16, .rw, 0, 0, 65535, none, false⟩,
  ⟨0x1017, 1, 0x1, 0, 0, .u16, .rw, 1000, 0, 65535, none, false⟩,
  ⟨0x1018, 1, 0x1, 0, 0, .u8, .ro, 4, 0, 255, none, false⟩,
  ⟨0x1018, 1, 0x1, 1, 4, .u32, .ro, 0, 0, 4294967295, none, false⟩,
  ⟨0x1019, 1, 0x1, 0, 0, .u8, .rw, 0, 0, 240, none, false⟩,
  ⟨0x1400, 8, 0x1, 0, 0, .u8, .ro, 2, 0, 255, none, false⟩,
  ⟨0x1400, 8, 0x1, 1, 1, .u32, .rw, 2147483648, 0, 4294967295, none, false⟩,
  ⟨0x1400, 8, 0x1, 2, 2, .u8, .rw, 255, 0, 255, none, false⟩,
  ⟨0x1600, 8, 0x1, 0, 0, .u8, .rw, 0, 0, 255, none, false⟩,
  ⟨0x1600, 8, 0x1, 1, 16, .u32, .rw, 0, 0, 4294967295, none, false⟩,
  ⟨0x1800, 16, 0x1, 0, 0, .u8, .ro, 6, 0, 255, none, false⟩,
  ⟨0x1800, 16, 0x1, 1, 1, .u32, .rw, 2147483648, 0, 4294967295, none, false⟩,
  ⟨0x1800, 16, 0x1, 2, 2, .u8, .rw, 255, 0, 255, none, false⟩,
  ⟨0x1800, 16, 0x1, 3, 3, .u16, .rw, 0, 0, 65535, none, false⟩,
  ⟨0x1800, 16, 0x1, 5, 5, .u16, .rw, 0, 0, 65535, none, false⟩,
  ⟨0x1800, 16, 0x1, 6, 6, .u8, .rw, 0, 0, 240, none, false⟩,
  ⟨0x1A00, 16, 0x1, 0, 0, .u8, .rw, 0, 0, 255, none, false⟩,
  ⟨0x1A00, 16, 0x1, 1, 16, .u32, .rw, 0, 0, 4294967295, none, false⟩,
  ⟨0x5E00, 64, 0x1, 1, 8, .u64, .ro, 0, 0, 18446744073709551615, none, false⟩]

/-- Object rows of chapter 15. -/
def rows15a : List Row := [
  ⟨0x2000, 1, 0x1, 1, 1, .u32, .ro, 279168, 0, 4294967295, none, false⟩,
  ⟨0x2000, 1, 0x1, 2, 2, .u8, .ro, 1, 0, 255, none, false⟩,
  ⟨0x2000, 1, 0x1, 3, 3, .u8, .ro, 1, 0, 255, none, false⟩,
  ⟨0x2000, 1, 0x1, 4, 4, .u32, .ro, 0, 0, 4294967295, none, false⟩,
  ⟨0x2000, 1, 0x1, 5, 5, .u16, .ro, 0, 0, 65535, none, false⟩,
  ⟨0x2000, 1, 0x1, 6, 6, .u32, .ro, 0, 0, 4294967295, none, false⟩,
  ⟨0x2000, 1, 0x1, 7, 7, .u32, .ro, 0, 0, 4294967295, none, false⟩,
  ⟨0x2000, 1, 0x1, 8, 8, .u32, .ro, 0, 0, 4294967295, none, false⟩,
  ⟨0x2000, 1, 0x1, 9, 9, .u32, .ro, 0, 0, 4294967295, none, false⟩,
  ⟨0x2000, 1, 0x1, 10, 10, .u32, .ro, 0, 0, 4294967295, none, false⟩,
  ⟨0x2000, 1, 0x1, 11, 11, .u16, .ro, 0, 0, 65535, none, false⟩,
  ⟨0x2100, 1, 0x1, 1, 1, .u32, .wo, 0, 0, 4294967295, none, false⟩,
  ⟨0x2100, 1, 0x1, 2, 2, .u32, .ro, 0, 0, 4294967295, none, false⟩,
  ⟨0x2100, 1, 0x1, 3, 3, .u32, .ro, 0, 0, 4294967295, none, false⟩,
  ⟨0x2100, 1, 0x1, 4, 4, .u8, .ro, 0, 0, 255, none, false⟩]

/-- Object rows of chapter 16. -/
def rows16a : List Row := [
  ⟨0x5600, 1, 0x1, 1, 1, .u16, .ro, 0, 0, 65535, none, false⟩,
  ⟨0x5600, 1, 0x1, 2, 2, .u32, .rw, 262143, 0, 4294967295, (some 262143), false⟩,
  ⟨0x5600, 1, 0x1, 3, 3, .u16, .rw, 1, 1, 1000, none, false⟩,
  ⟨0x5600, 1, 0x1, 4, 4, .u64, .rw, 0, 0, 0, none, false⟩,
  ⟨0x5600, 1, 0x1, 5, 5, .u64, .rw, 0, 0, 0, none, false⟩,
  ⟨0x5600, 1, 0x1, 6, 6, .u32, .rw, 0, 0, 0, none, false⟩,
  ⟨0x5600, 1, 0x1, 7, 7, .u32, .rw, 0, 0, 0, none, false⟩,
  ⟨0x5600, 1, 0x1, 8, 8, .u32, .rw, 0, 0, 0, none, false⟩,
  ⟨0x5600, 1, 0x1, 9, 9, .u32, .rw, 0, 0, 0, none, false⟩,
  ⟨0x5600, 1, 0x1, 10, 10, .u32, .rw, 0, 0, 0, none, false⟩,
  ⟨0x5600, 1, 0x1, 11, 11, .u32, .rw, 0, 0, 0, none, false⟩,
  ⟨0x5601, 1, 0x1, 1, 18, .u16, .ro, 0, 0, 65535, none, false⟩,
  ⟨0x5602, 1, 0x1, 1, 4, .u16, .ro, 0, 0, 65535, none, false⟩,
  ⟨0x5604, 1, 0x1, 1, 1, .dom, .wo, 0, 48, 4032, none, false⟩,
  ⟨0x5610, 1, 0x1, 1, 1, .u8, .rw, 2, 2, 15, none, false⟩,
  ⟨0x5610, 1, 0x1, 2, 2, .u8, .rw, 0, 0, 3, none, false⟩,
  ⟨0x5610, 1, 0x1, 3, 3, .u8, .rw, 0, 0, 6, none, true⟩,
  ⟨0x5610, 1, 0x1, 4, 4, .u32, .rw, 0, 0, 4294967295, none, false⟩,
  ⟨0x5610, 1, 0x1, 5, 5, .u32, .rw, 0, 0, 4294967295, none, false⟩,
  ⟨0x5610, 1, 0x1, 6, 6, .u8, .rw, 15, 0, 255, (some 15), false⟩,
  ⟨0x5610, 1, 0x1, 7, 7, .bool, .wo, 0, 1, 1, none, false⟩,
  ⟨0x5610, 1, 0x1, 8, 8, .bool, .wo, 0, 1, 1, none, false⟩,
  ⟨0x5610, 1, 0x1, 9, 9, .u8, .ro, 0, 0, 255, none, false⟩,
  ⟨0x5610, 1, 0x1, 10, 10, .u16, .ro, 0, 0, 65535, none, false⟩]

/-- Object rows of chapter 16. -/
def rows16b : List Row := [
  ⟨0x5610, 1, 0x1, 11, 11, .u32, .ro, 0, 0, 4294967295, none, false⟩,
  ⟨0x5700, 1, 0x1, 1, 1, .u16, .ro, 0, 0, 65535, none, false⟩,
  ⟨0x5700, 1, 0x1, 2, 2, .u8, .rw, 3, 0, 255, (some 3), false⟩,
  ⟨0x5700, 1, 0x1, 3, 3, .u32, .ro, 0, 0, 4294967295, none, false⟩,
  ⟨0x5700, 1, 0x1, 4, 4, .u32, .ro, 0, 0, 4294967295, none, false⟩,
  ⟨0x5700, 1, 0x1, 5, 5, .i32, .ro, 0, -2147483648, 2147483647, none, false⟩,
  ⟨0x5700, 1, 0x1, 6, 6, .i32, .ro, 0, -2147483648, 2147483647, none, false⟩,
  ⟨0x5700, 1, 0x1, 7, 7, .u16, .ro, 0, 0, 65535, none, false⟩,
  ⟨0x5700, 1, 0x1, 8, 8, .u16, .ro, 0, 0, 65535, none, false⟩,
  ⟨0x5700, 1, 0x1, 9, 9, .u32, .rw, 0, 0, 0, none, false⟩,
  ⟨0x5700, 1, 0x1, 10, 10, .u32, .rw, 0, 0, 0, none, false⟩,
  ⟨0x5701, 1, 0x1, 1, 4, .u8, .rw, 0, 0, 5, none, true⟩,
  ⟨0x5701, 1, 0x1, 5, 5, .u16, .rw, 0, 0, 65535, none, false⟩,
  ⟨0x5701, 1, 0x1, 6, 6, .u8, .rw, 0, 0, 255, (some 7), false⟩,
  ⟨0x5701, 1, 0x1, 7, 7, .u8, .ro, 0, 0, 255, none, false⟩,
  ⟨0x5701, 1, 0x1, 8, 8, .u32, .rw, 0, 0, 0, none, false⟩]

/-- Object rows of chapter 17. -/
def rows17a : List Row := [
  ⟨0x5800, 1, 0x1, 1, 1, .u8, .ro, 0, 0, 255, none, false⟩,
  ⟨0x5800, 1, 0x1, 2, 2, .u8, .ro, 0, 0, 255, none, false⟩,
  ⟨0x5800, 1, 0x1, 3, 3, .u32, .rw, 0, 256, 50331648, none, false⟩,
  ⟨0x5800, 1, 0x1, 4, 4, .dom, .rw, 0, 32, 32, none, false⟩,
  ⟨0x5800, 1, 0x1, 5, 5, .u32, .rw, 0, 0, 4294967295, none, false⟩,
  ⟨0x5800, 1, 0x1, 6, 6, .dom, .wo, 0, 4, 4032, none, false⟩,
  ⟨0x5800, 1, 0x1, 7, 7, .u32, .ro, 0, 0, 4294967295, none, false⟩,
  ⟨0x5800, 1, 0x1, 8, 8, .bool, .wo, 0, 1, 1, none, false⟩,
  ⟨0x5800, 1, 0x1, 9, 9, .bool, .wo, 0, 1, 1, none, false⟩,
  ⟨0x5800, 1, 0x1, 10, 10, .u16, .ro, 0, 0, 65535, none, false⟩,
  ⟨0x5800, 1, 0x1, 11, 11, .u8, .ro, 0, 0, 255, none, false⟩,
  ⟨0x5800, 1, 0x1, 12, 12, .u8, .ro, 0, 0, 255, none, false⟩,
  ⟨0x5800, 1, 0x1, 13, 13, .u8, .ro, 0, 0, 255, none, false⟩,
  ⟨0x5800, 1, 0x1, 14, 14, .u32, .ro, 0, 0, 4294967295, none, false⟩,
  ⟨0x5800, 1, 0x1, 15, 15, .u32, .ro, 0, 0, 4294967295, none, false⟩,
  ⟨0x5800, 1, 0x1, 16, 16, .u32, .ro, 0, 0, 4294967295, none, false⟩,
  ⟨0x5800, 1, 0x1, 17, 17, .u8, .ro, 0, 0, 255, none, false⟩,
  ⟨0x5800, 1, 0x1, 18, 18, .u8, .ro, 0, 0, 255, none, false⟩,
  ⟨0x5800, 1, 0x1, 19, 19, .u8, .ro, 0, 0, 255, none, false⟩,
  ⟨0x5800, 1, 0x1, 20, 20, .u8, .rw, 3, 0, 255, (some 3), false⟩,
  ⟨0x5800, 1, 0x1, 21, 21, .u8, .ro, 0, 0, 255, none, false⟩,
  ⟨0x5800, 1, 0x1, 22, 22, .u8, .ro, 0, 0, 255, none, false⟩,
  ⟨0x5800, 1, 0x1, 23, 23, .u32, .rw, 0, 0, 0, none, false⟩]

/-- Object rows of chapter 18. -/
def rows18a : List Row := [
  ⟨0x5F00, 1, 0x1, 1, 1, .u16, .ro, 0, 0, 65535, none, false⟩,
  ⟨0x5F00, 1, 0x1, 2, 2, .u32, .ro, 0, 0, 4294967295, none, false⟩,
  ⟨0x5F00, 1, 0x1, 3, 3, .u32, .ro, 0, 0, 4294967295, none, false⟩,
  ⟨0x5F00, 1, 0x1, 4, 4, .bool, .rw, 0, 0, 1, none, false⟩,
  ⟨0x5F00, 1, 0x1, 5, 5, .u16, .rw, 8190, 0, 65535, (some 8190), false⟩,
  ⟨0x5F00, 1, 0x1, 6, 6, .u8, .ro, 0, 0, 255, none, false⟩,
  ⟨0x5F00, 1, 0x1, 7, 7, .dom, .ro, 0, 4096, 4096, none, false⟩,
  ⟨0x5F10, 1, 0x1, 1, 1, .u16, .rw, 0, 0, 65535, none, false⟩,
  ⟨0x5F10, 1, 0x1, 2, 2, .dom, .ro, 0, 32, 32, none, false⟩,
  ⟨0x5F10, 1, 0x1, 3, 3, .u32, .ro, 0, 0, 4294967295, none, false⟩,
  ⟨0x5F10, 1, 0x1, 4, 4, .u16, .ro, 0, 0, 65535, none, false⟩,
  ⟨0x5F10, 1, 0x1, 5, 5, .u64, .ro, 0, 0, 18446744073709551615, none, false⟩]

/-- Every row of the dictionary. -/
def rows : List Row :=
  rows02a ++
  rows03a ++ rows03b ++
  rows04a ++ rows04b ++ rows04c ++
  rows05a ++ rows05b ++
  rows06a ++ rows06b ++
  rows07a ++ rows07b ++ rows07c ++
  rows08a ++ rows08b ++
  rows09a ++
  rows10a ++ rows10b ++
  rows11a ++ rows11b ++
  rows12a ++
  rows13a ++ rows13b ++
  rows14a ++ rows14b ++
  rows15a ++
  rows16a ++ rows16b ++
  rows17a ++
  rows18a

/-- Does the row describe index `i`? -/
def Row.hasIdx (r : Row) (i : Nat) : Bool :=
  r.idx ≤ i && i < r.idx + r.cnt * r.step && (i - r.idx) % r.step == 0

/-- Does the row describe sub-index `u` of index `i`? -/
def Row.has (r : Row) (i u : Nat) : Bool :=
  r.sub0 ≤ u && u ≤ r.sub1 && r.hasIdx i

/-- The object key of index `i`, sub-index `u`: the index in bits [23:8], the sub-index in bits [7:0]. -/
def objKey (i u : Nat) : Nat := i * 256 + u

/-- The row of an object, if the dictionary defines it. -/
def findRow (i u : Nat) : Option Row := rows.find? (fun r => r.has i u)

/-- Is the index defined (R399)? -/
def knownIdx (i : Nat) : Bool := rows.any (fun r => r.hasIdx i)

/-- The highest sub-index that an index defines (R400). -/
def topSub (i : Nat) : Nat := rows.foldl (fun m r => if r.hasIdx i then max m r.sub1 else m) 0

/-- Objects whose default is not zero: first key, how many repeat, at what distance of keys, default. -/
def odDefaults : List (Nat × Nat × Nat × Int) := [
  (0x300001, 4, 0x10000, 1),
  (0x300002, 4, 0x10000, 5),
  (0x300004, 4, 0x10000, 5),
  (0x300006, 4, 0x10000, 3),
  (0x300008, 4, 0x10000, 1148493332),
  (0x30000B, 4, 0x10000, 4),
  (0x30000C, 4, 0x10000, 4),
  (0x30000D, 4, 0x10000, 4),
  (0x30000E, 4, 0x10000, 4),
  (0x341001, 4, 0x10000, 1),
  (0x341004, 4, 0x10000, 17),
  (0x341005, 4, 0x10000, 15),
  (0x341007, 4, 0x10000, 17),
  (0x340002, 4, 0x10000, 1),
  (0x340003, 4, 0x10000, 2),
  (0x34000F, 4, 0x10000, 1),
  (0x400002, 1, 1, 1),
  (0x400005, 1, 1, 10),
  (0x401007, 8, 0x100, 64),
  (0x40100A, 8, 0x100, 1),
  (0x401010, 8, 0x100, 2),
  (0x401011, 8, 0x100, 65535),
  (0x401014, 8, 0x100, 1),
  (0x401015, 8, 0x100, 1),
  (0x402001, 4, 0x100, 16384),
  (0x402002, 4, 0x100, -16384),
  (0x402003, 4, 0x100, 64),
  (0x403003, 1, 1, 65535),
  (0x41000A, 16, 0x100, 1),
  (0x41000B, 16, 0x100, 1),
  (0x420103, 1, 1, 262144),
  (0x420104, 1, 1, 4294967295),
  (0x440001, 1, 1, 1),
  (0x440002, 1, 1, 447392426),
  (0x440003, 1, 1, 111848106),
  (0x440004, 1, 1, 111848106),
  (0x440005, 1, 1, 111848106),
  (0x440006, 1, 1, 111848106),
  (0x440007, 1, 1, 111848106),
  (0x440008, 1, 1, 111848106),
  (0x440009, 1, 1, 111848106),
  (0x44000A, 1, 1, 111848106),
  (0x44000B, 1, 1, 3968),
  (0x44000C, 1, 1, 760),
  (0x440017, 1, 1, 4),
  (0x440018, 1, 1, 4),
  (0x440019, 1, 1, 4),
  (0x44001A, 1, 1, 4),
  (0x480002, 1, 1, 256),
  (0x480004, 1, 1, 1500),
  (0x480005, 1, 1, 10),
  (0x480006, 1, 1, 10),
  (0x480010, 16, 1, 4),
  (0x481002, 1, 1, 2),
  (0x481003, 1, 1, 436907),
  (0x481004, 1, 1, 6),
  (0x481005, 1, 1, 14),
  (0x481006, 1, 1, 1),
  (0x481007, 1, 1, 256),
  (0x482003, 1, 1, 20),
  (0x482005, 1, 1, 500),
  (0x482007, 1, 1, 50),
  (0x4A0007, 1, 1, 2),
  (0x4A0008, 1, 1, 65535),
  (0x4A000D, 1, 1, 65535),
  (0x4A000F, 1, 1, 65535),
  (0x4E0003, 1, 1, 1),
  (0x4E0004, 1, 1, 3204448256),
  (0x4E0005, 1, 1, 1056964608),
  (0x4E1007, 1, 1, 60),
  (0x4E2005, 1, 1, 1),
  (0x4E2006, 1, 1, 2),
  (0x4E3003, 1, 1, 16),
  (0x4E3004, 1, 1, 100),
  (0x230007, 1, 1, 1151),
  (0x230013, 1, 1, 1),
  (0x500001, 1, 1, 1),
  (0x500003, 1, 1, 1),
  (0x500004, 1, 1, 1),
  (0x500005, 1, 1, 1),
  (0x501001, 1, 1, 256),
  (0x502001, 4, 1, 4294967295),
  (0x502005, 1, 1, 4294967295),
  (0x502006, 4, 1, 4294967295),
  (0x52000C, 1, 1, 1000),
  (0x52000D, 1, 1, 60),
  (0x520013, 1, 1, 16),
  (0x520014, 1, 1, 4),
  (0x520015, 1, 1, 16),
  (0x520016, 1, 1, 2),
  (0x520017, 1, 1, 2),
  (0x520018, 1, 1, 12),
  (0x520019, 1, 1, 1),
  (0x521001, 1, 1, 256),
  (0x540005, 1, 1, 4294967295),
  (0x220001, 1, 1, 3),
  (0x220003, 1, 1, 190),
  (0x220004, 1, 1, 85),
  (0x220005, 1, 1, 1500),
  (0x250001, 1, 1, 1),
  (0x251004, 1, 1, 1),
  (0x251006, 1, 1, 24),
  (0x252004, 1, 1, 1),
  (0x252005, 1, 1, 40),
  (0x2F1005, 1, 1, 255),
  (0x2F0004, 1, 1, 2),
  (0x200001, 1, 1, 279168),
  (0x200002, 1, 1, 1),
  (0x200003, 1, 1, 1),
  (0x560002, 1, 1, 262143),
  (0x560003, 1, 1, 1),
  (0x561001, 1, 1, 2),
  (0x561006, 1, 1, 15),
  (0x570002, 1, 1, 3),
  (0x580014, 1, 1, 3),
  (0x5F0005, 1, 1, 8190),
  (0x100500, 1, 1, 128),
  (0x101000, 1, 1, 2),
  (0x101002, 1, 1, 1),
  (0x101100, 1, 1, 2),
  (0x101102, 1, 1, 1),
  (0x101700, 1, 1, 1000),
  (0x101800, 1, 1, 4),
  (0x140000, 8, 0x100, 2),
  (0x140001, 8, 0x100, 2147483648),
  (0x140002, 8, 0x100, 255),
  (0x180000, 16, 0x100, 6),
  (0x180001, 16, 0x100, 2147483648),
  (0x180002, 16, 0x100, 255)]

/-- The default of the object with key `k`, whichever path's copy of a window it is (bits above 24 name the path). -/
def odDefault (k : Nat) : Int :=
  match odDefaults.find? (fun (b, n, st, _) => b ≤ k % 16777216 && k % 16777216 < b + n * st && (k % 16777216 - b) % st == 0) with
  | some (_, _, _, v) => v
  | none => 0

end Sys2Proof.Machine
end

