-- ==== Sys2Proof/Machine/Names.lean ====
section
/-!
DEFINITION. The names of the dictionary's objects as keys (index * 256 + sub-index), spelled as the object tables spell them.
-/

namespace Sys2Proof.Machine.O

def CH_ENABLE (c : Nat) : Nat := 0x300001 + 0x10000 * c
def RANGE (c : Nat) : Nat := 0x300002 + 0x10000 * c
def OFFSET (c : Nat) : Nat := 0x300003 + 0x10000 * c
def RANGE_APPLIED (c : Nat) : Nat := 0x300004 + 0x10000 * c
def OFFSET_APPLIED (c : Nat) : Nat := 0x300005 + 0x10000 * c
def FE_STATUS (c : Nat) : Nat := 0x300006 + 0x10000 * c
def LAST_SWITCH_INDEX (c : Nat) : Nat := 0x300007 + 0x10000 * c
def LSB_SIZE (c : Nat) : Nat := 0x300008 + 0x10000 * c
def OVERRANGE_COUNT (c : Nat) : Nat := 0x300009 + 0x10000 * c
def GAP_REGISTERS_USED (c : Nat) : Nat := 0x30000A + 0x10000 * c
def QUAD_STATUS_0 (c : Nat) : Nat := 0x30000B + 0x10000 * c
def QUAD_STATUS_1 (c : Nat) : Nat := 0x30000C + 0x10000 * c
def QUAD_STATUS_2 (c : Nat) : Nat := 0x30000D + 0x10000 * c
def QUAD_STATUS_3 (c : Nat) : Nat := 0x30000E + 0x10000 * c
def COEF_STAGE (c : Nat) : Nat := 0x341001 + 0x10000 * c
def COEF_INDEX (c : Nat) : Nat := 0x341002 + 0x10000 * c
def COEF_VALUE (c : Nat) : Nat := 0x341003 + 0x10000 * c
def COEF_SHIFT (c : Nat) : Nat := 0x341004 + 0x10000 * c
def COEF_TAPS (c : Nat) : Nat := 0x341005 + 0x10000 * c
def COEF_ACTIVE_VALUE (c : Nat) : Nat := 0x341006 + 0x10000 * c
def COEF_ACTIVE_SHIFT (c : Nat) : Nat := 0x341007 + 0x10000 * c
def COEF_LOAD_PRESET (c : Nat) : Nat := 0x341008 + 0x10000 * c
def COEF_APPLY (c : Nat) : Nat := 0x341009 + 0x10000 * c
def MODE (c : Nat) : Nat := 0x340001 + 0x10000 * c
def PRESET (c : Nat) : Nat := 0x340002 + 0x10000 * c
def FACTOR (c : Nat) : Nat := 0x340003 + 0x10000 * c
def DELAY_WHOLE (c : Nat) : Nat := 0x340004 + 0x10000 * c
def DELAY_FRAC (c : Nat) : Nat := 0x340005 + 0x10000 * c
def BOLTER_STATUS (c : Nat) : Nat := 0x340006 + 0x10000 * c
def FADE_LENGTH (c : Nat) : Nat := 0x340007 + 0x10000 * c
def BANK_SWAP (c : Nat) : Nat := 0x340008 + 0x10000 * c
def BANK_ACTIVE (c : Nat) : Nat := 0x340009 + 0x10000 * c
def SWAP_INDEX (c : Nat) : Nat := 0x34000A + 0x10000 * c
def SWAPS_DONE (c : Nat) : Nat := 0x34000B + 0x10000 * c
def RESIDUE_ERRORS (c : Nat) : Nat := 0x34000C + 0x10000 * c
def SETTLE_REMAINING (c : Nat) : Nat := 0x34000D + 0x10000 * c
def DECIM_ORIGIN (c : Nat) : Nat := 0x34000E + 0x10000 * c
def DECIM_SYNC_ENABLE (c : Nat) : Nat := 0x34000F + 0x10000 * c
def DECIM_SYNC_COUNT (c : Nat) : Nat := 0x340010 + 0x10000 * c
def CLAMP_COUNT (c : Nat) : Nat := 0x340011 + 0x10000 * c
def DECIM_SYNC_IGNORED (c : Nat) : Nat := 0x340012 + 0x10000 * c
def SLUICE_STATUS : Nat := 0x400001
def TRIG_OUT_MODE : Nat := 0x400002
def TRIG_OUT_PLANS : Nat := 0x400003
def TRIG_OUT_SLOTS : Nat := 0x400004
def TRIG_OUT_WIDTH : Nat := 0x400005
def TRIG_OUT_POLARITY : Nat := 0x400006
def EXT_TRIG_POLARITY : Nat := 0x400007
def QUALIFIER_NOW : Nat := 0x400008
def LAST_TRIG_INDEX : Nat := 0x400009
def LAST_TRIG_FRACTION : Nat := 0x40000A
def LAST_TRIG_SLOTS : Nat := 0x40000B
def LAST_TRIG_INFO : Nat := 0x40000C
def TRIG_OUT_COUNT : Nat := 0x40000D
def CTB_ANSWER_NOW : Nat := 0x40000E
def COINCIDENCE_COUNT (i : Nat) : Nat := 0x400010 + i
def SLOT_KIND (c : Nat) : Nat := 0x401001 + 0x100 * c
def SLOT_ROLE (c : Nat) : Nat := 0x401002 + 0x100 * c
def SOURCE_CH (c : Nat) : Nat := 0x401003 + 0x100 * c
def SLOPE (c : Nat) : Nat := 0x401004 + 0x100 * c
def LEVEL_A (c : Nat) : Nat := 0x401005 + 0x100 * c
def LEVEL_B (c : Nat) : Nat := 0x401006 + 0x100 * c
def HYST (c : Nat) : Nat := 0x401007 + 0x100 * c
def QUAL_VALUE (c : Nat) : Nat := 0x401008 + 0x100 * c
def QUAL_MASK (c : Nat) : Nat := 0x401009 + 0x100 * c
def PATTERN_MODE (c : Nat) : Nat := 0x40100A + 0x100 * c
def SEQ_A (c : Nat) : Nat := 0x40100B + 0x100 * c
def SEQ_B (c : Nat) : Nat := 0x40100C + 0x100 * c
def SEQ_LIMIT (c : Nat) : Nat := 0x40100D + 0x100 * c
def RASTER_FRAME_MODE (c : Nat) : Nat := 0x40100E + 0x100 * c
def RASTER_FRAME_VALUE (c : Nat) : Nat := 0x40100F + 0x100 * c
def RASTER_FRAME_MODULUS (c : Nat) : Nat := 0x401010 + 0x100 * c
def RASTER_LINE_SEL (c : Nat) : Nat := 0x401011 + 0x100 * c
def RASTER_OFFSET (c : Nat) : Nat := 0x401012 + 0x100 * c
def HOLDOFF_MODE (c : Nat) : Nat := 0x401013 + 0x100 * c
def HOLDOFF_TIME (c : Nat) : Nat := 0x401014 + 0x100 * c
def HOLDOFF_EVENTS (c : Nat) : Nat := 0x401015 + 0x100 * c
def SLOT_EVENT_COUNT (c : Nat) : Nat := 0x401016 + 0x100 * c
def SLOT_EXCESS_COUNT (c : Nat) : Nat := 0x401017 + 0x100 * c
def SLOT_STATUS (c : Nat) : Nat := 0x401018 + 0x100 * c
def QUAL_UPPER (c : Nat) : Nat := 0x402001 + 0x100 * c
def QUAL_LOWER (c : Nat) : Nat := 0x402002 + 0x100 * c
def QUAL_HYST (c : Nat) : Nat := 0x402003 + 0x100 * c
def RASTER_POLARITY : Nat := 0x403001
def RASTER_FRAME_COUNT : Nat := 0x403002
def RASTER_LINE_NOW : Nat := 0x403003
def LINES_LAST_FRAME : Nat := 0x403004
def LINE_PERIOD_LAST : Nat := 0x403005
def ACTIVE_LINE_FIRST : Nat := 0x403006
def ACTIVE_LINE_COUNT : Nat := 0x403007
def ACTIVE_SAMPLE_FIRST : Nat := 0x403008
def ACTIVE_SAMPLE_COUNT : Nat := 0x403009
def PLAN_STATE (c : Nat) : Nat := 0x410001 + 0x100 * c
def CHANNEL_SET (c : Nat) : Nat := 0x410002 + 0x100 * c
def BOLTER_A (c : Nat) : Nat := 0x410003 + 0x100 * c
def BOLTER_B (c : Nat) : Nat := 0x410004 + 0x100 * c
def BOLTER_C (c : Nat) : Nat := 0x410005 + 0x100 * c
def BOLTER_D (c : Nat) : Nat := 0x410006 + 0x100 * c
def SLOTS (c : Nat) : Nat := 0x410007 + 0x100 * c
def POLICY (c : Nat) : Nat := 0x410008 + 0x100 * c
def PRE_GRAINS (c : Nat) : Nat := 0x410009 + 0x100 * c
def POST_GRAINS (c : Nat) : Nat := 0x41000A + 0x100 * c
def SEGMENT_COUNT (c : Nat) : Nat := 0x41000B + 0x100 * c
def ALLOC_GRAINS (c : Nat) : Nat := 0x41000C + 0x100 * c
def RING_LENGTH (c : Nat) : Nat := 0x41000D + 0x100 * c
def GATE_FIRST (c : Nat) : Nat := 0x41000E + 0x100 * c
def GATE_COUNT (c : Nat) : Nat := 0x41000F + 0x100 * c
def DIR_HOST_RELEASE (c : Nat) : Nat := 0x410010 + 0x100 * c
def SEGMENTS_DONE (c : Nat) : Nat := 0x410011 + 0x100 * c
def MISSED_COUNT (c : Nat) : Nat := 0x410012 + 0x100 * c
def FORCE_IGNORED (c : Nat) : Nat := 0x410013 + 0x100 * c
def FILL_INSTANT (c : Nat) : Nat := 0x410014 + 0x100 * c
def GRAINS_TAKEN (c : Nat) : Nat := 0x410015 + 0x100 * c
def ALLOC_BASE (c : Nat) : Nat := 0x410016 + 0x100 * c
def LAST_SEQ (c : Nat) : Nat := 0x410017 + 0x100 * c
def LAST_TAKEN_INDEX (c : Nat) : Nat := 0x410018 + 0x100 * c
def DIR_ROW : Nat := 0x420001
def ENTRY_SEQUENCE : Nat := 0x420002
def ENTRY_INFO : Nat := 0x420003
def ENTRY_SLOTS : Nat := 0x420004
def ENTRY_EPOCH : Nat := 0x420005
def ENTRY_FLAGS : Nat := 0x420006
def ENTRY_FRACTION : Nat := 0x420007
def ENTRY_SEGMENT_NUMBER : Nat := 0x420008
def ENTRY_TRIG_INDEX : Nat := 0x420009
def ENTRY_START_INDEX : Nat := 0x42000A
def ENTRY_START_GRAIN : Nat := 0x42000B
def ENTRY_GRAIN_COUNT : Nat := 0x42000C
def ENTRY_TRIG_OFFSET : Nat := 0x42000D
def ENTRY_STATE : Nat := 0x42000E
def DIR_NEXT_SEQ : Nat := 0x420101
def DIR_OLDEST_SEQ : Nat := 0x420102
def DIR_FREE : Nat := 0x420103
def HOST_ACK_SEQ : Nat := 0x420104
def MISSED_TOTAL : Nat := 0x420105
def MISSED_QUEUE : Nat := 0x420106
def MISSED_RING : Nat := 0x420107
def DIR_PEAK_USED : Nat := 0x420108
def EPOCH_COUNT : Nat := 0x420109
def POND_STATUS : Nat := 0x440001
def SAMPLE_REGION_GRAINS : Nat := 0x440002
def SHARE_A : Nat := 0x440003
def SHARE_B : Nat := 0x440004
def SHARE_C : Nat := 0x440005
def SHARE_D : Nat := 0x440006
def LARGEST_FREE_A : Nat := 0x440007
def LARGEST_FREE_B : Nat := 0x440008
def LARGEST_FREE_C : Nat := 0x440009
def LARGEST_FREE_D : Nat := 0x44000A
def PLANE_FRAMES : Nat := 0x44000B
def RUNNER_BW_LIMIT : Nat := 0x44000C
def BW_HEADRACE : Nat := 0x44000D
def BW_MAINTENANCE : Nat := 0x44000E
def BW_RUNNERS : Nat := 0x44000F
def BW_TAILRACE : Nat := 0x440010
def BW_SYSTEM : Nat := 0x440011
def CORRECTED_COUNT : Nat := 0x440012
def UNCORRECTABLE_COUNT : Nat := 0x440013
def GAP_LIST_USED : Nat := 0x440014
def SCRUB_PASSES : Nat := 0x440015
def SCRUB_LAST_PASS_MS : Nat := 0x440016
def HALF_STATUS_0 : Nat := 0x440017
def HALF_STATUS_1 : Nat := 0x440018
def HALF_STATUS_2 : Nat := 0x440019
def HALF_STATUS_3 : Nat := 0x44001A
def COPY_PROGRESS : Nat := 0x44001B
def GAP_ROW : Nat := 0x440101
def GAP_KIND : Nat := 0x440102
def GAP_CHANNEL : Nat := 0x440103
def GAP_FIRST_INDEX : Nat := 0x440104
def GAP_GRAINS : Nat := 0x440105
def GAP_ADDRESS : Nat := 0x440106
def GAP_PC : Nat := 0x440107
def GAP_EPOCH : Nat := 0x440108
def CATALOGUE_VERSION : Nat := 0x480001
def RUNNERS_ACTIVE : Nat := 0x480002
def CLUSTERS_PARKED : Nat := 0x480003
def RUN_FREQ_NOW : Nat := 0x480004
def MEAS_TIMEOUT : Nat := 0x480005
def RESULT_INTERVAL : Nat := 0x480006
def WORK_BACKLOG : Nat := 0x480007
def FARM_LOAD : Nat := 0x480008
def INSTANCES_DONE : Nat := 0x480009
def GATE_MISFIT_TOTAL : Nat := 0x48000A
def WORK_DROPPED : Nat := 0x48000B
def WORK_TIMEOUTS : Nat := 0x48000C
def WORK_OVERWRITTEN : Nat := 0x48000D
def RASTER_LOG_OVERRUN : Nat := 0x48000E
def RESIDUE_COUNT : Nat := 0x48000F
def CLUSTER_STATUS (i : Nat) : Nat := 0x480010 + i
def SRAM_CORRECTED : Nat := 0x480020
def CR_ROW : Nat := 0x481001
def CR_ORDER : Nat := 0x481002
def CR_UI : Nat := 0x481003
def CR_K1_SHIFT : Nat := 0x481004
def CR_K2_SHIFT : Nat := 0x481005
def CR_EDGES : Nat := 0x481006
def CR_SETTLE : Nat := 0x481007
def CR_APPLY : Nat := 0x481008
def PARAM_ROW : Nat := 0x482001
def TOPBASE_METHOD : Nat := 0x482002
def HIST_MIN_FRACTION : Nat := 0x482003
def MID_MODE : Nat := 0x482004
def MID_PERCENT : Nat := 0x482005
def MID_ABS : Nat := 0x482006
def HYST_PERCENT : Nat := 0x482007
def EDGE_SENSE : Nat := 0x482008
def PARAM_APPLY : Nat := 0x482009
def GATE_ROW : Nat := 0x4A0001
def GATE_ENABLE : Nat := 0x4A0002
def REF_KIND : Nat := 0x4A0003
def REF_SLOT : Nat := 0x4A0004
def REF_FRAME_MODE : Nat := 0x4A0005
def REF_FRAME_VALUE : Nat := 0x4A0006
def REF_FRAME_MODULUS : Nat := 0x4A0007
def REF_LINE : Nat := 0x4A0008
def GATE_OFFSET : Nat := 0x4A0009
def GATE_LENGTH : Nat := 0x4A000A
def GATE_CHANNELS : Nat := 0x4A000B
def MEAS_SET : Nat := 0x4A000C
def CR_SET : Nat := 0x4A000D
def PARAM_SET : Nat := 0x4A000E
def PLANE : Nat := 0x4A000F
def STATS_POLICY : Nat := 0x4A0010
def GATE_APPLY : Nat := 0x4A0011
def GATE_SEQUENCE : Nat := 0x4A0012
def GATE_INSTANCES : Nat := 0x4A0013
def GATE_MISFITS : Nat := 0x4A0014
def GATE_RESET : Nat := 0x4A0015
def RES_ROW : Nat := 0x4C0001
def RES_LAST : Nat := 0x4C0002
def RES_MIN : Nat := 0x4C0003
def RES_MAX : Nat := 0x4C0004
def RES_MEAN : Nat := 0x4C0005
def RES_STDDEV : Nat := 0x4C0006
def RES_COUNT : Nat := 0x4C0007
def RES_LAST_INDEX : Nat := 0x4C0008
def RES_SEQUENCE : Nat := 0x4C0009
def RES_STATUS : Nat := 0x4C000A
def PLANE_ROW : Nat := 0x4E0001
def PLANE_KIND : Nat := 0x4E0002
def EYE_UIS : Nat := 0x4E0003
def Y_LOW : Nat := 0x4E0004
def Y_HIGH : Nat := 0x4E0005
def X_WIDTH : Nat := 0x4E0006
def MASK_VERTICES : Nat := 0x4E0007
def PLANE_APPLY : Nat := 0x4E0008
def PLANE_CLEAR : Nat := 0x4E0009
def PLANE_STATUS : Nat := 0x4E000A
def PLANE_POINTS : Nat := 0x4E000B
def PLANE_OUTSIDE : Nat := 0x4E000C
def PLANE_UNLOCKED : Nat := 0x4E000D
def PLANE_HITS : Nat := 0x4E000E
def PLANE_SAT_LOST : Nat := 0x4E000F
def PLANE_LOST_TILES : Nat := 0x4E0010
def PLANE_LOST_LINES : Nat := 0x4E0011
def MASK_BINS : Nat := 0x4E0012
def MASK_VERTEX (i : Nat) : Nat := 0x4E0014 + i
def SNAP_PLANE : Nat := 0x4E1001
def SNAP_STATE : Nat := 0x4E1002
def SNAP_HEADER : Nat := 0x4E1003
def SNAP_ROW : Nat := 0x4E1004
def SNAP_ROW_DATA : Nat := 0x4E1005
def SNAP_RELEASE : Nat := 0x4E1006
def SNAP_TIMEOUT : Nat := 0x4E1007
def DISP_BUFFER : Nat := 0x4E2001
def DISP_ENTRY_SEQ : Nat := 0x4E2002
def DISP_CHANNEL : Nat := 0x4E2003
def DISP_START : Nat := 0x4E2004
def DISP_LENGTH : Nat := 0x4E2005
def DISP_FACTOR : Nat := 0x4E2006
def DISP_GO : Nat := 0x4E2007
def DISP_STATE : Nat := 0x4E2008
def DISP_PAIRS : Nat := 0x4E2009
def DISP_GRAIN_ROW : Nat := 0x4E200A
def DISP_GRAIN : Nat := 0x4E200B
def PLANES_IN_USE : Nat := 0x4E3001
def SNAPSHOTS_OPEN : Nat := 0x4E3002
def SNAPSHOT_FRAMES_FREE : Nat := 0x4E3003
def PLANE_FLUSH : Nat := 0x4E3004
def ACCUM_NO_PLANE : Nat := 0x4E3005
def TIMEBASE_STATE : Nat := 0x230001
def REF_SELECT : Nat := 0x230002
def REF_DETECTED : Nat := 0x230003
def TIMEBASE_CORRECTION : Nat := 0x230004
def REF_PHASE_ERROR : Nat := 0x230005
def UNREF_INTERVALS : Nat := 0x230006
def FANTAIL_STATUS : Nat := 0x230007
def SSC_APPLIED : Nat := 0x230008
def FAILOVER_COUNT : Nat := 0x230009
def RELOCK_COUNT (i : Nat) : Nat := 0x23000A + i
def SSC_POND : Nat := 0x230011
def SSC_COMMIT : Nat := 0x230012
def SYNC_IN_ENABLE : Nat := 0x230013
def SYNC_IGNORED : Nat := 0x230014
def SSC_RUN : Nat := 0x230015
def SSC_CTL : Nat := 0x230016
def DRESS_STATUS : Nat := 0x500001
def PASSES_ACTIVE : Nat := 0x500002
def GAP_DRESS_ENABLE : Nat := 0x500003
def CAL_GENERATION : Nat := 0x500004
def CAL_COPIES : Nat := 0x500005
def COMMIT_RESULT : Nat := 0x500006
def PASSES_ACCEPTED : Nat := 0x500007
def PASSES_REJECTED : Nat := 0x500008
def PASSES_RESTARTED : Nat := 0x500009
def PASSES_ABORTED : Nat := 0x50000A
def DRESS_UNIT : Nat := 0x501001
def PASS_STATE : Nat := 0x501002
def LAST_OUTCOME : Nat := 0x501003
def QUALITY_1 : Nat := 0x501004
def QUALITY_2 : Nat := 0x501005
def QUALITY_3 : Nat := 0x501006
def DISAGREE_MAX : Nat := 0x501007
def TAPS_REMAINING : Nat := 0x501008
def LAST_ACCEPT_INDEX : Nat := 0x501009
def LAST_ACCEPT_EPOCH : Nat := 0x50100A
def UNIT_PASSES : Nat := 0x50100B
def INTERP_AGE (i : Nat) : Nat := 0x502001 + i
def TIMER_AGE : Nat := 0x502005
def SPARE_AGE (i : Nat) : Nat := 0x502006 + i
def GAP_WINDOWS_ACCEPTED : Nat := 0x50200A
def GAP_WINDOWS_REJECTED : Nat := 0x50200B
def LAYER_STATUS : Nat := 0x520001
def POLICY_CH (i : Nat) : Nat := 0x520002 + i
def POLICY_POND : Nat := 0x520006
def POLICY_RUNNERS : Nat := 0x520007
def POLICY_FANTAIL : Nat := 0x520008
def POLICY_GOVERNOR : Nat := 0x520009
def POLICY_TAILRACE : Nat := 0x52000A
def POLICY_HEDGE : Nat := 0x52000B
def WEAR_THRESHOLD : Nat := 0x52000C
def ASK_TIMEOUT : Nat := 0x52000D
def LAYER_GRANT : Nat := 0x52000E
def LAYER_DECLINE : Nat := 0x52000F
def ASK_PENDING_COUNT : Nat := 0x520010
def LAYERINGS_WEAR : Nat := 0x520011
def LAYERINGS_HARD : Nat := 0x520012
def SPARES_SLICES : Nat := 0x520013
def SPARES_PCS : Nat := 0x520014
def SPARES_RUNNERS : Nat := 0x520015
def SPARES_LANES : Nat := 0x520016
def SPARES_PAIRS : Nat := 0x520017
def SPARES_PHASES : Nat := 0x520018
def SPARE_TWIN : Nat := 0x520019
def WEAR_UNIT : Nat := 0x521001
def WEAR_NOW : Nat := 0x521002
def WEAR_SOURCE : Nat := 0x521003
def WEAR_PEAK : Nat := 0x521004
def ASK_STATE : Nat := 0x521005
def ASK_REMAINING : Nat := 0x521006
def UNIT_LAYERINGS : Nat := 0x521007
def FAULT_STATUS : Nat := 0x540001
def FAULT_NEXT_SEQ : Nat := 0x540002
def FAULTS_COVERED : Nat := 0x540003
def FAULTS_UNCOVERED : Nat := 0x540004
def FAULTED_CAUSE : Nat := 0x540005
def EMCY_LOST : Nat := 0x540006
def PREV_FAULT (i : Nat) : Nat := 0x54000A + i
def FAULT_ROW : Nat := 0x541001
def FAULT_RECORD : Nat := 0x541002
def FAULT_SEQUENCE : Nat := 0x541003
def FAULT_KIND : Nat := 0x541004
def FAULT_UNIT : Nat := 0x541005
def FAULT_OUTCOME : Nat := 0x541006
def FAULT_INDEX : Nat := 0x541007
def GOV_STATUS : Nat := 0x220001
def POWER_STATE : Nat := 0x220002
def POWER_CAP : Nat := 0x220003
def LID_LIMIT : Nat := 0x220004
def RUN_FREQ_MAX : Nat := 0x220005
def GOV_STEP : Nat := 0x220006
def VIN : Nat := 0x220007
def IIN : Nat := 0x220008
def P_IN : Nat := 0x220009
def P_IN_PEAK : Nat := 0x22000A
def EFFICIENCY : Nat := 0x22000B
def RAIL_POWER (i : Nat) : Nat := 0x22000C + i
def ENERGY_IN : Nat := 0x220012
def DOZE_AFTER : Nat := 0x220013
def DOZE_NOW : Nat := 0x220014
def WAKE_SOURCE : Nat := 0x220015
def WAKE_TIME_LAST : Nat := 0x220016
def SLEEP_COUNT : Nat := 0x220017
def STEPS_DOWN : Nat := 0x220018
def STEPS_UP : Nat := 0x220019
def LIMIT_REFUSALS : Nat := 0x22001A
def LAST_SHUTDOWN : Nat := 0x22001B
def LID_TEMP : Nat := 0x22001C
def DIE_TEMP (i : Nat) : Nat := 0x22001D + i
def TIMER_STATUS : Nat := 0x240001
def TIMER_MODE : Nat := 0x240002
def EDGE_SELECT : Nat := 0x240003
def PAIR_LIMIT : Nat := 0x240004
def STAMPS_WAITING : Nat := 0x240005
def STAMP_NEXT : Nat := 0x240006
def PAIR_NEXT_SEQ : Nat := 0x240007
def PAIRS_LOST : Nat := 0x240008
def PAIRS_CUT : Nat := 0x240009
def EXTRA_EDGES : Nat := 0x24000A
def DEAD_EDGES : Nat := 0x24000B
def CONST_GEN : Nat := 0x24000C
def PATH_DELAY_START : Nat := 0x24000D
def PATH_DELAY_STOP : Nat := 0x24000E
def TT_GEN : Nat := 0x241001
def TT_CONVERTER : Nat := 0x241002
def TT_ROW : Nat := 0x241003
def TT_VALUE : Nat := 0x241004
def MON_STATUS : Nat := 0x250001
def CROSS_DIFF_22 : Nat := 0x250002
def CROSS_DIFF_23 : Nat := 0x250003
def CROSS_FAILS : Nat := 0x250004
def MON_TEST : Nat := 0x250005
def MON_OFFSET (i : Nat) : Nat := 0x250006 + i
def INJ_REQUEST : Nat := 0x250008
def INJ_RESULT (i : Nat) : Nat := 0x250009 + i
def MON_GAIN_CORR (i : Nat) : Nat := 0x25000B + i
def MT_CONVERTER : Nat := 0x251001
def MT_ROW : Nat := 0x251002
def MT_INPUT : Nat := 0x251003
def MT_REPEAT : Nat := 0x251004
def MT_DELAY : Nat := 0x251005
def MT_LENGTH : Nat := 0x251006
def MT_APPLY : Nat := 0x251007
def SQ_CONVERTER : Nat := 0x252001
def SQ_ROW : Nat := 0x252002
def SQ_INPUT : Nat := 0x252003
def SQ_GAIN : Nat := 0x252004
def SQ_SAMPLE_TIME : Nat := 0x252005
def SQ_CODE : Nat := 0x252006
def REFUSAL_REASON : Nat := 0x2F1001
def REFUSAL_ABORT : Nat := 0x2F1002
def REFUSAL_OBJECT : Nat := 0x2F1003
def REFUSAL_COMMAND : Nat := 0x2F1004
def REFUSAL_PLAN : Nat := 0x2F1005
def REFUSAL_PATH : Nat := 0x2F1006
def REFUSAL_COUNT : Nat := 0x2F1007
def NODE_ID_ACTIVE : Nat := 0x2F0001
def NODE_ID_OVERRIDE : Nat := 0x2F0002
def NODE_ID_BALLS : Nat := 0x2F0003
def CAN_DATA_RATE : Nat := 0x2F0004
def CAN_STATUS : Nat := 0x2F0005
def BUS_OFF_COUNT : Nat := 0x2F0006
def RX_IGNORED : Nat := 0x2F0007
def RPDO_REFUSED : Nat := 0x2F0008
def RPDO_LOST : Nat := 0x2F0009
def SDO_MAX_RESPONSE : Nat := 0x2F000A
def OD_FRAME_MAX_RESPONSE : Nat := 0x2F000B
def PRODUCT_CODE : Nat := 0x200001
def DEVICE_STATE : Nat := 0x200002
def ACQ_STATE : Nat := 0x200003
def SERIAL_NUMBER : Nat := 0x200004
def HW_REVISION : Nat := 0x200005
def FW_VERSION : Nat := 0x200006
def DICTIONARY_VERSION : Nat := 0x200007
def BOOT_COUNT : Nat := 0x200008
def RUN_TIME : Nat := 0x200009
def STATE_SEQUENCE : Nat := 0x20000A
def MODULE_STATUS : Nat := 0x20000B
def COMMAND : Nat := 0x210001
def LAST_COMMAND : Nat := 0x210002
def COMMANDS_ACCEPTED : Nat := 0x210003
def LAST_COMMAND_PATH : Nat := 0x210004
def TAIL_STATUS : Nat := 0x560001
def LANE_ENABLE : Nat := 0x560002
def CREDIT_TIMEOUT : Nat := 0x560003
def FRAMES_SENT : Nat := 0x560004
def FRAMES_RECEIVED : Nat := 0x560005
def CRC_ERRORS : Nat := 0x560006
def REPLAYS : Nat := 0x560007
def ESCALATIONS : Nat := 0x560008
def LISTEN_RETRIES : Nat := 0x560009
def FRAMES_DISCARDED : Nat := 0x56000A
def STALLS : Nat := 0x56000B
def LANE_STATUS (i : Nat) : Nat := 0x560101 + i
def GROUP_STATUS (i : Nat) : Nat := 0x560201 + i
def GATE_BULK : Nat := 0x560401
def STREAM_ROW : Nat := 0x561001
def STREAM_GROUP : Nat := 0x561002
def STREAM_KIND : Nat := 0x561003
def SRC_A : Nat := 0x561004
def SRC_B : Nat := 0x561005
def SRC_CHANNELS : Nat := 0x561006
def STREAM_GO : Nat := 0x561007
def STREAM_ABORT : Nat := 0x561008
def STREAM_STATE : Nat := 0x561009
def STREAM_CREDITS : Nat := 0x56100A
def STREAM_FRAMES : Nat := 0x56100B
def HEDGE_STATUS : Nat := 0x570001
def HEDGE_ENABLE : Nat := 0x570002
def NEIGHBOUR_EPOCH_W : Nat := 0x570003
def NEIGHBOUR_EPOCH_E : Nat := 0x570004
def EPOCH_OFFSET_W : Nat := 0x570005
def EPOCH_OFFSET_E : Nat := 0x570006
def HEDGE_LATENCY_W : Nat := 0x570007
def HEDGE_LATENCY_E : Nat := 0x570008
def HEDGE_REPLAYS : Nat := 0x570009
def HEDGE_DISCARDED : Nat := 0x57000A
def CTB_ROLE (i : Nat) : Nat := 0x570101 + i
def CTB_ANSWER_PLANS : Nat := 0x570105
def CTB_ANSWER_SENSE : Nat := 0x570106
def CTB_LINES_NOW : Nat := 0x570107
def CTB_QUERIES : Nat := 0x570108
def UPD_STATE : Nat := 0x580001
def UPD_SOURCE : Nat := 0x580002
def UPD_LENGTH : Nat := 0x580003
def UPD_DIGEST : Nat := 0x580004
def UPD_OFFSET : Nat := 0x580005
def UPD_DATA : Nat := 0x580006
def UPD_RECEIVED : Nat := 0x580007
def UPD_ABORT : Nat := 0x580008
def CONFIRM : Nat := 0x580009
def CONFIRM_REMAINING : Nat := 0x58000A
def UPD_BANK_ACTIVE : Nat := 0x58000B
def BANK_STATE_0 : Nat := 0x58000C
def BANK_STATE_1 : Nat := 0x58000D
def BANK_VERSION_0 : Nat := 0x58000E
def BANK_VERSION_1 : Nat := 0x58000F
def SELECT_GENERATION : Nat := 0x580010
def TRIAL_BOOTS : Nat := 0x580011
def BOOT_OUTCOME : Nat := 0x580012
def REJECT_REASON : Nat := 0x580013
def FORWARD_ENABLE : Nat := 0x580014
def FORWARD_STATE_W : Nat := 0x580015
def FORWARD_STATE_E : Nat := 0x580016
def UPD_DISCARDED : Nat := 0x580017
def TRACE_STATUS : Nat := 0x5F0001
def TRACE_NEXT_SEQ : Nat := 0x5F0002
def TRACE_OLDEST_SEQ : Nat := 0x5F0003
def TRC_ENABLE : Nat := 0x5F0004
def TRC_MASK : Nat := 0x5F0005
def TRACE_QUEUE_NOW : Nat := 0x5F0006
def COUNTER_ALL : Nat := 0x5F0007
def TRACE_ROW : Nat := 0x5F1001
def TRACE_ENTRY : Nat := 0x5F1002
def TRACE_SEQUENCE : Nat := 0x5F1003
def TRACE_EVENT : Nat := 0x5F1004
def TRACE_INDEX : Nat := 0x5F1005
def DEVICE_TYPE : Nat := 0x100000
def ERROR_REGISTER : Nat := 0x100100
def ERROR_HISTORY_COUNT : Nat := 0x100300
def ERROR_HISTORY (i : Nat) : Nat := 0x100301 + i
def SYNC_COB_ID : Nat := 0x100500
def STORE_MAX : Nat := 0x101000
def STORE_COMM : Nat := 0x101002
def RESTORE_MAX : Nat := 0x101100
def RESTORE_COMM : Nat := 0x101102
def EMCY_COB_ID : Nat := 0x101400
def EMCY_INHIBIT : Nat := 0x101500
def HEARTBEAT_TIME : Nat := 0x101700
def IDENTITY_MAX : Nat := 0x101800
def IDENTITY (i : Nat) : Nat := 0x101801 + i
def SYNC_COUNTER : Nat := 0x101900
def RPDO_MAX (c : Nat) : Nat := 0x140000 + 0x100 * c
def RPDO_COB_ID (c : Nat) : Nat := 0x140001 + 0x100 * c
def RPDO_TYPE (c : Nat) : Nat := 0x140002 + 0x100 * c
def RPDO_MAP_COUNT (c : Nat) : Nat := 0x160000 + 0x100 * c
def RPDO_MAP (c i : Nat) : Nat := 0x160001 + 0x100 * c + i
def TPDO_MAX (c : Nat) : Nat := 0x180000 + 0x100 * c
def TPDO_COB_ID (c : Nat) : Nat := 0x180001 + 0x100 * c
def TPDO_TYPE (c : Nat) : Nat := 0x180002 + 0x100 * c
def TPDO_INHIBIT (c : Nat) : Nat := 0x180003 + 0x100 * c
def TPDO_EVENT_TIMER (c : Nat) : Nat := 0x180005 + 0x100 * c
def TPDO_SYNC_START (c : Nat) : Nat := 0x180006 + 0x100 * c
def TPDO_MAP_COUNT (c : Nat) : Nat := 0x1A0000 + 0x100 * c
def TPDO_MAP (c i : Nat) : Nat := 0x1A0001 + 0x100 * c + i
def MON_VALUE (c i : Nat) : Nat := 0x250101 + 0x100 * c + i
def COUNTER (c i : Nat) : Nat := 0x5E0001 + 0x100 * c + i

end Sys2Proof.Machine.O
end

