-- ==== Sys2Proof/Machine/State.lean ====
section
/-!
DEFINITION. The state of the module as plain data: everything the chapters of the spec give it, with the value after reset as
each field's default. Times are absolute sample periods (Word.lean); sample indices are of the present epoch.
-/

namespace Sys2Proof.Machine

/-! ### Clock, device state, faults, trace, field network (chapters 01, 11, 14, 18) -/

/-- Time (R10, R257) and run time (R406). -/
structure Clk where
  /-- Present time. -/
  now : Time := 0
  /-- Absolute time of sample 0 of the epoch (R10). -/
  epochBase : Time := 0
  /-- Run time since Boot: seconds counted so far, and since when the present Run or Idle span runs (R406). -/
  runSince : Time := 0
  runBefore : Time := 0
  deriving DecidableEq, Repr

/-- What the device state rests on (R27): Boot, running, Sleep, or Faulted. -/
inductive DevMode where
  | boot | run | sleep | faulted
  deriving DecidableEq, Repr

/-- A fault record (R318). -/
structure FaultRec where
  seq : Nat := 0
  index : Int := 0
  epoch : Nat := 0
  flags : Nat := 0
  unit : Nat := 0
  slice : Nat := 0xFFFF
  kind : Nat := 0
  outcome : Nat := 0
  emcy : Nat := 0
  detail : Nat := 0
  interruption : Nat := 0
  deriving DecidableEq, Repr

/-- An EMCY message (R320, R386): error code, error register, first five manufacturer bytes as unit and SEQUENCE. -/
structure Emcy where
  code : Nat
  reg : Nat
  unit : Nat := 0
  seq : Nat := 0
  /-- Bits [31:16] of its history entry (R386). -/
  hist : Nat := 0
  deriving DecidableEq, Repr

/-- Faults: log by row (R319), the uncovered records waiting for flash and those flash holds (newest first), Faulted cause,
bits 1 to 4 of the error register with what they stand for, and the register's last value (R321). -/
structure FaultSt where
  log : Tbl FaultRec := []
  next : Nat := 0
  cause : Option Nat := none
  /-- An uncovered fault has just come about: the plans are still to be stopped within the same step (R154). -/
  stop : Bool := false
  uncovered : Nat := 0
  toFlash : List FaultRec := []
  flash : List FaultRec := []
  /-- Records of earlier boots in PREV_FAULT_0 to _7 (R319). -/
  prev : List FaultRec := []
  /-- Latched rows of the fault window, by path (R327). -/
  win : Tbl FaultRec := []
  faultN : Bool := false
  /-- Units that report FAILED, that report DEGRADED, and that have no ready spare (R321). -/
  failed : List Nat := []
  degraded : List Nat := []
  noSpare : List Nat := []
  /-- Bits 1 to 3 of 1001h. -/
  gov : Nat := 0
  /-- Bit 4 of 1001h is set until this time; none: while the controller is not error active. -/
  canBit : Bool := false
  canUntil : Option Time := none
  lastReg : Nat := 0
  emcy : List Emcy := []
  deriving DecidableEq, Repr

/-- A trace entry (R469). -/
structure TraceEnt where
  index : Int := 0
  seq : Nat := 0
  epoch : Nat := 0
  flags : Nat := 0
  event : Nat := 0
  unit : Nat := 0
  slice : Nat := 0
  data : Nat := 0
  deriving DecidableEq, Repr

/-- Trace queue, ring and port (R470, R475). -/
structure TraceSt where
  queue : List TraceEnt := []
  ring : Tbl TraceEnt := []
  next : Nat := 0
  written : Nat := 0
  dropped : Bool := false
  dropAt : Option Time := none
  wroteAt : Option Time := none
  port : List TraceEnt := []
  portLast : Option TraceEnt := none
  /-- Rows whose store line is uncorrectable (R183). -/
  lost : List Nat := []
  /-- Latched rows of the trace window, by path (R478). -/
  win : Tbl TraceEnt := []
  deriving DecidableEq, Repr

/-- A host access (R380): path, write or read, object, data length in bytes and value. -/
structure Acc where
  path : Path
  write : Bool
  idx : Nat
  sub : Nat
  len : Nat
  v : Int
  deriving DecidableEq, Repr

/-- How an access ended: value read or 0, or abort and reason (R394, R396). -/
structure Resp where
  path : Path := .sdo
  idx : Nat := 0
  sub : Nat := 0
  value : Int := 0
  abort : Nat := 0
  reason : Nat := 0
  deriving DecidableEq, Repr

/-- The last refusal (R395). -/
structure Refusals where
  reason : Nat := 0
  abort : Nat := 0
  object : Nat := 0
  command : Nat := 0
  plan : Nat := 255
  path : Nat := 0
  count : Nat := 0
  deriving DecidableEq, Repr

/-- NMT states (R32). -/
inductive Nmt where
  | init | preOp | operational | stopped
  deriving DecidableEq, Repr

/-- A frame on the CAN bus as last sent under its identifier: data as little-endian number and length. -/
structure CanFrame where
  len : Nat := 0
  data : Nat := 0
  deriving DecidableEq, Repr

/-- A segmented transfer on the SDO channel (R379): object, direction, bytes moved so far, content, last activity. -/
structure Xfer where
  idx : Nat
  sub : Nat
  write : Bool
  size : Nat
  moved : Nat
  data : Nat
  last : Time
  deriving DecidableEq, Repr

/-- A TPDO's sending state (R383): SYNCs counted, last sending, value last sampled. -/
structure TpdoSt where
  syncs : Nat := 0
  sentAt : Option Time := none
  sampled : List Int := []
  changed : Bool := false
  deriving DecidableEq, Repr

/-- The field network and the Miller's access path. -/
structure NetSt where
  nmt : Nmt := .preOp
  /-- The Miller serves accesses: not in Boot, nor after the way down into Sleep (R392, R393). -/
  serving : Bool := true
  /-- Node-ID in force, and NODE_ID[6:0] as last read (R377). -/
  nodeId : Nat := 33
  balls : Nat := 33
  /-- The stored override and data rate (flash), and whether one awaits its reset (R377). -/
  storedNode : Nat := 0
  storedRate : Nat := 2
  storePending : Bool := false
  rateNow : Nat := 2
  xfer : Option Xfer := none
  /-- RPDOs received and waiting, with the time of each: synchronous ones for a SYNC, others for the Miller (R384). -/
  rpdos : List (Time × Nat × List Nat) := []
  overrun : Bool := false
  tpdo : Tbl TpdoSt := []
  syncCount : Nat := 0
  sent : Tbl CanFrame := []
  bootUps : Nat := 0
  hbAt : Option Time := none
  emcyAt : Option Time := none
  history : List Nat := []
  passive : Bool := false
  busOff : Bool := false
  activeSince : Option Time := none
  /-- Communication objects stored by "save" (R383): keys and values. -/
  saved : Option (List (Nat × Int)) := none
  /-- Accesses that wait for the Miller while the CTL domain is stopped (R23). -/
  held : List (Time × Acc) := []
  last : Resp := {}
  sdoMax : Nat := 0
  odMax : Nat := 0
  lastCmd : Nat := 0
  lastCmdPath : Nat := 0
  cmds : Nat := 0
  refusal : Refusals := {}
  deriving DecidableEq, Repr

/-! ### Grains and channels (chapters 02, 03) -/

/-- The flag word of a grain (R52). -/
structure Flags where
  unref : Bool := false
  segEnd : Bool := false
  segStart : Bool := false
  trig : Bool := false
  decim : Bool := false
  gap : Bool := false
  layer : Bool := false
  overR : Bool := false
  stale : Bool := false
  settling : Bool := false
  valid : Bool := false
  deriving DecidableEq, Repr

/-- A grain (R50): its descriptor's kind, channel and decimation phase (R53), sample index, flags, and payload values:
64 codes, 40 filtered values, or 20 pairs minimum, maximum (R51). Its 96 bytes and CRC are functions of these. -/
structure Grain where
  kind : Nat := 0
  ch : Nat := 0
  phase : Nat := 0
  index : Int := 0
  flags : Flags := {}
  vals : List Int := []
  /-- The model's own, no part of the grain's bytes: the origin generation that its index counts in, and the number of its writing;
how far an output's newest raw input lies beyond its reported index (R76, R81); the outputs whose raw inputs are affected (R57). -/
  gen : Nat := 0
  ord : Nat := 0
  late : Int := 0
  overRs : List Bool := []
  deriving DecidableEq, Repr

/-- A raw grain as the deinterleaver formed it, kept as filter history: codes, which samples over-range affects (R57), its
row of R55 and marks. -/
structure RawGrain where
  index : Int := 0
  codes : List Int := []
  aff : List Bool := []
  gap : Bool := false
  stale : Bool := false
  layer : Bool := false
  unref : Bool := false
  settle : Bool := false
  switched : Bool := false
  blind : Bool := false
  deriving DecidableEq, Repr

/-- RANGE and OFFSET as a write leaves them, and when the write reaches the GRAIN domain (R63, R64). -/
structure RangeWrite where
  at_ : Time
  range : Nat
  offset : Int
  deriving DecidableEq, Repr

/-- A preparation (R63): the start of its switch grain, and the values that the switch applies. -/
structure Prep where
  at_ : Time
  range : Nat
  offset : Int
  deriving DecidableEq, Repr

/-- A Bolter's effective configuration (R75). -/
structure BolterCfg where
  mode : Nat := 0
  preset : Nat := 1
  factor : Nat := 2
  delay : Nat := 0
  frac : Nat := 0
  deriving DecidableEq, Repr

/-- The output grain in progress: output-grain number k, outputs so far (newest first), and what its rows and flags gather. -/
structure OutGrain where
  num : Int := 0
  count : Nat := 0
  vals : List Int := []
  /-- Is the output being formed affected so far (R57), and the outputs formed, the latest first? -/
  overR : Bool := false
  overRs : List Bool := []
  settle : Bool := false
  gap : Bool := false
  stale : Bool := false
  layer : Bool := false
  unref : Bool := false
  residue : Bool := false
  /-- The outputs before the first whole grain are formed and thrown away (R75). -/
  broken : Bool := false
  deriving DecidableEq, Repr

/-- One writing of a grain for a plan: the plan and the allocation offset it goes to (R134, R148). -/
structure Take where
  plan : Nat
  off : Nat
  /-- The plan's ARM, by number. -/
  arm : Nat := 0
  deriving DecidableEq, Repr

/-- A grain in the Headrace's fixed delay or queue (R60): when it leaves, its plan grain number, the origin generation it
belongs to, and the plans that take it. -/
structure Delayed where
  at_ : Time
  /-- Its place among the channel's output grains since Boot. -/
  ord : Nat := 0
  num : Int
  gen : Nat
  /-- A merged gap range covers it (R25). -/
  gone : Bool := false
  grain : Grain
  takes : List Take
  deriving DecidableEq, Repr

/-- A coefficient bank swap in progress (R85): outputs counted, boundary B_s as a sample index, fade length, new bank. -/
structure Swap where
  k : Nat
  start : Int
  fade : Nat
  bank : Nat
  deriving DecidableEq, Repr

/-- A gap range in a channel's gap registers (R25). -/
structure GapReg where
  first : Int
  count : Nat
  epoch : Nat
  /-- Place of the last grain dropped among the channel's grains, origin generation of the first, and the region-grain addresses of the
  range. -/
  last : Nat
  gen : Nat
  addrs : List Nat
  deriving DecidableEq, Repr

/-- One channel: front end, Bolter and Headrace share. -/
structure Chan where
  /-- Front end powered and settled (R67). -/
  ready : Bool := true
  /-- READY falls due, when an enable is in progress. -/
  readyAt : Option Time := none
  /-- The next raw grain carries SETTLING: the first since READY (R67), or the switch grain (R65). -/
  settleNext : Bool := true
  switchNext : Bool := false
  /-- A spare begins in service at the next raw grain (R58). -/
  layerNext : Bool := false
  /-- Writes of RANGE and OFFSET on their way to the GRAIN domain, and the preparation pending there (R63, R64). -/
  writes : List RangeWrite := []
  prep : Option Prep := none
  rangeApplied : Nat := 5
  offsetApplied : Int := 0
  lastSwitch : Int := 0
  sticky : Bool := false
  /-- Last sample index that over-range or its recovery affects (R57, R500). -/
  recoverTo : Int := -1
  /-- Raw grains newest first (R80). -/
  hist : List RawGrain := []
  cfg : BolterCfg := {}
  /-- Configuration changes on their way to the GRAIN domain: boundary at which each takes effect (R75, R82). -/
  chgs : List (Time × BolterCfg) := []
  /-- First sample index of the filter history; earlier samples read zero. -/
  zeroAt : Int := 0
  /-- First sample index (in the delayed stream) of the chain in use, after a swap. -/
  chainAt : Int := 0
  settleLeft : Nat := 0
  /-- A Gap or Stale run of raw grains is in progress (R79). -/
  inRun : Bool := false
  out : OutGrain := {}
  /-- Running minimum and maximum of a MINMAX interval. -/
  mm : Option (Int × Int) := none
  /-- Payload, SETTLING and OVERRANGE of the latest VALID grain of each kind (R56). -/
  lastValid : Tbl (List Int × Bool × List Bool) := []
  bank : Nat := 0
  /-- Coefficients and shift of bank b, stage i, at key 4 b + i; unlisted: the preset with shift 17 (R83). -/
  banks : Tbl (List Int × Nat) := []
  /-- Edit copies of the coefficient window, by path (0 field network, 1 OD frames). -/
  edit : Tbl (List Int × Nat) := []
  swapReq : Option Time := none
  swap : Option Swap := none
  swapQueued : Bool := false
  held : Tbl (List Int × Nat) := []
  swapIndex : Int := 0
  /-- Output grains formed since Boot, those in the fixed delay, and those in the queue to the POND domain (R23, R60, R172). -/
  formed : Nat := 0
  delay : List Delayed := []
  queue : List Delayed := []
  /-- Grains are being dropped into the newest gap range (R25). -/
  dropping : Bool := false
  gaps : List GapReg := []
  /-- Range and offset settings, newest first: epoch, first sample index, RANGE, OFFSET (R205). -/
  ranges : List (Nat × Int × Nat × Int) := []
  deriving DecidableEq, Repr

/-- What the four Bolters share: the decimation origin O (R77), when each reset under way reaches the GRAIN domain (R88), and how many
origins and epochs there have been. -/
structure Origin where
  o : Int := 0
  resets : List Time := []
  gen : Nat := 0
  deriving DecidableEq, Repr

/-- A converter quad (R45 to R48): the slice serving each position (key j; unlisted: slice j), trims by slice * 16 + position
as skew and threshold (R47), retired slices, checks failed in a row by slice, and a hard failure's replacement: the absolute
grain start from which the spare serves, with the position. -/
structure Quad where
  map : Tbl Nat := []
  trims : Tbl (Int × Int) := []
  retired : List Nat := []
  spare : Nat := 16
  spareReady : Bool := true
  layered : Bool := false
  failed : Bool := false
  failRun : Tbl Nat := []
  pending : Option (Time × Nat) := none
  deriving DecidableEq, Repr

/-! ### The Sluice (chapter 04) -/

/-- A slot's configuration (R126). -/
structure SlotCfg where
  kind : Nat := 0
  role : Nat := 0
  ch : Nat := 0
  slope : Nat := 0
  a : Int := 0
  b : Int := 0
  hyst : Int := 64
  qv : Nat := 0
  qm : Nat := 0
  pmode : Nat := 1
  seqA : Nat := 0
  seqB : Nat := 0
  limit : Nat := 0
  rfMode : Nat := 0
  rfVal : Nat := 0
  rfMod : Nat := 2
  line : Nat := 65535
  off : Nat := 0
  hmode : Nat := 0
  htime : Nat := 1
  hevents : Nat := 1
  deriving DecidableEq, Repr

/-- A trigger slot: its configuration in force and on its way, and its evaluation state (R98 to R104). -/
structure Slot where
  cfg : SlotCfg := {}
  chgs : List (Time × SlotCfg) := []
  /-- RISE or ENTER armed; FALL or EXIT armed. -/
  armUp : Bool := false
  armDown : Bool := false
  /-- The predecessor sample matched (R100). -/
  prev : Bool := false
  seqOpen : Option Int := none
  holdTo : Option Int := none
  skip : Nat := 0
  deriving DecidableEq, Repr

/-- Line state of the raster: line start, line counter (none: unknown), frame counter. -/
structure Line where
  start : Int := 0
  line : Option Nat := none
  frame : Nat := 0
  /-- Samples from the line start before it of the same frame; 0 for the first, or where the line counter was unknown. -/
  period : Nat := 0
  deriving DecidableEq, Repr

/-- Raster state (R112, R114). -/
structure Raster where
  now : Line := {}
  /-- Lines before the present one, newest first, that samples not yet evaluated may still belong to (R113). -/
  past : List Line := []
  frameEdge : Option Int := none
  lineEdge : Option Int := none
  /-- Absolute times of the last edges, for RASTER_PRESENT. -/
  frameAt : Option Time := none
  lineAt : Option Time := none
  pendingCount : Option Nat := none
  lines : Nat := 0
  period : Nat := 0
  deriving DecidableEq, Repr

/-- What LAST_TRIG_INDEX and its companions report (R123, R125). -/
structure LastTrig where
  index : Int := 0
  fraction : Nat := 0
  slots : Nat := 0
  info : Nat := 0
  deriving DecidableEq, Repr

/-- A trigger as the Sluice passes it on (R107, R108, R142): `s` is the sample at which the slot event occurs. -/
structure Trig where
  s : Int := 0
  index : Int := 0
  fraction : Nat := 0
  slots : Nat := 0
  cause : Nat := 0
  quality : Nat := 3
  forced : Bool := false
  /-- What placement needs: channel and crossed level, for EDGE and WINDOW (R109). -/
  place : Option (Nat × Int) := none
  deriving DecidableEq, Repr

/-- A trigger waiting for its placement: the plan that accepted it, its segment unless it was missed, and the interpolator reference in
force at its grain (R293; none: the one from manufacture). -/
structure Placing where
  plan : Nat
  seg : Option Nat
  trig : Trig
  ref : Option (List Int) := none
  deriving DecidableEq, Repr

/-- The Sluice. -/
structure SluiceSt where
  slots : Tbl Slot := []
  /-- Qualifier bits of the channels, [7:0] of R94, as of the last sample. -/
  chBits : Nat := 0
  /-- Values of the four channels at the last sample (R99). -/
  lastV : List Int := []
  qnow : Nat := 0
  ext : Nat := 0
  /-- Qualifier levels in force and on their way, by channel (R128). -/
  levels : Tbl (Int × Int × Int) := []
  lchgs : List (Time × Nat × Int × Int × Int) := []
  raster : Raster := {}
  last : LastTrig := {}
  /-- Copies latched by a read of LAST_TRIG_INDEX. -/
  latched : LastTrig := {}
  /-- Triggers whose placement awaits the samples after theirs (R108, R110). -/
  placing : List Placing := []
  ctbLevels : Nat := 0
  ctbClk : Bool := false
  ctbAnswer : Nat := 0
  ctbPending : Bool := false
  /-- Recent values of the ANSWER conditions with the time each began, newest first (R119). -/
  condHist : List (Time × Nat) := []
  deriving DecidableEq, Repr

/-! ### Plans, segments, the directory (chapter 05) -/

/-- A plan's configuration, frozen at ARM (R130). -/
structure PlanCfg where
  chset : Nat := 0
  bolters : List Nat := []
  slots : Nat := 0
  policy : Nat := 0
  pre : Nat := 0
  post : Nat := 1
  segs : Nat := 1
  alloc : Nat := 0
  ring : Nat := 0
  gateFirst : Nat := 0
  gateCount : Nat := 0
  hostRel : Bool := false
  deriving DecidableEq, Repr

/-- What an ARM that has not reached its g_B gives its plan (R138, R139): configuration, P and G, and allocation base. -/
structure PlanArm where
  cfg : PlanCfg
  p : Nat
  g : Nat
  base : Nat
  deriving DecidableEq, Repr

/-- A plan command on its way to its g_B (R137): 1 ARM, 2 STOP, 3 HOLD, 4 FORCE, 5 RELEASE; boundary B as an absolute time, and the
command's number. -/
structure PlanCmd where
  code : Nat
  b : Time
  batch : Nat
  arm : Option PlanArm := none
  deriving DecidableEq, Repr

/-- A plan. Grain numbers and sample indices are of the present origin (R132). -/
structure Plan where
  st : Nat := 0
  cfg : PlanCfg := {}
  cmds : List PlanCmd := []
  /-- P and G of R131. -/
  p : Nat := 64
  g : Nat := 0
  g0 : Int := 0
  fill : Int := 0
  /-- Grains are taken from `from_` on, and before `until_`. -/
  from_ : Int := 0
  until_ : Option Int := none
  /-- Grain j lies at ring position (j - ringBase) mod R (R148). -/
  ringBase : Int := 0
  /-- Last grain number that has left the Headrace delay, by channel. -/
  lastNum : Tbl Int := []
  /-- A forced trigger waits for this sample (R142). -/
  force : Option Int := none
  /-- The pending segment, and the sample index at which its last grain ends. -/
  seg : Option (Nat × Int) := none
  segNo : Nat := 0
  done : Nat := 0
  taken : Nat := 0
  lastTaken : Int := 0
  base : Nat := 0
  lastSeq : Nat := 0
  /-- Segments of this plan since ARM that have an entry or wait for one. -/
  entries : Nat := 0
  /-- Highest allocation offset taken since ARM, plus one (R185). -/
  extent : Nat := 0
  /-- ARMs that have taken effect. -/
  arms : Nat := 0
  deriving DecidableEq, Repr

/-- A segment from its trigger's acceptance until its entry is COMPLETE. -/
structure Seg where
  plan : Nat
  gen : Nat
  k : Int
  first : Int
  /-- One past its last grain. -/
  stop : Int
  g0 : Int
  /-- Bay or ring base B0, width W, and allocation offset of the first grain (R153). -/
  base : Nat
  width : Nat
  startGrain : Nat
  startIdx : Int
  trigOff : Nat
  segNo : Nat
  epoch : Nat
  chset : Nat
  policy : Nat
  trig : Trig
  /-- The plan's Bolter settings and gate range as frozen at its ARM (R130, R144). -/
  cfg : PlanCfg := {}
  flags : Nat := 0
  /-- Its grain period, to place its grains by index. -/
  p : Nat := 64
  seq : Option Nat := none
  deriving DecidableEq, Repr

/-- A directory entry (R153) with its state (R160) and what its release waits for (R150). -/
structure Entry where
  seq : Nat
  seg : Seg
  count : Nat
  /-- 1 open, 2 complete, 3 released. -/
  state : Nat
  hostRel : Bool := false
  deriving DecidableEq, Repr

/-- Segments, the Sluice's queue (R23) and the directory ring (R150). -/
structure DirSt where
  segs : Tbl Seg := []
  nextSeg : Nat := 0
  queue : List Nat := []
  rows : Tbl Entry := []
  nextSeq : Nat := 0
  oldest : Nat := 0
  hostAck : Nat := 4294967295
  /-- Releases the Sluice's view of the ring has not seen yet, with the time each reaches it (R151). -/
  unseen : List Time := []
  epochs : Nat := 0
  batch : Nat := 0
  /-- Plan commands of which some plan has reached its g_B and another has not (R30). -/
  started : List Nat := []
  lastOpen : Time := 0
  /-- Latched rows of the directory window, by path (R160). -/
  win : Tbl Entry := []
  deriving DecidableEq, Repr

/-! ### The Millpond (chapter 06) -/

/-- A record of the gap list (R194): 1 DROPPED, 2 GRAIN_LOSS, 3 PC_LOSS, 4 LINE_LOSS. -/
structure GapRec where
  kind : Nat := 0
  ch : Nat := 0
  first : Int := 0
  grains : Nat := 0
  addr : Nat := 0
  pc : Nat := 0
  epoch : Nat := 0
  deriving DecidableEq, Repr

/-- A logical pseudo-channel (R164, R187): the physical one that serves it; COPYING with the megabytes copied; SWITCHING
until a time; without any (R188). -/
structure Pc where
  phys : Nat := 0
  copying : Bool := false
  copied : Nat := 0
  switching : Option Time := none
  /-- Addresses with a write queued while SWITCHING (R173). -/
  queued : List Nat := []
  /-- Locations written since a copy began; after a loss, from which byte on content was lost, and what was written since (R187, R188). -/
  both : List Nat := []
  lostFrom : Option Nat := none
  fresh : List Nat := []
  /-- Row of the PC_LOSS record, while entries are still to be marked. -/
  lossRow : Option Nat := none
  dead : Bool := false
  deriving DecidableEq, Repr

/-- A stack half (R193). -/
structure Half where
  spare : Nat := 15
  spareReady : Bool := true
  layered : Bool := false
  failed : Bool := false
  /-- The spare failed the self-test and is retired without having served (R314). -/
  spareRetired : Bool := false
  deriving DecidableEq, Repr

/-- The calibration in force as a copy holds it (R295): trims of slices by quad, other trims, interpolator tables, timer constants. -/
structure CalBody where
  quads : Tbl (Tbl (Int × Int)) := []
  trims : Tbl Int := []
  interp : Tbl (List Int) := []
  timer : Option (Nat × List Nat × List Nat) := none
  /-- Quality figures of units (R300), and when it was committed: COMMIT_INDEX and COMMIT_EPOCH. -/
  quality : Tbl (Nat × Nat × Nat) := []
  index : Int := 0
  epoch : Nat := 0
  deriving DecidableEq, Repr

/-- A read that waits for its credits or for the store (R175), and since when. -/
structure ReadReq where
  rd : StoreRead
  at_ : Time
  deriving DecidableEq, Repr

/-- The store: what each written grain address returns, the gap list, lost lines, pseudo-channels, scrub and write-backs. -/
structure PondSt where
  grains : Tbl Grain := []
  /-- Grains written since Boot. -/
  writes : Nat := 0
  /-- Region-grain addresses recorded as lost, with the rows of the records that cover each (R183, R186). -/
  lost : Tbl (List Nat) := []
  gaps : Tbl GapRec := []
  /-- Latched rows of the gap window, by path (R194). -/
  gapWin : Tbl GapRec := []
  /-- Lines of the results and system regions recorded lost: region * 2^32 + line. -/
  lostLines : List Nat := []
  pcs : Tbl Pc := []
  halves : Tbl Half := []
  copy : Option Nat := none
  /-- Bursts known to hold poison, and those whose write-back is due (R179, R180): 4 x (region * 2^40 + address) + burst. -/
  poison : List Nat := []
  writeBacks : List Nat := []
  /-- Reads not yet served, in the order of their arrival (R174 to R176). -/
  reads : List ReadReq := []
  /-- The calibration shadow (R294). -/
  shadow : CalBody := {}
  /-- Since when the store has not served, and steps of higher rank that have passed over the scrub step now due (R38, R181). -/
  pausedAt : Option Time := none
  passedOver : Nat := 0
  scrubAt : Time := 0
  scrubBurst : Nat := 0
  passStart : Time := 0
  passes : Nat := 0
  passMs : Nat := 0
  behind : Bool := false
  deferred : Nat := 0
  /-- Credits of classes 3 and 4 (R175), in 4,096,000ths of a credit, as of `creditAt`. -/
  credit3 : Nat := 4194304000
  credit4 : Nat := 4194304000
  creditAt : Time := 0
  /-- Bytes served by class (places 203 to 207), and what the last read returned. -/
  served : Tbl Nat := []
  /-- Bytes served within the last 1 ms, newest first: time, class, bytes (4400h.13 to .17). -/
  recent : List (Time × Nat × Nat) := []
  read : Option Grain := none
  readLost : Bool := false
  selfRefresh : Bool := false
  ranDry : Option Time := none
  corrected : Tbl Nat := []
  stagingDamaged : Bool := false
  marking : List Nat := []
  deriving DecidableEq, Repr

/-! ### The Fantail (chapter 09) -/

/-- A loop (R263 to R265): in lock, gate open, failed attempts in a row, when the present attempt began, when the gate may
reopen, when an unplanned loss was detected, and whether it is out of service. -/
structure Loop where
  lock : Bool := true
  gate : Bool := true
  fails : Nat := 0
  began : Time := 0
  openAt : Option Time := none
  lostAt : Option Time := none
  lostIdx : Int := 0
  merges : Nat := 0
  planned : Bool := false
  /-- N to come into force at the reopening (R268, loop 3), and a spread setting to come into force with it (R271). -/
  newN : Option Nat := none
  newSsc : Option Nat := none
  dead : Bool := false
  deriving DecidableEq, Repr

/-- Timebase, loops, twins, SYNC_IN. -/
structure FanSt where
  /-- TIMEBASE_STATE (R259). -/
  tb : Nat := 0
  detected : Nat := 0
  /-- The two last measurements, newest first: 0 no valid signal or absent, 1 10 MHz, 2 100 MHz, 3 other (R258). -/
  meas : List Nat := []
  inUse : Nat := 0
  presentSince : Option Time := none
  /-- The frequency correction in 10^-6 ppm as of `corrAt`, and the one it slews to at no more than 0.5 ppm per second (R260). -/
  correction : Int := 0
  corrTo : Int := 0
  corrAt : Time := 0
  phaseError : Int := 0
  /-- Offset of REF_IN from the timebase with the correction in force, as last measured, in 10^-6 ppm (R513). -/
  freqError : Int := 0
  /-- In ACQUIRING: since when every measurement has met the bounds of R259, and by when they are met (R513). -/
  goodSince : Option Time := none
  acqBy : Time := 0
  /-- Corrections of the last 10 s, newest first (R259). -/
  corrLog : List (Time × Int) := []
  loops : Tbl Loop := []
  runN : Nat := 30
  /-- The RUN loop's pending N (R268), and pending spread settings of POND and RUN. -/
  pendN : Option Nat := none
  active : Nat := 0
  standbyReady : Bool := true
  sscApplied : Nat := 0
  sscStored : Nat := 0
  fallback : Bool := false
  /-- A failover in progress: absolute start of grain D + 2,500 (R274). -/
  failUntil : Option Time := none
  /-- The twins are both lost: no sample until Boot (R276). -/
  sampling : Bool := true
  /-- A registered SYNC_IN: absolute time of sample 0 of the new epoch (R278). -/
  sync : Option Time := none
  /-- Sample 0 of the epoch that the last registered edge began. -/
  syncDone : Option Time := none
  heldSync : Bool := false
  /-- Coinciding REF_IN edges are known (R277). -/
  gridKnown : Bool := false
  /-- Changes of TIMEBASE_STATE so far. -/
  changes : Nat := 0
  deriving DecidableEq, Repr

/-! ### Dressing (chapter 10) -/

/-- A dressing pass (R286): unit, stage 1 to 7, when DRESS was accepted, since when it has waited on the monitor converters,
when its stage ends, the lane under test, and the corrections measured (R288). -/
structure Pass where
  unit : Nat
  stage : Nat := 1
  asked : Time := 0
  until_ : Time := 0
  lane : Nat := 0
  m1 : List Int := []
  m2 : List Int := []
  disagree : Nat := 0
  outcome : Nat := 0
  /-- Targets by trim, once accepted, and the quality figures measured. -/
  targets : List (Nat × Int) := []
  quality : List Nat := []
  /-- Restarts when the layering at hand completes (R289). -/
  restart : Bool := false
  deriving DecidableEq, Repr

/-- What the unit window shows of a unit (R300). -/
structure UnitDress where
  outcome : Nat := 0
  q1 : Nat := 0
  q2 : Nat := 0
  q3 : Nat := 0
  /-- The figures are those loaded from flash, which the manual does not give (R300). -/
  qFlash : Bool := true
  disagree : Nat := 0
  index : Int := 0
  epoch : Nat := 0
  passes : Nat := 0
  deriving DecidableEq, Repr

/-- An application (R291): targets by trim, start of the next step's grain, steps left. -/
structure Applying where
  unit : Nat
  targets : List (Nat × Int)
  next : Time
  left : Nat
  /-- The layering steps that its next step has been passed over by (R38). -/
  passed : List Time := []
  deriving DecidableEq, Repr

/-- Dressing: passes, units, applications, trims other than slice trims (unit * 256 + n), natural-gap items, calibration copies A
and B with their generations (none: invalid), the copy in force (0 A, 1 B, 2 factory record), and the commit in progress. -/
structure DressSt where
  passes : List Pass := []
  units : Tbl UnitDress := []
  applying : List Applying := []
  trims : Tbl Int := []
  interp : Tbl (List Int) := []
  /-- First windows of the natural-gap items, and Run time of each item's last acceptance (R293, R301). -/
  firsts : Tbl (List Int) := []
  ages : Tbl Nat := []
  /-- Positions for which a quad's spare has accepted trims since its last change of state. -/
  sparePos : Tbl (List Nat) := []
  uncommitted : Bool := false
  acceptedSince : Bool := false
  commit : Option (Time × CalBody) := none
  commitResult : Nat := 0
  copyA : Option (Nat × CalBody) := some (1, {})
  copyB : Option (Nat × CalBody) := none
  inForce : Nat := 0
  fallback : Bool := false
  /-- Latched unit figures by path (R300): unit, stage, record, steps left. -/
  win : Tbl (Nat × Nat × UnitDress × Nat) := []
  /-- Eye width of each lane's last accepted pass, UI x 1,000 (R300, R303), by lane of R418. -/
  eyes : Tbl Nat := []
  deriving DecidableEq, Repr

/-- Units with a pass in progress. -/
def DressSt.active (d : DressSt) : List Nat := d.passes.map (fun p => p.unit)

/-- Channels whose grains are Stale: those with a pass past WAITING (R96, R290). -/
def DressSt.blind (d : DressSt) : List Nat :=
  (d.passes.filter (fun p => 2 ≤ p.stage && p.unit < 0x0500)).map (fun p => p.unit / 256 - 1)

/-! ### The Governor (chapter 12) -/

/-- The Governor. -/
structure GovSt where
  /-- POWER_STATE (R336): 0 Run, 1 Idle, 2 Doze, 3 Sleep. -/
  power : Nat := 0
  /-- Off: only the always-on core runs, while VIN stays above 20 V (R331). -/
  off : Bool := false
  pgood : Bool := true
  vinLow : Bool := false
  vinHigh : Bool := false
  /-- Rail groups switched on, and those that did not reach regulation at start-up (R333, R334). -/
  rails : List Nat := [0, 1, 2, 3, 4, 5]
  railsBad : List Nat := []
  seqAt : Option Time := none
  /-- Retired phases of each group; phases 6 and 7 are the spares (R302). -/
  phases : Tbl (List Nat) := []
  /-- Admission is closed (R345), and because of what: bit 1 power, 2 supply, 3 lid; 4 distrust. -/
  closed : Bool := false
  closedBy : Nat := 0
  step : Nat := 0
  capLimited : Bool := false
  lidLimited : Bool := false
  /-- The last evaluation took a step; when it was (R341). -/
  stepped : Bool := false
  evalAt : Time := 0
  /-- Since when the module has been at the floor over a limit, and since when every evaluation has met R343's conditions. -/
  overSince : Option Time := none
  goodSince : Option Time := none
  /-- The lid as last read, in 0.1 °C. -/
  lastLid : Int := 0
  /-- Input energy in mJ (R346). -/
  energy : Nat := 0
  /-- Sensors at or above their stop threshold, within the hysteresis (R329). -/
  hot : List Nat := []
  /-- VIN has been within the start window since then (R328); restarts after electrical shutdowns (R331); when group 5 is tried again
  (R334); RESET_N has asked for a start that the window or the lid still holds back. -/
  winSince : Option Time := some 0
  restarts : List Time := []
  /-- When the module last went to Off, and that it has made all the restarts it may (R331). -/
  offAt : Time := 0
  spent : Bool := false
  retryAt : Option Time := none
  wantStart : Bool := false
  shutdown : Nat := 0
  /-- Since when the power state has been Idle without a break, and the last data frame (R337, R338). -/
  idleSince : Option Time := none
  frameAt : Option Time := none
  /-- End of the way down or of the wake, when the wake began, and a wake latched meanwhile (R339, R340). -/
  downAt : Option Time := none
  wakeAt : Option Time := none
  latched : Nat := 0
  canOff : Bool := false
  dozeEnd : Option Time := none
  wakeN : Bool := false
  resetHeld : Bool := false
  /-- Boot: 0 over or held, 1 begun, 2 a bank has started, 3 the boot ROM alone serves (R459, R461). -/
  boot : Nat := 0
  deriving DecidableEq, Repr

/-! ### Event timer and monitor converters (chapter 13) -/

/-- A stamp record (R355). -/
structure Stamp where
  seq : Nat := 0
  startK : Nat := 0
  stopK : Nat := 0
  startF : Nat := 0
  stopF : Nat := 0
  flags : Nat := 0
  epoch : Nat := 0
  gen : Nat := 0
  deriving DecidableEq, Repr

/-- An open pair: which input opened it, its stamp, and how many timebase changes there had been (R354). -/
structure OpenPair where
  isStart : Bool
  k : Nat
  f : Nat
  ref : Bool
  changes : Nat
  deriving DecidableEq, Repr

/-- The event timer. -/
structure TimerSt where
  pair : Option OpenPair := none
  /-- In its dead time until this instant, in 4,096ths of a coarse count (R349, R350). -/
  rearm : Option Nat := none
  seq : Nat := 0
  queue : List Stamp := []
  lostBefore : Bool := false
  /-- Constants: generation in force and the four most recent tables, newest first (R359); generation 0 is the factory's. -/
  gen : Nat := 0
  gens : List (Nat × List Nat × List Nat) := []
  nextGen : Option (List Nat × List Nat) := none
  /-- When START or STOP last had an edge (R292). -/
  edgeAt : Option Time := none
  win : Tbl Nat := []
  deriving DecidableEq, Repr

/-- One monitor converter (R363 to R366): table in service, shadow, shadow applied and waiting, position, sequence running until,
offsets by gain, gain correction, request pending, raw codes of the last sequence. -/
structure MonConv where
  table : List (Nat × Nat × Nat) := (List.range 24).map (fun i => (i, 1, 0))
  shadow : List (Nat × Nat × Nat) := (List.range 64).map (fun i => (i % 24, 1, 0))
  shadowLen : Nat := 24
  next : Option (List (Nat × Nat × Nat)) := none
  pos : Nat := 0
  seqUntil : Option Time := none
  /-- That sequence is the one after wake, before which no request is performed (R367). -/
  woken : Bool := false
  offsets : List Int := [0, 0, 0, 0]
  corr : Int := 0
  inj : Option (Nat × Time) := none
  result : Nat := 0
  codes : List Nat := []
  deriving DecidableEq, Repr

/-- The monitor converters: DISTRUST since when, and when the next cross-check is due. -/
structure MonSt where
  conv : Tbl MonConv := []
  distrust : Option Time := none
  crossAt : Time := 0
  /-- Selected entry of the shared table window: converter, row; and latched rows of the sequence window: converter, row, code. -/
  sel : Nat × Nat := (0, 0)
  win : Tbl (Nat × Nat × Nat) := []
  deriving DecidableEq, Repr

/-! ### Pins -/

/-- One TRIG_OUT assertion (R115): the output is asserted from `from_` for TRIG_OUT_WIDTH GRAIN cycles. -/
structure Pulse where
  from_ : Time
  until_ : Time
  /-- The sample index that the assertion follows. -/
  index : Int
  /-- In constant-latency mode, the plan and sample of the trigger whose placement the assertion still awaits (R108, R117). -/
  awaits : Option (Nat × Int) := none
  deriving DecidableEq, Repr

/-- What the module drives: TRIG_OUT's assertions, newest first, CTB lines with the end of each assertion, answer lines. -/
structure Pins where
  pulses : List Pulse := []
  ctbDrive : List (Nat × Time) := []
  ctbAnswering : Bool := false
  ctbAnswers : List Nat := []
  deriving DecidableEq, Repr

/-! ### Runner farm (chapter 07) -/

/-- A binary64 number m x 2^e: m is 0, or 53 bits wide. -/
structure F64 where
  m : Int := 0
  e : Int := 0
  deriving DecidableEq, Repr

/-- A line start of the raster log (R202). -/
structure LineRec where
  frame : Nat := 0
  line : Nat := 65535
  start : Int := 0
  epoch : Nat := 0
  deriving DecidableEq, Repr

/-- A gate's row (R231). -/
structure GateCfg where
  enable : Bool := false
  kind : Nat := 0
  slot : Nat := 0
  fmode : Nat := 0
  fval : Nat := 0
  fmod : Nat := 2
  line : Nat := 65535
  off : Int := 0
  len : Nat := 0
  chans : Nat := 0
  meas : Nat := 0
  cr : Nat := 65535
  param : Nat := 0
  plane : Nat := 65535
  policy : Nat := 0
  deriving DecidableEq, Repr

/-- A clock-recovery set (R230). -/
structure CrSet where
  order : Nat := 2
  ui : Nat := 436907
  k1 : Nat := 6
  k2 : Nat := 14
  edges : Nat := 1
  settle : Nat := 256
  deriving DecidableEq, Repr

/-- A measurement parameter set (R230); MID_ABS as its REAL32 pattern. -/
structure ParamSet where
  method : Nat := 0
  histMin : Nat := 20
  midMode : Nat := 0
  midPct : Nat := 500
  midAbs : Nat := 0
  hyst : Nat := 50
  sense : Nat := 0
  deriving DecidableEq, Repr

/-- A result record (R215); `m2` is the running sum of R216, `state`, `reason` and `cond` the fields of R217. -/
structure Rec where
  last : F64 := {}
  min_ : F64 := {}
  max_ : F64 := {}
  mean : F64 := {}
  std : F64 := {}
  m2 : F64 := {}
  count : Nat := 0
  index : Int := 0
  seq : Nat := 0
  state : Nat := 0
  reason : Nat := 0
  cond : Nat := 0
  deriving DecidableEq, Repr

/-- What one instance, or a dressing sweep, does to its gate's records (R218): 0 computed, 1 no value, 2 Stale, 3 excluded,
4 sweep. `vals` gives each measurement's admitted values, `fails` the reasons of those without. -/
structure GateEv where
  what : Nat
  seq : Nat := 0
  index : Int := 0
  cond : Nat := 0
  vals : List (Nat × List F64) := []
  fails : List (Nat × Nat) := []
  deriving DecidableEq, Repr

/-- A gate: its row, its counters, and the events computed and not yet written, with the time they are due (R219). -/
structure Gate where
  cfg : GateCfg := {}
  seq : Nat := 0
  instances : Nat := 0
  misfits : Nat := 0
  waiting : List GateEv := []
  since : Time := 0
  due : Time := 0
  deriving DecidableEq, Repr

/-- A sample as the kernels see it (R205): reported index and value in volts; a MINMAX pair has two values. -/
structure Smp where
  r : Int
  lo : F64
  hi : F64
  deriving DecidableEq, Repr

/-- An instance (R199, R200) from its entry's completion until its results are applied. -/
structure Inst where
  id : Nat
  gate : Nat
  seq : Nat
  /-- Which COMPLETE entry, in order. -/
  ord : Nat
  start : Int
  len : Nat
  cfg : GateCfg
  cr : Option CrSet := none
  param : ParamSet := {}
  /-- Its records were reset, or its plane cleared, after its entry (R223, R246). -/
  noRec : Bool := false
  noPlane : Bool := false
  /-- The runner at work on it: cluster x 32 + runner. -/
  run : Option Nat := none
  /-- Sample indices of the span already covered, and what the grains read so far hold (R206). -/
  pos : Nat := 0
  smps : List (List Smp) := []
  lsb : List F64 := []
  gap : Bool := false
  stale : Bool := false
  settle : Bool := false
  overR : Bool := false
  layer : Bool := false
  lastStep : Time := 0
  /-- MEAS_TIMEOUT as it stood when its step in progress began, in ms (R225, R228). -/
  limit : Nat := 10
  /-- The cluster that is to run its step again (R224, step 4). -/
  home : Option Nat := none
  retry : Option Time := none
  /-- Its outcome, computed, and waiting for the earlier instances of its gate (R203). -/
  ev : Option GateEv := none
  deriving DecidableEq, Repr

/-- A cluster (R195, R229): retired runners, whether the spare serves, is ready, or the cluster is parked or has no runner,
and the times of recent residue errors by runner (R224). -/
structure Cluster where
  retired : List Nat := []
  layered : Bool := false
  spareReady : Bool := true
  parked : Bool := false
  empty : Bool := false
  errs : Tbl (List Time) := []
  /-- When each runner last ended a step. -/
  stepAt : Tbl Time := []
  deriving DecidableEq, Repr

/-- A plane's row (R251). -/
structure PlaneCfg where
  kind : Nat := 0
  uis : Nat := 1
  lo : Nat := 0xBF000000
  hi : Nat := 0x3F000000
  width : Nat := 0
  nv : Nat := 0
  verts : Tbl Nat := []
  deriving DecidableEq, Repr

/-- What one instance adds to a plane. -/
structure Contrib where
  ord : Nat
  seq : Nat
  run : Nat
  chan : Nat
  bins : List Nat
  outside : Nat
  unlocked : Nat
  hits : Nat
  /-- It only counts unlocked samples (R236); a pass on its channel was accepted while it was held apart (R247). -/
  nothing : Bool := false
  mixed : Bool := false
  deriving DecidableEq, Repr

/-- A plane: row, bins of its frame, counters (R251), status (R252), and contributions held apart for a snapshot (R244). -/
structure Plane where
  cfg : PlaneCfg := {}
  bins : Tbl Nat := []
  points : Nat := 0
  outside : Nat := 0
  unlocked : Nat := 0
  hits : Nat := 0
  satLost : Nat := 0
  lostTiles : Nat := 0
  lostLines : Nat := 0
  mask : List Nat := []
  sat : Bool := false
  lost : Bool := false
  mixed : Bool := false
  insts : Nat := 0
  last : Option Nat := none
  chans : Nat := 0
  shadow : List Contrib := []
  /-- In a window copy: PLANE_STATUS as latched (R251). -/
  latched : Nat := 0
  deriving DecidableEq, Repr

/-- A delta tile in a runner's plane cache (R242). -/
structure Tile where
  run : Nat
  plane : Nat
  tile : Nat
  since : Time
  used : Nat
  incs : Tbl Nat
  deriving DecidableEq, Repr

/-- A snapshot (R244): plane, whose it is (none: the window's; else the stream), entries up to which it counts, its frame, and
what it holds once READY. -/
structure Snap where
  plane : Nat
  tail : Option Nat := none
  cut : Nat := 0
  ready : Bool := false
  frame : Nat := 0
  data : Plane := {}
  touched : Time := 0
  deriving DecidableEq, Repr

/-- A display buffer (R248, R255): job fields, state, pairs, grains. -/
structure Disp where
  entry : Nat := 0
  ch : Nat := 0
  start : Int := 0
  len : Nat := 1
  factor : Nat := 2
  state : Nat := 0
  pairs : Nat := 0
  grains : List Grain := []
  deriving DecidableEq, Repr

/-- The runner farm and the planes. -/
structure FarmSt where
  /-- Grains that a runner found to fail their CRC (R54). -/
  crcFails : Nat := 0
  /-- When a runner last worked (4800h.08). -/
  busyAt : Option Time := none
  lines : Tbl LineRec := []
  lineNext : Nat := 0
  gates : Tbl Gate := []
  crs : Tbl CrSet := []
  params : Tbl ParamSet := []
  recs : Tbl Rec := []
  insts : List Inst := []
  nextInst : Nat := 0
  /-- Entries that have become COMPLETE. -/
  ord : Nat := 0
  clusters : Tbl Cluster := []
  planes : Tbl Plane := []
  tiles : List Tile := []
  tick : Nat := 0
  snaps : List Snap := []
  disps : Tbl Disp := []
  crWin : Tbl CrSet := []
  paramWin : Tbl ParamSet := []
  gateWin : Tbl Gate := []
  planeWin : Tbl Plane := []
  resWin : Tbl Rec := []
  deriving DecidableEq, Repr

/-! ### Layering (chapter 11) -/

/-- A pending request (R307): unit, sequence of its record, time of expiry. -/
structure Ask where
  unit : Nat
  seq : Nat
  until_ : Time
  deriving DecidableEq, Repr

/-- What is known of a unit's wear (R303, R307, R311, R324): wear and source, the worn slice, peak and layerings since
manufacture, wear and Run time at a decline or expiry, and whether unavailability was reported for this crossing. -/
structure UnitWear where
  w : Nat := 0
  src : Nat := 0
  slice : Nat := 0
  peak : Nat := 0
  layerings : Nat := 0
  declined : Option (Nat × Nat) := none
  unavail : Bool := false
  deriving DecidableEq, Repr

/-- An event that a wear indicator counts (R303): Run time, unit, slice, 1 integrity failure, 2 rejection, 3 corrected burst,
4 row corrected in a scrub pass (with row and pass), 5 residue error, 6 SRAM word, 7 replay, 8 re-lock. -/
structure WearEv where
  at_ : Nat
  unit : Nat
  slice : Nat
  what : Nat
  row : Nat := 0
  pass : Nat := 0
  deriving DecidableEq, Repr

/-- A copy of the layering map and the windowed indicators in flash (R305): its generation, and the Run time since manufacture at
which it was written. -/
structure LayerMap where
  gen : Nat := 0
  time : Nat := 0
  quads : Tbl Quad := []
  pcs : Tbl Pc := []
  halves : Tbl Half := []
  clusters : Tbl Cluster := []
  phases : Tbl (List Nat) := []
  /-- Retired lanes; pooled lanes that serve a group, with their slot; Hedge sides whose spare pair serves. -/
  lanes : List Nat := []
  pool : List (Nat × Nat × Nat) := []
  pairs : List Nat := []
  units : Tbl UnitWear := []
  log : List WearEv := []
  deriving DecidableEq, Repr

/-- Layering: wear events, units, requests, layerings decided and waiting (unit, slice), layerings in progress, measured margins
(unit, slice, W), the two copies in flash, the newer first, and by when the map is to be written; Run time before this Boot; the
last recompute; and the latched wear window by path: unit, figures, ASK_STATE, ASK_REMAINING. -/
structure LayerSt where
  log : List WearEv := []
  units : Tbl UnitWear := []
  asks : List Ask := []
  decided : List (Nat × Nat × Time) := []
  busy : List Nat := []
  margins : List (Nat × Nat × Nat) := []
  flash : LayerMap := {}
  flashOld : LayerMap := {}
  mapDue : Option Time := none
  base : Nat := 0
  /-- Boots since manufacture, held with the map (R406). -/
  boots : Nat := 1
  recomputed : Time := 0
  win : Tbl (Nat × UnitWear × Nat × Nat) := []
  deriving DecidableEq, Repr

/-! ### The Tailrace and the Hedge (chapter 16) -/

/-- A lane (R418): Tailrace 0 to 17, Hedge west 18 to 21, east 22 to 25. `st` is STATE of R443. -/
structure Lane where
  st : Nat := 0
  /-- What it serves: group 0 to 3, Hedge west 4 or east 5; its slot there. POSITION is its rank among the active slots. -/
  group : Nat := 0
  slot : Nat := 0
  /-- Transmits and trains: LANE_ENABLE or HEDGE_ENABLE as applied (R419). -/
  on : Bool := true
  rxOk : Bool := false
  partner : Bool := false
  /-- Partner markers in a row that showed RX_OK clear (R435), and the partner's last map (R421). -/
  refused : Nat := 0
  map : Nat := 0
  trainFrom : Time := 0
  /-- RX_OK on both ends without a break since (R435). -/
  okSince : Option Time := none
  /-- A loss not yet decided: time and sample index of its detection, and the spare that took its slot (R435). -/
  lost : Option (Time × Int) := none
  repl : Option Nat := none
  /-- Its invalid-symbol count rose since the previous replay (R429). -/
  rose : Bool := false
  deriving DecidableEq, Repr

/-- A frame (R425): its fields, and its bytes from byte 16 to the end of its records. -/
structure Frame where
  typ : Nat := 0
  stream : Nat := 0
  flags : Nat := 0
  seq : Nat := 0
  ack : Nat := 0
  creditStream : Nat := 0
  creditTotal : Nat := 0
  streamSeq : Nat := 0
  data : List Nat := []
  deriving DecidableEq, Repr

/-- A frame in the replay buffer (R429): first and last sending. -/
structure Sent where
  frame : Frame
  first : Time
  last : Time
  deriving DecidableEq, Repr

/-- A link: lane group 0 to 3, Hedge west 4, east 5 (R424, R429, R435, R437). -/
structure Link where
  degraded : Bool := false
  listening : Bool := false
  escalating : Bool := false
  /-- A Hedge side: out of service; its spare pair serves. -/
  out : Bool := false
  spareIn : Bool := false
  /-- Next LINK_SEQ to send and to receive; NAK goes with the next frame. -/
  nextTx : Nat := 0
  nextRx : Nat := 0
  nak : Bool := false
  replay : List Sent := []
  /-- The training follows a stop of the TAIL domain: no record, no EMCY (R436). -/
  quiet : Bool := false
  deriving DecidableEq, Repr

/-- A stream (R432, R433; 16 and 17 are stream 1 of the Hedge west and east): its delivery's settings and state (R445), and how far it is: entries, rows, bytes or sequences done,
and within an entry the channel and grain. -/
structure Stream where
  group : Nat := 0
  kind : Nat := 0
  a : Nat := 0
  b : Nat := 0
  chans : Nat := 15
  state : Nat := 0
  frames : Nat := 0
  unit : Nat := 0
  ch : Nat := 0
  pos : Nat := 0
  /-- Credit total granted by the partner, and used, since Boot (R432); since when a ready frame has lacked credit. -/
  granted : Nat := 0
  used : Nat := 0
  lackSince : Option Time := none
  txSeq : Nat := 0
  deriving DecidableEq, Repr

/-- What a Hedge side knows of its neighbour (R438). -/
structure Neighbour where
  epoch : Nat := 0
  offset : Int := 0
  latency : Nat := 0
  /-- Records in a row within one cycle, both DISCIPLINED. -/
  run : Nat := 0
  /-- T_SEND of the latest record and the count at its arrival. -/
  echo : Nat := 0
  arrived : Nat := 0
  /-- Credit total granted to the neighbour on the side's stream 1. -/
  grants : Nat := 256
  /-- The epoch record of the last IDLE frame, not yet evaluated, with the count at its arrival. -/
  record : Option (Nat × List Nat) := none
  deriving DecidableEq, Repr

/-- An OD request (R430). -/
structure OdReq where
  group : Nat
  tag : Nat
  op : Nat
  idx : Nat
  sub : Nat
  data : List Nat
  deriving DecidableEq, Repr

/-- The Tailrace and the Hedge. -/
structure TailSt where
  lanes : Tbl Lane := []
  links : Tbl Link := []
  streams : Tbl Stream := []
  sides : Tbl Neighbour := []
  /-- Frames that wait for credit, for room in the replay buffer or for their link. -/
  out : List (Nat × Frame) := []
  /-- OD requests and UPDATE frames received and waiting (R23, R432): link and content. -/
  odQueue : List OdReq := []
  updQueue : List (Nat × Frame) := []
  /-- Credit totals granted to the host on streams 0 and 1. -/
  grant0 : Nat := 8
  grant1 : Nat := 256
  /-- Marker boundaries so far, and when the next falls (R420). -/
  markers : Nat := 0
  markerAt : Time := 0
  deriving DecidableEq, Repr

/-! ### Firmware update (chapter 17) -/

/-- A bank (R450): its image, as bytes by offset, and the completion marker's IMAGE_LENGTH and DIGEST. A bank written at manufacture
holds the release the module runs, whose bytes the manual does not give. -/
structure Bank where
  image : Tbl Nat := []
  marker : Option (Nat × Nat) := none
  factory : Bool := false
  deriving DecidableEq, Repr

/-- The select word (R451). -/
structure Sel where
  gen : Nat := 1
  active : Nat := 0
  trial : Bool := false
  boots : Nat := 0
  candidate : Option Nat := none
  rejected : Nat := 0
  deriving DecidableEq, Repr

/-- A session (R452): source 1 field network, 2 Tailrace, 3 Hedge west, 4 Hedge east; `last` the last data accepted; in WRITING, when
the bank will have been written. -/
structure Session where
  source : Nat
  len : Nat
  digest : Nat
  last : Time
  due : Option Time := none
  /-- Other sources that offered the same image: their data is accepted and dropped (R453, order 2). -/
  dups : List Nat := []
  deriving DecidableEq, Repr

/-- Forwarding on a side (R457): FORWARD_STATE, when the forwarder acts next, an answer awaited since, FAILED answers so far, bytes
sent, and whether END has been sent. -/
structure Fwd where
  state : Nat := 0
  retryAt : Option Time := none
  asked : Option Time := none
  failed : Nat := 0
  sent : Nat := 0
  ended : Bool := false
  deriving DecidableEq, Repr

/-- Firmware update: banks, the two copies of the select word (the newer first), session, staging, forwarding, trial. -/
structure UpdSt where
  banks : Tbl Bank := [(0, { marker := some (256, 0), factory := true })]
  sel : Sel := {}
  selOld : Option Sel := none
  state : Nat := 0
  source : Nat := 0
  session : Option Session := none
  staging : Tbl Nat := []
  /-- Length and digest of what the staging holds once WRITTEN. -/
  staged : Option (Nat × Nat) := none
  fwd : Tbl Fwd := []
  trialEnd : Option Time := none
  outcome : Nat := 0
  reject : Nat := 0
  deriving DecidableEq, Repr

/-- Why a run stops: no meaning of this model faults; the spec gives every step an effect. -/
inductive Fault where
  /-- Nothing raises it. Safe: a stop claims nothing. -/
  | none_
  deriving DecidableEq, Repr

/-- Why a command is refused by the model. -/
inductive Refusal where
  /-- Raised by an arm of `exec` whose command has no meaning yet. Safe: the model says nothing there. -/
  | notModelled (mnemonic : String)
  deriving DecidableEq, Repr

/-- The module's state, and the queue of commands that wait, first in first out. -/
structure State where
  pending : List Instr := []
  clk : Clk := {}
  dev : DevMode := .run
  /-- ACQ_STATE (R27) as last settled (R30). -/
  acq : Nat := 1
  /-- STATE_SEQUENCE, and the DEVICE_STATE, ACQ_STATE and plan states at its last step (R408). -/
  seq : Nat := 0
  shown : List Nat := [1, 1, 0, 0, 0, 0, 0, 0, 0, 0, 0, 0, 0, 0, 0, 0, 0, 0]
  /-- Object values that are not the dictionary's default, by key (index * 256 + sub-index, path copies above bit 24). -/
  od : Tbl Int := []
  /-- The 512 counter places (R466). -/
  ctr : Tbl Nat := []
  /-- How many free values have been taken (the model's own field). -/
  free : Nat := 0
  fault : FaultSt := {}
  trace : TraceSt := {}
  net : NetSt := {}
  chans : Tbl Chan := []
  quads : Tbl Quad := []
  origin : Origin := {}
  sluice : SluiceSt := {}
  plans : Tbl Plan := []
  dir : DirSt := {}
  pond : PondSt := {}
  fan : FanSt := {}
  dress : DressSt := {}
  gov : GovSt := {}
  pins : Pins := {}
  farm : FarmSt := {}
  layer : LayerSt := {}
  timer : TimerSt := {}
  mon : MonSt := {}
  tail : TailSt := {}
  upd : UpdSt := {}
  deriving DecidableEq, Repr

/-- The module right after reset: the instant at which Boot ends (log entry 1). -/
def State.reset : State := {}

end Sys2Proof.Machine
end

