-- ==== Sys2Proof/Machine/Ops.lean ====
section
/-!
DEFINITION. The named operations that the meanings share: object values, counters, free values, time, device state, trace
entries, fault records and EMCY messages.
-/

namespace Sys2Proof.Machine

/-! ### Objects, counters, free values -/

/-- The value an object's storage holds. -/
def State.rd (s : State) (k : Nat) : Int := tget odDefault s.od k

/-- The value as a natural number. -/
def State.rdN (s : State) (k : Nat) : Nat := (s.rd k).toNat

/-- Store a value in an object. -/
def State.wr (k : Nat) (v : Int) (s : State) : State := { s with od := tset k v s.od }

/-- Bit `i` of an object. -/
def State.rdBit (s : State) (k i : Nat) : Bool := bit (s.rdN k) i

/-- The value of counter place `n` (R466). -/
def State.place (s : State) (n : Nat) : Nat := tget (fun _ => 0) s.ctr n

/-- Add `k` at counter place `n`, wrapping at 2^64 (R466). -/
def State.bumpBy (n k : Nat) (s : State) : State := { s with ctr := tset n ((s.place n + k) % 2 ^ 64) s.ctr }

/-- Count one at counter place `n`. -/
def State.bump (n : Nat) (s : State) : State := s.bumpBy n 1

/-- Add `n` to an UNSIGNED32 counter object that saturates. -/
def State.satBy (k n : Nat) (s : State) : State := s.wr k (min (s.rd k + n) 4294967295)

/-- Count one on an UNSIGNED32 counter object that saturates. -/
def State.sat (k : Nat) (s : State) : State := s.satBy k 1

/-- The present free value, reduced below `b`. -/
def State.fv (s : State) (b : Nat) : Nat := Config.freeNat s.free % b

/-- Take the free value: the next one is another. -/
def State.adv (s : State) : State := { s with free := s.free + 1 }

/-! ### Access to the tables of the state -/

def State.chan (s : State) (c : Nat) : Chan := tget (fun _ => {}) s.chans c
def State.setChan (c : Nat) (x : Chan) (s : State) : State := { s with chans := tset c x s.chans }
def State.modChan (c : Nat) (f : Chan → Chan) (s : State) : State := s.setChan c (f (s.chan c))

def State.quad (s : State) (u : Nat) : Quad := tget (fun _ => {}) s.quads u
def State.setQuad (u : Nat) (x : Quad) (s : State) : State := { s with quads := tset u x s.quads }

def State.slot (s : State) (n : Nat) : Slot := tget (fun _ => {}) s.sluice.slots n
def State.setSlot (n : Nat) (x : Slot) (s : State) : State :=
  { s with sluice := { s.sluice with slots := tset n x s.sluice.slots } }

def State.plan (s : State) (q : Nat) : Plan := tget (fun _ => {}) s.plans q
def State.setPlan (q : Nat) (x : Plan) (s : State) : State := { s with plans := tset q x s.plans }

def State.loop (s : State) (l : Nat) : Loop := tget (fun _ => {}) s.fan.loops l
def State.setLoop (l : Nat) (x : Loop) (s : State) : State := { s with fan := { s.fan with loops := tset l x s.fan.loops } }

/-- The 16 plan numbers, 8 slot numbers, 4 channel numbers. -/
def planNos : List Nat := List.range 16
def slotNos : List Nat := List.range 8
def chanNos : List Nat := List.range 4

/-! ### Time (R10, R471) -/

/-- Spans in sample periods of 12.5 ps. -/
def us (n : Nat) : Nat := n * 80000
def ms (n : Nat) : Nat := n * 80000000
def sec (n : Nat) : Nat := n * 80000000000
def tbCycle : Nat := 800

/-- Sample index at absolute time `t`. -/
def State.idxAt (s : State) (t : Time) : Int := (t : Int) - s.clk.epochBase

/-- The present sample index. -/
def State.idx (s : State) : Int := s.idxAt s.clk.now

/-- The present index as non-GRAIN domains know it: 800 x timebase cycles since the epoch (R471). -/
def State.tbIdx (s : State) : Int := s.idx / 800 * 800

/-- The start of the first raw grain at or after time `t`. -/
def State.grainAt (s : State) (t : Time) : Time := alignUp s.clk.epochBase 64 t

/-- The first raw-grain boundary after something that the Miller accepts now reaches the GRAIN domain, within 50 ns (R63, R75,
R105, R137): the delay is a free value. -/
def State.arrival (s : State) : Time := s.grainAt (s.clk.now + s.fv 4000 + 1)

/-- The same behind earlier transfers to the same section that arrive at `ts`: one is in flight at a time (R23), so they stay in order. -/
def State.arrivalAfter (s : State) (ts : List Time) : Time := ts.foldl max s.arrival

/-- Has time `t` come? -/
def State.due (s : State) (t : Time) : Bool := decide (t ≤ s.clk.now)

/-- Is the domain of loop `l` stopped (R265)? -/
def State.stopped (s : State) (l : Nat) : Bool := !(s.loop l).gate

/-- How far the correction may move in a span, in 10^-6 ppm: 0.5 ppm per second (R260). -/
def slewMost (t : Time) : Int := (t / 160000 : Nat)

/-- A correction that has slewed toward another for a span. -/
def slewTo (c d : Int) (t : Time) : Int := clampI (c - slewMost t) (c + slewMost t) d

/-- The correction in force (R259, R260), in 10^-6 ppm. -/
def State.correctionNow (s : State) : Int := slewTo s.fan.correction s.fan.corrTo (s.clk.now - s.fan.corrAt)

/-- The timebase is not DISCIPLINED (R261). -/
def State.unref (s : State) : Bool := s.fan.tb != 2

/-- Doze or Sleep: SMP, GRAIN and the slices are off (R336). -/
def State.asleep (s : State) : Bool := decide (2 ≤ s.gov.power)

/-! ### Device state (R27, R28) -/

/-- A plan state that counts as Armed (R135). -/
def armedSt (st : Nat) : Bool := 1 ≤ st && st ≤ 4

/-- The state a plan enters when it stops, given whether it has an entry or a pending segment (R140). -/
def stopState (data : Bool) : Nat := if data then 5 else 0

/-- The state, and whether the plan has data, after one more command (R139 to R143). -/
def PlanCmd.lead (c : PlanCmd) (x : Nat × Bool) : Nat × Bool :=
  match c.code with
  | 1 => (1, false)
  | 2 => if armedSt x.1 then (stopState x.2, x.2) else x
  | 3 => if x.1 == 3 then (4, x.2) else if armedSt x.1 && x.1 != 4 then (stopState x.2, x.2) else x
  | 5 => if x.1 == 5 then (0, false) else x
  | _ => x

/-- Has the plan an entry since its ARM, or a pending segment? -/
def Plan.data (p : Plan) : Bool := p.entries != 0 || p.seg.isSome

/-- The state that the accepted commands lead to (R30, R137). -/
def Plan.entering (p : Plan) : Nat := (p.cmds.foldl (fun x c => c.lead x) (p.st, p.data)).1

/-- The configuration that the accepted commands lead to (R130). -/
def Plan.cfgNext (p : Plan) : PlanCfg := p.cmds.foldl (fun m c => match c.arm with | some a => a.cfg | none => m) p.cfg

/-- The acquisition state that given plan states amount to (R27, R135). -/
def acqOf (sts : List Nat) : Nat := if sts.any armedSt then 2 else if sts.any (· == 5) then 3 else 1

/-- No hard failure is detected in service: in Boot the self-test finds them, in Sleep they are found after wake (R313, R314). -/
def State.atRest (s : State) : Bool := s.dev == .boot || s.dev == .sleep

/-- Layering may begin (R313). -/
def State.mayLayer (s : State) : Bool := s.dev == .run

/-- The 16 plan states. -/
def State.planStates (s : State) : List Nat := planNos.map (fun q => (s.plan q).st)

/-- ACQ_STATE that the accepted commands lead to (R30). -/
def State.acqEntering (s : State) : Nat := acqOf (planNos.map (fun q => (s.plan q).entering))

/-! ### Trace (R469 to R471) -/

/-- An event for the trace: it enters the queue of 64 and takes its SEQUENCE, or is dropped and counted (R470). -/
def State.traceAs (index : Int) (flags event unit slice data : Nat) (s : State) : State :=
  if s.trace.queue.length < 64 then
    let e : TraceEnt :=
      { index := index, seq := s.trace.next, epoch := s.dir.epochs % 256,
        flags := flags + at_ s.unref 0 + at_ s.trace.dropped 2, event := event, unit := unit, slice := slice, data := data }
    { s with trace := { s.trace with queue := s.trace.queue ++ [e], next := (s.trace.next + 1) % 2 ^ 32, dropped := false } }
  else
    { s with trace := { s.trace with dropped := true, dropAt := some s.clk.now } }.bump 467

/-- An event of the GRAIN domain, at its exact sample index. -/
def State.traceAt (index : Int) (event unit slice data : Nat) (s : State) : State :=
  s.traceAs index 0 event unit slice data

/-- Any other event: index resolved to the timebase, COARSE_TIME set (R471). -/
def State.trace_ (event unit slice data : Nat) (s : State) : State :=
  s.traceAs s.tbIdx 2 event unit slice data

/-! ### Error register and EMCY (R320, R321, R386) -/

/-- A lane as training begins: its home group or side and slot; the pooled lanes 16 and 17 serve none (R418). -/
def laneRest (l : Nat) : Lane :=
  if l < 16 then { group := l / 4, slot := l % 4 }
  else if l < 18 then { group := 6 }
  else { group := if l < 22 then 4 else 5, slot := l % 2 }

def State.lane (s : State) (l : Nat) : Lane := tget laneRest s.tail.lanes l
def State.setLane (l : Nat) (x : Lane) (s : State) : State := { s with tail := { s.tail with lanes := tset l x s.tail.lanes } }

/-- Bit 7 of 1001h (R321): a unit without a ready spare. The pooled lanes count together; a Hedge side's spare pair is ready when
both its lanes are, and a twin's is the standby (R302). -/
def State.spareLow (s : State) : Bool :=
  !s.fault.noSpare.isEmpty || !s.fan.standbyReady || ((s.lane 16).st != 4 && (s.lane 17).st != 4)
    || [20, 21, 24, 25].any (fun l => (s.lane l).st != 4)

/-- 1001h as it stands (R321). -/
def State.errReg (s : State) : Nat :=
  at_ (s.dev == .faulted || !s.fault.failed.isEmpty || !s.fault.degraded.isEmpty) 0 + bits s.fault.gov 3 1 * 2
    + at_ (s.fault.canBit || (match s.fault.canUntil with | some t => decide (s.clk.now < t) | none => false)) 4
    + at_ s.spareLow 7

/-- A message joins the EMCY queue of 16, or is lost and counted (R32, R386). -/
def State.emcy (m : Emcy) (s : State) : State :=
  if s.fault.emcy.length < 16 then { s with fault := { s.fault with emcy := s.fault.emcy ++ [m] } }
  else (s.sat O.EMCY_LOST).bump 465

/-- A message of the field network's own codes: no manufacturer field (R386). -/
def State.emcyCode (code : Nat) (s : State) : State := s.emcy { code := code, reg := s.errReg }

/-- Put a unit into, or take it out of, one of the lists of the error register. -/
def inList (u : Nat) (b : Bool) (l : List Nat) : List Nat :=
  if b then (if l.contains u then l else u :: l) else l.filter (· != u)

def State.unitFailed (u : Nat) (s : State) : State := { s with fault := { s.fault with failed := inList u true s.fault.failed } }
def State.unitDegraded (u : Nat) (b : Bool) (s : State) : State :=
  { s with fault := { s.fault with degraded := inList u b s.fault.degraded } }
def State.unitNoSpare (u : Nat) (b : Bool) (s : State) : State :=
  { s with fault := { s.fault with noSpare := inList u b s.fault.noSpare } }

/-! ### Fault records (R317, R318) -/

/-- The kinds whose class is Uncovered (R317); LOOP_FAILED is judged by its loop. -/
def uncoveredKind (k : Nat) : Bool := [0x02, 0x04, 0x0A, 0x0C, 0x0D, 0x11, 0x16, 0x17].contains k

/-- The notices of R317. -/
def noticeKind (k : Nat) : Bool := 0x18 ≤ k && k ≤ 0x1C

/-- Make a fault record, with its trace entry, whose flags `fl` are, and, where `send`, its EMCY message (R318, R319, R320, R472). -/
def State.recordAs (fl kind unit slice outcome detail intr : Nat) (index : Int) (unc send : Bool) (s : State) : State :=
  let code := if send then 0xFF00 + kind else 0
  let r : FaultRec :=
    { seq := s.fault.next, index := index, epoch := s.dir.epochs % 256, flags := b2n unc, unit := unit, slice := slice,
      kind := kind, outcome := outcome, emcy := code, detail := detail, interruption := intr }
  let f := s.fault
  let s := { s with fault := { f with log := tset (r.seq % 256) r f.log, next := (f.next + 1) % 2 ^ 32,
                                      uncovered := f.uncovered + b2n unc,
                                      toFlash := if unc then f.toFlash ++ [r] else f.toFlash } }
  let s := if !unc && !noticeKind kind then s.sat O.FAULTS_COVERED else s
  let s := s.traceAs index fl 1 unit slice (r.seq + kind * 2 ^ 32 + outcome * 2 ^ 48)
  if send then s.emcy { code := code, reg := s.errReg, unit := unit, seq := r.seq % 2 ^ 24, hist := r.seq % 2 ^ 16 } else s

/-- A record of something detected outside the GRAIN domain: COARSE_TIME in its trace entry (R471). -/
def State.record (kind unit slice outcome detail intr : Nat) (index : Int) (unc send : Bool) (s : State) : State :=
  s.recordAs 2 kind unit slice outcome detail intr index unc send

/-- A covered fault or notice detected now, with its EMCY message. -/
def State.covered (kind unit slice outcome detail intr : Nat) (s : State) : State :=
  s.record kind unit slice outcome detail intr s.tbIdx false true

/-- The final OUTCOME of a LAYER_REQUEST record (R318). -/
def State.recordOutcome (seq outcome : Nat) (s : State) : State :=
  match tfind s.fault.log (seq % 256) with
  | some r =>
    if r.seq == seq then { s with fault := { s.fault with log := tset (seq % 256) { r with outcome := outcome } s.fault.log } }
    else s
  | none => s

/-! ### Run time and layerings (R303, R305, R308, R322, R406) -/

/-- Run time since Boot, in sample periods: Doze and Sleep excluded (R406). -/
def State.runTime (s : State) : Nat :=
  if s.asleep || s.dev == .sleep then s.clk.runBefore else s.clk.runBefore + (s.clk.now - s.clk.runSince)

/-- Run time since manufacture, which the windows of R303 and R307 count. -/
def State.wearTime (s : State) : Nat := s.layer.base + s.runTime

/-- An event that a wear indicator counts (R303). -/
def State.wearEvent (unit slice what row pass : Nat) (s : State) : State :=
  { s with layer := { s.layer with log := { at_ := s.wearTime, unit := unit, slice := slice, what := what, row := row, pass := pass } :: s.layer.log } }

def State.unitWear (s : State) (u : Nat) : UnitWear := tget (fun _ => {}) s.layer.units u
def State.setUnitWear (u : Nat) (x : UnitWear) (s : State) : State := { s with layer := { s.layer with units := tset u x s.layer.units } }

/-- A layering of kind k of R467's order (0 slices to 6 twins) took place in a unit: it is counted, and the map is to be
written within 100 ms (R305). -/
def State.countLayering (hard : Bool) (k unit : Nat) (s : State) : State :=
  let s := (if hard then s.sat O.LAYERINGS_HARD else s.sat O.LAYERINGS_WEAR).bump ((if hard then 335 else 328) + k)
  let w := s.unitWear unit
  let s := s.setUnitWear unit { w with layerings := min (w.layerings + 1) 65535 }
  { s with layer := { s.layer with mapDue := some (s.clk.now + ms 100) } }

/-- A hard failure in a unit comes first: wear-driven layerings decided there are dropped, to be decided afresh, and a pending
request is SUPERSEDED (R307, R312). -/
def State.supersede (u : Nat) (s : State) : State :=
  let mine := s.layer.asks.filter (fun a => a.unit == u)
  let s := { s with layer := { s.layer with asks := s.layer.asks.filter (fun a => a.unit != u),
                                            decided := s.layer.decided.filter (fun d => d.1 != u) } }
  mine.foldl (fun s a => s.recordOutcome a.seq 9) s

/-- A free interruption in ns, at most `b` (R308, R318). -/
def State.within_ (s : State) (b : Nat) : Nat := s.fv (b + 1)

/-! ### The end of every step -/

/-- DEVICE_STATE for given passes in progress (R27). -/
def devCode (m : DevMode) (dressing : Bool) (acq : Nat) : Nat :=
  match m with
  | .boot => 0
  | .sleep => 5
  | .faulted => 6
  | .run => if dressing then 4 else acq

/-- DEVICE_STATE (R27). -/
def State.devState (s : State) : Nat := devCode s.dev (!s.dress.active.isEmpty) s.acq

/-- Some plan command has reached its g_B in one plan and not yet in another (R30). -/
def State.midCommand (s : State) : Bool :=
  planNos.any (fun q => (s.plan q).cmds.any (fun c => s.dir.started.contains c.batch))

/-- DEVICE_STATE, ACQ_STATE and the plan states (R408). -/
def State.allStates (s : State) : List Nat := s.devState :: s.acq :: s.planStates

/-- ACQ_STATE as the plans give it (R27), and the states as STATE_SEQUENCE has told of them. -/
def State.withAcq (s : State) : State := { s with acq := acqOf s.planStates }
def State.withShown (s : State) : State := { s with shown := s.allStates }

/-- STATE_SEQUENCE one on (R408). -/
def State.withSeq (s : State) : State := { s with seq := (s.seq + 1) % 2 ^ 32 }

/-- The trace entry of a change of state (R472). -/
def State.traceStates (s : State) : State := s.trace_ 5 0 0xFFFF (s.devState + s.acq * 2 ^ 8 + s.seq * 2 ^ 16)

/-- ACQ_STATE follows the plans (R27, R30), and STATE_SEQUENCE advances by one on a change, with its trace entry (R408, R472); what one
command does to several plans counts once, at the last of them. In Boot nothing counts. -/
def State.noteStates (s : State) : State :=
  if s.midCommand then s
  else if s.withAcq.allStates == s.shown then s.withAcq
  else if s.dev == .boot then s.withAcq.withShown
  else s.withAcq.withShown.withSeq.traceStates

/-- The states are told at the end of a step that began in `s0`: when Boot ends STATE_SEQUENCE is 0 (R408). -/
def State.tell (s0 s : State) : State :=
  if s0.dev == .boot && s.dev != .boot then s.withAcq.withShown else s.noteStates

/-- The error register's return to zero is announced (R321). -/
def State.watch (s : State) : State :=
  let t := if s.errReg == 0 && s.fault.lastReg != 0 then s.emcy { code := 0, reg := 0 } else s
  { t with fault := { t.fault with lastReg := s.errReg } }

/-- What every step ends with, given the state it began in. -/
def State.settle (s0 s : State) : State := (s0.tell s).watch

/-- The state after a command that began in `s0` and whose meaning led to `s`: it has its effect on everything but the queue. -/
def State.after (s0 s : State) : State := { s0.settle s with pending := s0.pending }

/-- The outcome of a command. -/
def State.done (s0 s : State) : Host.Outcome State Fault Refusal := .next (s0.after s)

end Sys2Proof.Machine
end

