-- ==== Sys2Proof/Machine/Reasons.lean ====
section
/-!
DEFINITION. The reason codes of R396 and the abort codes of R394, by the names the tables give them.
-/

namespace Sys2Proof.Machine.Why

def NONE : Nat := 0x0000
def OBJECT_UNKNOWN : Nat := 0x0001
def SUBINDEX_UNKNOWN : Nat := 0x0002
def ACCESS_READ_ONLY : Nat := 0x0003
def ACCESS_WRITE_ONLY : Nat := 0x0004
def TYPE_LENGTH : Nat := 0x0005
def VALUE_RANGE : Nat := 0x0006
def RESERVED_VALUE : Nat := 0x0007
def UNIT_INVALID : Nat := 0x0008
def TRANSFER_TIMEOUT : Nat := 0x0009
def PROTOCOL : Nat := 0x000A
def PDO_NOT_MAPPABLE : Nat := 0x000B
def PDO_LENGTH : Nat := 0x000C
def PDO_PROCEDURE : Nat := 0x000D
def COMMAND_UNKNOWN : Nat := 0x0100
def COMMAND_ARGUMENT : Nat := 0x0101
def DEVICE_STATE : Nat := 0x0102
def PLAN_MASK_EMPTY : Nat := 0x0103
def CHANNEL_IN_USE : Nat := 0x0200
def CHANNEL_NOT_READY : Nat := 0x0201
def CHANNEL_DRESSING : Nat := 0x0202
def BOLTER_RATE : Nat := 0x0203
def BOLTER_MODE_CONFLICT : Nat := 0x0204
def BOLTER_SWAP_PENDING : Nat := 0x0205
def SLOT_IN_USE : Nat := 0x0300
def SLUICE_SLOT_INVALID : Nat := 0x0301
def SLUICE_ARMED : Nat := 0x0302
def SLUICE_DRESSING : Nat := 0x0303
def PLAN_ARMED : Nat := 0x0400
def PLAN_RETAINING : Nat := 0x0401
def PLAN_EMPTY : Nat := 0x0402
def PLAN_GRAIN_MISMATCH : Nat := 0x0403
def HEADRACE_SHARE : Nat := 0x0404
def RING_EXCEEDS_ALLOCATION : Nat := 0x0405
def POST_EXCEEDS_ALLOCATION : Nat := 0x0406
def SEGMENTS_EXCEED_ALLOCATION : Nat := 0x0407
def GATE_RANGE : Nat := 0x0408
def PLAN_NOT_ARMED : Nat := 0x0409
def HOST_ACK_BACKWARD : Nat := 0x040A
def HOST_ACK_AHEAD : Nat := 0x040B
def STORE_ALLOCATION : Nat := 0x0500
def STORE_IN_USE : Nat := 0x0501
def PLANES_IN_USE : Nat := 0x0502
def STORE_SHARE_SUM : Nat := 0x0503
def GATE_CHANNELS : Nat := 0x0600
def GATE_NO_CLOCK : Nat := 0x0601
def GATE_SPAN : Nat := 0x0602
def PLANE_NO_FRAME : Nat := 0x0603
def PLANE_AXIS : Nat := 0x0604
def PLANE_MASK : Nat := 0x0605
def PLANE_NONE : Nat := 0x0606
def PLANE_SNAPSHOT_BUSY : Nat := 0x0607
def PLANE_SNAPSHOT_PENDING : Nat := 0x0608
def DISP_NO_ENTRY : Nat := 0x0609
def DISP_TOO_LONG : Nat := 0x060A
def DISP_BUSY : Nat := 0x060B
def FANTAIL_SSC_RANGE : Nat := 0x0700
def FANTAIL_DOMAIN_BUSY : Nat := 0x0701
def DRESS_UNIT : Nat := 0x0800
def DRESS_IN_PROGRESS : Nat := 0x0801
def DRESS_GROUP_DEGRADED : Nat := 0x0802
def DRESS_COMMIT_BUSY : Nat := 0x0803
def LAYER_NO_REQUEST : Nat := 0x0900
def LAYER_UNIT : Nat := 0x0901
def GOVERNOR_LIMIT : Nat := 0x0A00
def POWER_STATE : Nat := 0x0A01
def WAKE_HELD : Nat := 0x0A02
def TIMER_EMPTY : Nat := 0x0B00
def TIMER_OUT_OF_SERVICE : Nat := 0x0B01
def TIMER_CONST_GONE : Nat := 0x0B02
def MON_TABLE_INCOMPLETE : Nat := 0x0B03
def MON_INJECT_BUSY : Nat := 0x0B04
def CTB_ROLE : Nat := 0x0C00
def TAIL_STREAM_OPEN : Nat := 0x0C01
def UPDATE_BUSY : Nat := 0x0D00
def UPDATE_NO_SESSION : Nat := 0x0D01
def UPDATE_TOO_LARGE : Nat := 0x0D02
def UPDATE_INCOMPLETE : Nat := 0x0D03
def UPDATE_STAGING_ERROR : Nat := 0x0D04
def UPDATE_NOT_PENDING : Nat := 0x0D05

/-- Abort codes (R394). -/
def timedOut : Nat := 0x05040000
def specifier : Nat := 0x05040001
def writeOnly : Nat := 0x06010001
def readOnly : Nat := 0x06010002
def noObject : Nat := 0x06020000
def notMappable : Nat := 0x06040041
def pdoLength : Nat := 0x06040042
def typeLength : Nat := 0x06070010
def noSub : Nat := 0x06090011
def badValue : Nat := 0x06090030
def badState : Nat := 0x08000022
def noData : Nat := 0x08000024

end Sys2Proof.Machine.Why
end

