-- ==== Sys2Proof/Machine/Operands.lean ====
section
/-!
DEFINITION. Host accesses: the checks on a written value (R9, R401, R402), what serving and refusing an access does (R30,
R380, R388, R392 to R395), and the windows' path copies (R412).
-/

namespace Sys2Proof.Machine

/-- A refusal: SDO abort code, reason code, and the plan whose check failed (R395). -/
structure Rej where
  abort : Nat
  reason : Nat
  plan : Nat := 255
  deriving DecidableEq, Repr

/-- What a write comes to: the state it leaves, or why it is refused. -/
abbrev WRes := Except Rej State

/-- Refusals with abort 0x0609_0030 (the value is illegal) and 0x0800_0022 (the state forbids it), R394. -/
def bad (reason : Nat) : WRes := .error { abort := Why.badValue, reason := reason }
def notNow (reason : Nat) : WRes := .error { abort := Why.badState, reason := reason }

/-- Bytes of a type (R401). -/
def Ty.bytes : Ty → Nat
  | .bool | .u8 | .i8 => 1
  | .u16 | .i16 => 2
  | .u32 | .i32 | .r32 => 4
  | .u64 | .i64 | .r64 => 8
  | .dom => 0

/-- Can the type represent the value? -/
def Ty.fits (t : Ty) (v : Int) : Bool :=
  match t with
  | .i8 | .i16 | .i32 | .i64 => -(2 ^ (8 * t.bytes - 1) : Nat) ≤ v && v < (2 ^ (8 * t.bytes - 1) : Nat)
  | .dom => 0 ≤ v
  | _ => 0 ≤ v && v < (2 ^ (8 * t.bytes) : Nat)

/-- Is the bit pattern a NaN or an infinity? -/
def Ty.notFinite (t : Ty) (v : Int) : Bool :=
  match t with
  | .r32 => bits v.toNat 30 23 == 255
  | .r64 => bits v.toNat 62 52 == 2047
  | _ => false

/-- The data length is judged before the value (R401). -/
def Row.lengthOk (r : Row) (len : Nat) (v : Int) : Bool :=
  match r.ty with
  | .dom => r.lo ≤ len && len ≤ r.hi
  | t => len == t.bytes && t.fits v

/-- The value checks of R9, R401 and R402 that need only the object's row. -/
def Row.valueCheck (r : Row) (v : Int) : Option Nat :=
  match r.ty with
  | .dom => none
  | t =>
    if t.notFinite v then some Why.VALUE_RANGE
    else match r.mask with
      | some m => if v.toNat &&& m == v.toNat then none else some Why.RESERVED_VALUE
      | none =>
        if r.lo ≤ v && v ≤ r.hi then none
        else if r.enc then some Why.RESERVED_VALUE else some Why.VALUE_RANGE

/-- The checks every write meets before its chapter's own (R399, R401, R402, R9). -/
def writeCheck (i u len : Nat) (v : Int) : Except Rej Row :=
  match findRow i u with
  | none =>
    if !knownIdx i then .error { abort := Why.noObject, reason := Why.OBJECT_UNKNOWN }
    else if u == 0 then .error { abort := Why.readOnly, reason := Why.ACCESS_READ_ONLY }
    else .error { abort := Why.noSub, reason := Why.SUBINDEX_UNKNOWN }
  | some r =>
    if r.acc == .ro then .error { abort := Why.readOnly, reason := Why.ACCESS_READ_ONLY }
    else if !r.lengthOk len v then .error { abort := Why.typeLength, reason := Why.TYPE_LENGTH }
    else match r.valueCheck v with
      | some reason => .error { abort := Why.badValue, reason := reason }
      | none => .ok r

/-- The natural length of an object, for the commands that carry a typed value. -/
def natLen (k : Nat) : Nat :=
  match findRow (k / 256 % 65536) (k % 256) with
  | some r => r.ty.bytes
  | none => 0

/-- The path copy of a window object: OD frames have their own latches (R412). -/
def win (p : Path) (k : Nat) : Nat := if p == .od then k + 16777216 else k

/-- Which of two copies a path uses: 0 field network, 1 OD frames. -/
def side (p : Path) : Nat := if p == .od then 1 else 0

/-- Unit indices of each section code but 0xFF (R19). -/
def sectionUnits (sec : Nat) : Nat :=
  match sec with
  | 1 | 2 | 3 | 4 | 6 | 8 | 10 => 4
  | 5 | 12 => 1
  | 7 => 16
  | 9 => 8
  | 11 => 3
  | _ => 0

/-- The identifiers of R19. -/
def unitKnown (u : Nat) : Bool :=
  decide (u / 256 ≤ 12) && (u % 256 == 255 || decide (u % 256 < sectionUnits (u / 256)))

/-! ### Serving -/

/-- Is an access on this path served at all? None in Boot or after the way down; the field network's services need the NMT
state (R32, R378) and a node-ID (R377); RPDOs need Operational. -/
def State.admits (s : State) (p : Path) : Bool :=
  s.net.serving &&
  match p with
  | .od => true
  | .sdo => s.net.nodeId != 0 && !s.gov.canOff && (s.net.nmt == .preOp || s.net.nmt == .operational)
  | .rpdo => s.net.nodeId != 0 && !s.gov.canOff && s.net.nmt == .operational

/-- Record the response of an access, and how long it took: within 10 ms, else open (R381, R388). -/
def State.respond (a : Acc) (asked : Time) (value : Int) (abort reason : Nat) (s : State) : State :=
  let t := min ((s.clk.now - asked) / 80000 + s.fv 10001) 10000
  let n := { s.net with last := { path := a.path, idx := a.idx, sub := a.sub, value := value, abort := abort, reason := reason } }
  match a.path with
  | .sdo => ({ s with net := { n with sdoMax := max n.sdoMax t } }.bump 460).adv
  | .od => ({ s with net := { n with odMax := max n.odMax t } }.bump 461).adv
  | .rpdo => { s with net := n }

/-- A refusal writes all fields of 2F10h in one step and counts (R395, R384). -/
def State.refuse (a : Acc) (cmd : Nat) (r : Rej) (s : State) : State :=
  let f : Refusals :=
    { reason := r.reason, abort := r.abort, object := a.idx * 65536 + a.sub * 256, command := cmd, plan := r.plan,
      path := a.path.code, count := (s.net.refusal.count + 1) % 2 ^ 32 }
  let s := { s with net := { s.net with refusal := f } }.bump 462
  if a.path == .rpdo then s.sat O.RPDO_REFUSED else s

/-- Serve a write whose effect is `f`: refused on the way down into Sleep (R393), else as `f` says. -/
def State.serveWrite (a : Acc) (cmd : Nat) (asked : Time) (f : State → WRes) (s : State) : State :=
  match (if s.dev == .sleep then notNow Why.DEVICE_STATE else f s) with
  | .ok t => t.respond a asked 0 0 0
  | .error r => (s.refuse a cmd r).respond a asked 0 r.abort r.reason

/-- Where no bank can be started, the boot ROM serves OD frames for 5800h, and the commands that open and close a session (R461). -/
def State.recovers (s : State) (a : Acc) : Bool :=
  s.dev == .boot && s.gov.boot == 3 && a.path == .od &&
    (a.idx == 0x5800 || (a.idx == 0x2100 && a.write && (a.v == 0x30 || a.v == 0x31)))

/-- An SDO initiation abandons the transfer in progress (R379). -/
def State.dropXfer (p : Path) (s : State) : State := if p == .sdo then { s with net := { s.net with xfer := none } } else s

/-- The loop whose domain holds an object's section (R16, R21, R399): 2 POND, 3 RUN, 5 TAIL, 6 EVT; none: a section that never stops
while the Miller runs. -/
def accLoop (idx : Nat) : Option Nat :=
  if idx == 0x4200 || idx == 0x4201 || idx / 256 == 0x44 then some 2
  else if 0x4800 ≤ idx ∧ idx < 0x5000 then some 3
  else if 0x5600 ≤ idx ∧ idx < 0x5701 then some 5
  else if idx == 0x2400 || idx == 0x2410 then some 6
  else none

/-- The access is to a section whose clock is stopped: the Miller waits for its acknowledge (R23, R24). One that has failed for good is
not waited for (log entry 77). -/
def State.waitsFor (s : State) (idx : Nat) : Bool :=
  match accLoop idx with
  | some l => s.stopped l && !(s.loop l).dead
  | none => false

/-- The Miller does not take up an access: its own clock is stopped, another access waits at it (R380), or this one has to. -/
def State.waits (s : State) (idx : Nat) : Bool := s.stopped 4 || !s.net.held.isEmpty || s.waitsFor idx

/-- An access from outside: not served; not received, for the field network's frames while the CAN controller's clock is stopped
(R266); held in the Miller's queue (R23, R380); or served. -/
def State.access (a : Acc) (serve : State → State) (s : State) : State :=
  if (!s.admits a.path && !s.recovers a) || (s.stopped 4 && a.path != .od) then s
  else
    let s := s.dropXfer a.path
    if s.waits a.idx then { s with net := { s.net with held := s.net.held ++ [(s.clk.now, a)] } } else serve s

/-- A write of one object as a command of the table carries it: row checks first, then the chapter's own `f`. -/
def State.write (p : Path) (k : Nat) (v : Int) (f : State → WRes) (s : State) : State :=
  let a : Acc := { path := p, write := true, idx := k / 256 % 65536, sub := k % 256, len := natLen k, v := v }
  s.access a (fun s => s.serveWrite a 0 s.clk.now
    (fun s => match writeCheck a.idx a.sub a.len v with
      | .ok _ => f s
      | .error r => .error r))

/-- Store a value whose row checks have passed. -/
def State.put (k : Nat) (v : Int) (s : State) : WRes := .ok (s.wr k v)

end Sys2Proof.Machine
end

