-- ==== Sys2Proof/Machine/Bolter.lean ====
section
/-!
DEFINITION. The Bolter (chapter 03): configurations and their figures (R72), output numbering (R77, R78), the filter chain
(R80), swaps (R85, R86), rows and flags of output grains (R55 to R57, R79, R82), and the commands on its objects.
-/

namespace Sys2Proof.Machine

/-! ### Configurations (R72, R77) -/

/-- D: full-rate sample periods per output. -/
def BolterCfg.d (b : BolterCfg) : Nat :=
  match b.mode with
  | 1 | 2 => max b.factor 1
  | 3 => if b.preset == 2 then 16 else 4
  | 4 => 64
  | _ => 1

/-- N: outputs per grain. -/
def BolterCfg.n (b : BolterCfg) : Nat :=
  match b.mode with
  | 0 | 1 => 64
  | 2 => 20
  | _ => 40

/-- Grain kind (R53). -/
def BolterCfg.kind (b : BolterCfg) : Nat :=
  match b.mode with
  | 0 => 0
  | 1 => 1
  | 2 => 3
  | _ => 2

/-- Group delay G. -/
def BolterCfg.g (b : BolterCfg) : Nat :=
  if b.mode == 3 then (if b.preset == 2 then 315 else 47) else 0

/-- S - 1: how many samples before the newest an output reaches (R80). -/
def BolterCfg.reach (b : BolterCfg) : Nat :=
  match b.mode with
  | 3 => if b.preset == 2 then 630 else 94
  | 4 => 63
  | _ => 0

/-- Outputs that carry SETTLING after a change or reset (R72). -/
def BolterCfg.settling (b : BolterCfg) : Nat :=
  match b.mode with
  | 3 => if b.preset == 2 then 40 else 24
  | 4 => 1
  | _ => 0

/-- Outputs that carry SETTLING after a zeroing: the delay line adds its own (R82). -/
def BolterCfg.settleAll (b : BolterCfg) : Nat := b.settling + ceilDiv b.delay b.d

/-- Where in its interval an output's newest input lies (R77). -/
def BolterCfg.tail (b : BolterCfg) : Nat :=
  match b.mode with
  | 2 => b.d - 1
  | 4 => 63
  | _ => 0

/-- x_m, the newest input of output m (R77). -/
def BolterCfg.newest (b : BolterCfg) (o m : Int) : Int := o + m * b.d + b.tail

/-- r_m, the reported index of output m (R77). -/
def BolterCfg.reported (b : BolterCfg) (o m : Int) : Int := o + m * b.d - b.g

/-- The first output whose newest input lies at or after sample `x`. -/
def BolterCfg.outputFrom (b : BolterCfg) (o x : Int) : Int := (x - o - b.tail + b.d - 1) / b.d

/-- P = N D, the grain period (R131). -/
def BolterCfg.period (b : BolterCfg) : Nat := b.n * b.d

/-- First sample of the input span of output grain k (R78). -/
def BolterCfg.spanStart (b : BolterCfg) (o k : Int) : Int :=
  if k ≤ 0 then o else b.newest o (k * b.n - 1) + 1

/-- Two settings are equal in the sense of R75: the fields that the MODE does not read take no part. -/
def BolterCfg.same (a b : BolterCfg) : Bool :=
  a.mode == b.mode && (a.mode != 3 || a.preset == b.preset) && ((a.mode != 1 && a.mode != 2) || a.factor == b.factor)

/-- The whole effective configuration is the same (R75). -/
def BolterCfg.sameAll (a b : BolterCfg) : Bool :=
  a.same b && a.delay == b.delay && (a.mode != 3 || a.frac == b.frac)

/-! ### Coefficients (R80, R83) -/

/-- Taps of stage i (0 to 3). -/
def stageTaps (i : Nat) : Nat :=
  match i with
  | 0 => 15
  | 1 => 41
  | 2 => 23
  | _ => 57

/-- Can these be the preset coefficients of stage i (R80)? As many as it has taps, signed 18-bit, symmetric, of unity gain at DC with
s = 17. -/
def presetFits (i : Nat) (l : List Int) : Bool :=
  decide (l.length = stageTaps i) && l.all (fun x => decide (-131072 ≤ x) && decide (x ≤ 131071)) && l == l.reverse
    && l.foldl (· + ·) 0 == 131072

/-- Coefficients of which all of this holds, whatever the device description file lists. -/
def evenTaps (i : Nat) : List Int := (List.range (stageTaps i)).map (fun j => if 2 * j + 3 == stageTaps i || 2 * j == stageTaps i + 1 then 65536 else 0)

/-- The preset of a stage: its coefficients with shift 17 (R80, R83). -/
def presetBank (i : Nat) : List Int × Nat := (if presetFits i (Config.presetTaps i) then Config.presetTaps i else evenTaps i, 17)

/-- The fractional-phase variant of stage 1's coefficients: the taps stay 15 (R81), and each is signed 18-bit. -/
def fracTaps (t : List Int) (k : Nat) : List Int :=
  (List.range (stageTaps 0)).map (fun j => clampI (-131072) 131071 (((Config.fracVariant t k)[j]?).getD 0))

/-- Bank `b`, stage `i` of a channel. -/
def Chan.coefs (ch : Chan) (b i : Nat) : List Int × Nat := tget (fun k => presetBank (k % 4)) ch.banks (4 * b + i)

/-- The stages that run, under bank `b`, stage 1 in its fractional variant where DELAY_FRAC is in use (R81). -/
def Chan.stages (ch : Chan) (b : Nat) : List (List Int × Nat) :=
  let all := (List.range (if ch.cfg.preset == 2 then 4 else 2)).map (fun i => ch.coefs b i)
  match all with
  | (t, sh) :: r => (if ch.cfg.frac == 0 then t else fracTaps t ch.cfg.frac, sh) :: r
  | [] => []

/-- Sum of products of coefficients and the newest inputs. -/
def fir : List Int → List Int → Int
  | c :: cs, x :: xs => c * x + fir cs xs
  | _, _ => 0

/-- A stage's output before saturation: convolve, round by half of the shifted-out weight, shift (R80). -/
def stageRaw (st : List Int × Nat) (w : List Int) : Int :=
  let acc := fir st.1 w
  if st.2 == 0 then acc else (acc + (2 ^ (st.2 - 1) : Nat)) / (2 ^ st.2 : Nat)

/-- A stage over an input window, newest first: every second output, newest first, before saturation. -/
def stageRun (st : List Int × Nat) : List Int → List Int
  | [] => []
  | [a] => [stageRaw st [a]]
  | a :: b :: r => stageRaw st (a :: b :: r) :: stageRun st r

/-- The chain of decimate-by-2 stages over an input window: its newest output, and how many of the values that stages formed
since the last output were saturated. -/
def chain : List (List Int × Nat) → Nat → List Int → Int × Nat
  | [], _, w => (w.headD 0, 0)
  | st :: r, fresh, w =>
    let raw := stageRun st w
    let (v, n) := chain r (fresh / 2) (raw.map sat16)
    (v, n + ((raw.take (fresh / 2)).filter (fun x => sat16 x != x)).length)

/-! ### Raw history -/

/-- The newest sample index held. -/
def Chan.top (ch : Chan) : Int :=
  match ch.hist with
  | g :: _ => g.index + 63
  | [] => -1

/-- The raw grain that holds sample `j`, if it belongs to the filter history. -/
def Chan.rawOf (ch : Chan) (j : Int) : Option RawGrain :=
  if j < ch.zeroAt then none
  else ch.hist.find? (fun g => g.index ≤ j && j < g.index + 64)

/-- The code of sample `j`; the zeroed history reads 0. -/
def Chan.code (ch : Chan) (j : Int) : Int :=
  match ch.rawOf j with
  | some g => (g.codes[(j - g.index).toNat]?).getD 0
  | none => 0

/-- Is sample `j` affected by over-range (R57)? -/
def Chan.affected (ch : Chan) (j : Int) : Bool :=
  match ch.rawOf j with
  | some g => (g.aff[(j - g.index).toNat]?).getD false
  | none => false

/-- `n` samples of the delayed stream, newest (sample `x`) first, zero before sample `z` of that stream and before the
history (R81, R82, R85). -/
def Chan.window (ch : Chan) (codes : List Int) (x z : Int) (n : Nat) : List Int :=
  let j := x - ch.cfg.delay
  let have_ := min (x - z + 1) (j - ch.zeroAt + 1)
  let k := min n have_.toNat
  let w := (codes.drop (ch.top - j).toNat).take k
  w ++ List.replicate (n - w.length) 0

/-! ### Outputs -/

/-- Values of one output at sample `x`, with saturations counted. -/
def Chan.filtered (ch : Chan) (codes : List Int) (x : Int) : Int × Nat :=
  let n := ch.cfg.reach + 1
  if ch.cfg.mode == 4 then
    let v := (ch.window codes x ch.chainAt n).foldl (· + ·) 0
    (sat16 v, b2n (sat16 v != v))
  else
    let w := fun z => (ch.window codes x z n).map (64 * ·)
    let old := fun (_ : Unit) => chain (ch.stages ch.bank) ch.cfg.d (w ch.chainAt)
    match ch.swap with
    | none => old ()
    | some sw =>
      let k0 := ceilDiv ch.cfg.reach ch.cfg.d
      let (b, nb) := chain (ch.stages sw.bank) ch.cfg.d (w sw.start)
      if sw.k < k0 then ((old ()).1, (old ()).2 + nb)
      else
        if sw.k < k0 + sw.fade then
          let (a, na) := old ()
          let f : Int := sw.fade
          let i : Int := sw.k - k0
          let y := roundDiv ((f - i) * a + i * b) f
          (sat16 y, na + nb + b2n (sat16 y != y))
        else (b, nb)

/-- A finished output grain (R50 to R57, R79, R82). -/
def OutGrain.finish (c : Nat) (o : Int) (cfg : BolterCfg) (last : Tbl (List Int × Bool × List Bool)) (g : OutGrain) : Grain :=
  let gap := g.gap || g.residue
  let stale := !gap && g.stale
  let old := tget (fun _ => (List.replicate (if cfg.mode == 0 || cfg.mode == 1 then 64 else 40) 0, false, [])) last cfg.kind
  let normal := !gap && !stale
  let overRs := if normal then g.overRs.reverse else if stale then old.2.2 else []
  { kind := cfg.kind, ch := c, phase := if cfg.mode == 0 then 0 else ((g.num * cfg.n) % 2048).toNat,
    index := cfg.reported o (g.num * cfg.n), late := cfg.g + cfg.tail - cfg.delay, overRs := overRs,
    flags := { unref := g.unref, decim := cfg.mode != 0, gap := gap, layer := g.layer, stale := stale, valid := normal,
               overR := overRs.contains true, settling := (normal && g.settle) || (stale && old.2.1) },
    vals := if gap then List.replicate old.1.length 0 else if stale then old.1 else g.vals.reverse }

/-- What the Bolter hands on in one GRAIN cycle; `hit`: a residue mismatch affects the next output (R87). -/
structure Fed where
  ch : Chan
  grains : List (Int × Grain) := []
  clamps : Nat := 0
  hit : Bool := false

/-- The marks of a raw grain that an output grain with an input in it gathers (R79). -/
def OutGrain.gather (out : OutGrain) (r : RawGrain) : OutGrain :=
  { out with gap := out.gap || r.gap, stale := out.stale || r.stale, layer := out.layer || r.layer, unref := out.unref || r.unref }

/-- One sample `x` of the delayed stream passes through the Bolter: marks are gathered, and an output whose newest input it is
is formed. -/
def Fed.sample (c : Nat) (o : Int) (codes : List Int) (x : Int) (f : Fed) : Fed :=
  let ch := f.ch
  let cfg := ch.cfg
  let j := x - cfg.delay
  let g := ch.rawOf j
  let out := ch.out
  let out :=
    match g with
    | some r => out.gather r
    | none =>
      match ch.rawOf ch.zeroAt with
      | some r => { out with unref := out.unref || r.unref }
      | none => out
  -- with a fraction in use the sample before it contributes as well (R81)
  let out := if cfg.frac != 0 && cfg.mode == 3 then (match ch.rawOf (j - 1) with | some r => out.gather r | none => out) else out
  -- the first sample of a marked raw grain starts the SETTLING outputs (R65, R67)
  let start := match g with | some r => r.settle && r.index == j | none => false
  let left := if start && cfg.mode ≥ 3 then max ch.settleLeft cfg.settling else ch.settleLeft
  let v := 64 * ch.code j
  let mm : Option (Int × Int) :=
    if cfg.mode == 2 then
      match (if (x - o) % cfg.d == 0 then none else ch.mm) with
      | some (a, b) => some (min a v, max b v)
      | none => some (v, v)
    else none
  let out := if cfg.mode == 2 then { out with overR := out.overR || ch.affected j } else out
  let ch := { ch with out := out, settleLeft := left, mm := mm }
  if (x - o - cfg.tail) % cfg.d != 0 || x - o < cfg.tail then { f with ch := ch }
  else
    let m := (x - o - cfg.tail) / cfg.d
    let (vals, clamps) : List Int × Nat :=
      match cfg.mode with
      | 0 | 1 => ([ch.code j], 0)
      | 2 => match mm with | some (a, b) => ([b, a], 0) | none => ([0, 0], 0)
      | _ => let (y, n) := ch.filtered codes x; ([y], n)
    let overR :=
      match cfg.mode with
      | 2 => false
      | 0 | 1 => ch.affected j
      | _ => (List.range (cfg.reach + 1 + b2n (cfg.frac != 0 && cfg.mode == 3))).any (fun i => ch.affected (j - i))
    let direct := match g with | some r => r.settle && cfg.mode == 0 | none => false
    let out := { out with vals := vals ++ out.vals, count := out.count + 1, overR := false, overRs := (out.overR || overR) :: out.overRs,
                          settle := out.settle || direct || left != 0, residue := out.residue || f.hit }
    let ch := { ch with out := out, settleLeft := left - 1, swap := ch.swap.map (fun w => { w with k := w.k + 1 }) }
    if m % cfg.n == cfg.n - 1 then
      let fresh := { ch with out := { num := m / cfg.n + 1 } }
      if out.broken then { f with ch := fresh, clamps := f.clamps + clamps, hit := false }
      else
        let gr := { out with num := m / cfg.n }.finish c o cfg ch.lastValid
        let last := if gr.flags.valid then tset cfg.kind (gr.vals, gr.flags.settling, gr.overRs) ch.lastValid else ch.lastValid
        { ch := { fresh with lastValid := last }, grains := f.grains ++ [(m / cfg.n, gr)], clamps := f.clamps + clamps }
    else { f with ch := ch, clamps := f.clamps + clamps, hit := false }

/-- Run a raw grain through the Bolter (origin `o`); `hits`: the samples of it whose outputs a residue mismatch affects. -/
def Chan.feed (c : Nat) (o : Int) (raw : RawGrain) (hits : List Nat) (ch : Chan) : Fed :=
  let ch := { ch with hist := (raw :: ch.hist).take (ch.cfg.delay / 64 + 13) }
  let codes := if ch.cfg.mode ≥ 3 then ch.hist.flatMap (fun g => g.codes.reverse) else []
  let f := (List.range 64).foldl (fun (f : Fed) (i : Nat) => { f with hit := f.hit || hits.contains i }.sample c o codes (raw.index + (i : Nat)))
    { ch := ch }
  if f.hit then { f with ch := { f.ch with out := { f.ch.out with residue := true } }, hit := false } else f

/-! ### Zeroing, changes, swaps (R75, R79, R82, R85 to R88) -/

/-- A swap completes: the new bank is active from output m on, held applies are written, and a queued swap begins at the raw-grain
boundary `next` (R85, R86; SWAP_INDEX and the early end: DEDUCED, log entry 88). -/
def Chan.endSwap (o m : Int) (next : Time) (ch : Chan) : Chan :=
  match ch.swap with
  | none => ch
  | some sw =>
    { ch with bank := sw.bank, chainAt := sw.start, swap := none, swapIndex := ch.cfg.reported o m,
              banks := ch.held.foldl (fun t e => tset (4 * (1 - sw.bank) + e.1 % 4) e.2 t) ch.banks, held := [],
              swapQueued := false, swapReq := if ch.swapQueued then some next else ch.swapReq }

/-- A swap in progress completes at once at the boundary at sample `b` and time `t`; a queued one begins at the boundary after it. -/
def Chan.swapNow (o b : Int) (t : Time) (ch : Chan) : Chan := ch.endSwap o (ch.cfg.outputFrom o b) (t + 64)

/-- Zero the histories at sample `b`, at time `t`; a swap in progress completes at once. -/
def Chan.zero (o b : Int) (t : Time) (ch : Chan) : Chan :=
  let ch := ch.swapNow o b t
  { ch with zeroAt := b, chainAt := b, settleLeft := ch.cfg.settleAll, mm := none, inRun := false }

/-- Abandon the output grain in progress: the next one begins with the next output that is the first of a grain (R75;
an interval across the boundary: DEDUCED, log entry 89). -/
def Chan.abandon (o b : Int) (ch : Chan) : Chan :=
  let m := ch.cfg.outputFrom o b
  { ch with out := { num := m / ch.cfg.n, broken := m % ch.cfg.n != 0 } }

/-- The other bank, or the one that will be inactive when a swap in progress completes (R84). -/
def Chan.targetBank (ch : Chan) : Nat :=
  match ch.swap with
  | some sw => 1 - sw.bank
  | none => 1 - ch.bank

/-- An event counter of a channel's swap completion (R85). -/
def State.countSwap (c : Nat) (before after : Chan) (s : State) : State :=
  if before.swap.isSome && after.swap.isNone then s.sat (O.SWAPS_DONE c) else s

/-- Configuration changes take effect at the raw grain that begins next (R75, R82): histories are zeroed once, under the last of them. -/
def State.applyChange (c : Nat) (cfg : BolterCfg) (s : State) : State :=
  let ch := s.chan c
  let o := s.origin.o
  let t := s.grainAt s.clk.now
  let b := s.idxAt t
  let ch' := ({ ch.swapNow o b t with cfg := cfg }.zero o b t).abandon o b
  (s.setChan c { ch' with chgs := ch.chgs.filter (fun e => !s.due e.1) }).countSwap c ch ch'

/-- BOLTER_CHANGE_APPLY (R75, R82): every change whose boundary has come. -/
def State.bolterChange (c : Nat) (s : State) : State :=
  match ((s.chan c).chgs.filter (fun e => s.due e.1)).getLast? with
  | some (_, cfg) => s.applyChange c cfg
  | none => s

def execBolterChangeApply (c : Nat) (s : State) : Host.Outcome State Fault Refusal := s.done (s.bolterChange c)

/-- SWAP_BEGIN (R85): at B_s the second chain starts; under a MODE other than 3 the swap completes there. -/
def State.swapBegin (c : Nat) (s : State) : State :=
  let ch := s.chan c
  match ch.swapReq, ch.swap with
  | some t, none =>
    if s.due t then
      let t := s.grainAt s.clk.now
      let b := s.idxAt t
      let ch' := { ch with swapReq := none, swap := some { k := 0, start := b, fade := s.rdN (O.FADE_LENGTH c), bank := 1 - ch.bank } }
      if ch.cfg.mode == 3 then s.setChan c ch'
      else
        let o := s.origin.o
        (s.setChan c { ch'.swapNow o b t with chainAt := ch.chainAt }).sat (O.SWAPS_DONE c)
    else s
  | _, _ => s

def execSwapBegin (c : Nat) (s : State) : Host.Outcome State Fault Refusal := s.done (s.swapBegin c)

/-- SWAP_COMPLETE (R85, R86): once output k0 + F is formed. A queued swap begins at the next raw-grain boundary. -/
def State.swapComplete (c : Nat) (s : State) : State :=
  let ch := s.chan c
  match ch.swap with
  | some sw =>
    let k1 := ceilDiv ch.cfg.reach ch.cfg.d + sw.fade
    if k1 < sw.k then
      let o := s.origin.o
      let m := ch.cfg.outputFrom o sw.start + k1
      (s.setChan c (ch.endSwap o m (s.grainAt s.clk.now))).sat (O.SWAPS_DONE c)
    else s
  | none => s

def execSwapComplete (c : Nat) (s : State) : Host.Outcome State Fault Refusal := s.done (s.swapComplete c)

/-! ### Writes of Bolter objects -/

/-- An Armed plan includes the channel, judged against the states being entered (R30, R74). -/
def State.armedOn (s : State) (c : Nat) : Bool :=
  planNos.any (fun q => armedSt (s.plan q).entering && bit (s.plan q).cfgNext.chset c)

/-- The configuration that the objects of a channel spell. -/
def State.bolterObjs (s : State) (c : Nat) : BolterCfg :=
  { mode := s.rdN (O.MODE c), preset := s.rdN (O.PRESET c), factor := s.rdN (O.FACTOR c), delay := s.rdN (O.DELAY_WHOLE c),
    frac := s.rdN (O.DELAY_FRAC c) }

/-- After objects changed from `old`: if the effective configuration differs, a change is on its way (R75, R82). -/
def State.sendChange (c : Nat) (old : BolterCfg) (s : State) : State :=
  let new := s.bolterObjs c
  if old.sameAll new then s
  else (s.modChan c (fun ch => { ch with chgs := ch.chgs ++ [(s.arrivalAfter (ch.chgs.map (fun e => e.1)), new)] })).adv

/-- A write of MODE, PRESET, FACTOR, DELAY_WHOLE or DELAY_FRAC (R73 to R75, R82). -/
def writeBolter (c sub : Nat) (v : Int) (s : State) : WRes :=
  let k := O.MODE c + sub - 1
  if s.armedOn c then notNow Why.CHANNEL_IN_USE
  else
    let s' := s.wr k v
    let new := s'.bolterObjs c
    if new.mode == 2 && new.factor < 4 && (sub == 1 || sub == 3) then bad Why.BOLTER_RATE
    else .ok (s'.sendChange c (s.bolterObjs c))

/-- BOLTER_CONFIG_WRITE: `sub` is 1 MODE, 2 PRESET, 3 FACTOR, 4 DELAY_WHOLE, 5 DELAY_FRAC. -/
def execBolterConfigWrite (p : Path) (c sub : Nat) (v : Int) (s : State) : Host.Outcome State Fault Refusal :=
  s.done (s.write p (O.MODE c + sub - 1) v (writeBolter c sub v))

/-- BANK_SWAP (R85, R86). -/
def writeBankSwap (c : Nat) (s : State) : WRes :=
  let ch := s.chan c
  if ch.swapQueued then notNow Why.BOLTER_SWAP_PENDING
  else if ch.swap.isSome || ch.swapReq.isSome then .ok (s.setChan c { ch with swapQueued := true })
  else .ok ((s.setChan c { ch with swapReq := some s.arrival }).adv)

def execBankSwap (p : Path) (c : Nat) (v : Int) (s : State) : Host.Outcome State Fault Refusal :=
  s.done (s.write p (O.BANK_SWAP c) v (writeBankSwap c))

/-- FADE_LENGTH: 0, or 16 to 4,096 (R90). -/
def writeFade (c : Nat) (v : Int) (s : State) : WRes :=
  if v = 0 ∨ 16 ≤ v then s.put (O.FADE_LENGTH c) v else bad Why.VALUE_RANGE

/-! ### The coefficient window (R84, R86, R412, R415) -/

/-- The edit copy of a path: by default the inactive bank of the default row, stage 1, as Boot leaves it (R413). -/
def Chan.editCopy (ch : Chan) (p : Path) : List Int × Nat := tget (fun _ => presetBank 0) ch.edit (side p)

/-- The stage latched by a path, from 0. -/
def State.coefStage (s : State) (p : Path) (c : Nat) : Nat := s.rdN (win p (O.COEF_STAGE c)) - 1

/-- COEF_STAGE: latch the bank that is or will be inactive into the edit copy; COEF_INDEX stays (R84; DESIGN CHOICE, log entry 90). -/
def writeCoefStage (p : Path) (c : Nat) (v : Int) (s : State) : WRes :=
  let ch := s.chan c
  let i := v.toNat - 1
  .ok ((s.wr (win p (O.COEF_STAGE c)) v).setChan c { ch with edit := tset (side p) (ch.coefs ch.targetBank i) ch.edit })

def execCoefStageLatch (p : Path) (c : Nat) (v : Int) (s : State) : Host.Outcome State Fault Refusal :=
  s.done (s.write p (O.COEF_STAGE c) v (writeCoefStage p c v))

/-- COEF_LOAD_PRESET: the edit copy becomes the stage's preset, shift 17. -/
def writeCoefPreset (p : Path) (c : Nat) (s : State) : WRes :=
  let ch := s.chan c
  .ok (s.setChan c { ch with edit := tset (side p) (presetBank (s.coefStage p c)) ch.edit })

def execCoefLoadPreset (p : Path) (c : Nat) (v : Int) (s : State) : Host.Outcome State Fault Refusal :=
  s.done (s.write p (O.COEF_LOAD_PRESET c) v (writeCoefPreset p c))

/-- COEF_APPLY: write the edit copy into the inactive bank, or hold it while a swap is in progress (R86). -/
def writeCoefApply (p : Path) (c : Nat) (s : State) : WRes :=
  let ch := s.chan c
  let i := s.coefStage p c
  let e := ch.editCopy p
  if ch.swap.isSome then .ok (s.setChan c { ch with held := tset i e ch.held })
  else .ok (s.setChan c { ch with banks := tset (4 * ch.targetBank + i) e ch.banks })

def execCoefApply (p : Path) (c : Nat) (v : Int) (s : State) : Host.Outcome State Fault Refusal :=
  s.done (s.write p (O.COEF_APPLY c) v (writeCoefApply p c))

/-- COEF_INDEX: below the taps of the latched stage. -/
def writeCoefIndex (p : Path) (c : Nat) (v : Int) (s : State) : WRes :=
  if v < stageTaps (s.coefStage p c) then s.put (win p (O.COEF_INDEX c)) v else bad Why.VALUE_RANGE

/-- COEF_VALUE and COEF_SHIFT change only the path's edit copy. -/
def writeCoefValue (p : Path) (c : Nat) (v : Int) (s : State) : WRes :=
  let ch := s.chan c
  let e := ch.editCopy p
  .ok (s.setChan c { ch with edit := tset (side p) (e.1.set (s.rdN (win p (O.COEF_INDEX c))) v, e.2) ch.edit })

def writeCoefShift (p : Path) (c : Nat) (v : Int) (s : State) : WRes :=
  let ch := s.chan c
  .ok (s.setChan c { ch with edit := tset (side p) ((ch.editCopy p).1, v.toNat) ch.edit })

/-! ### The decimation reset (R88, R89) -/

/-- Is the GRAIN domain running: Run or Idle, sampling, and not in Boot, Sleep or Doze? -/
def State.grainRuns (s : State) : Bool :=
  (s.dev == .run || s.dev == .faulted) && s.fan.sampling && !s.asleep

/-- DECIM_SYNC_EDGE, issued when the edge has been synchronised: ignored under R89, and while no grains are formed (DEDUCED, log entry
91), else a reset acts at the next raw grain. -/
def State.decimEdge (s : State) : State :=
  let dead := match s.fan.sync with | some _ => true | none => false
  if s.rd (O.DECIM_SYNC_ENABLE 0) == 0 || !s.grainRuns || dead then s.sat (O.DECIM_SYNC_IGNORED 0)
  else { s with origin := { s.origin with resets := s.origin.resets ++ [s.clk.now] } }

def execDecimSyncEdge (s : State) : Host.Outcome State Fault Refusal := s.done s.decimEdge

end Sys2Proof.Machine
end

