-- ==== Sys2Proof/Machine/Lanes.lean ====
section
/-!
DEFINITION. Lanes and stripes (R418 to R424, R435 to R437): which lanes serve which group or Hedge side, training, losses, and the
marker boundaries at which stripes change.
-/

namespace Sys2Proof.Machine

def State.link (s : State) (g : Nat) : Link := tget (fun _ => {}) s.tail.links g
def State.setLink (g : Nat) (x : Link) (s : State) : State := { s with tail := { s.tail with links := tset g x s.tail.links } }
def State.modLane (l : Nat) (f : Lane → Lane) (s : State) : State := s.setLane l (f (s.lane l))

def laneNos : List Nat := List.range 26
def linkNos : List Nat := List.range 6

/-- The unit of a link (R19). -/
def linkUnit (g : Nat) : Nat := if g < 4 then 0x0A00 + g else 0x0B00 + (g - 4)

/-- A lane's number within its unit's SLICE numbering (R473), and the counter place of its invalid symbols (R467). -/
def laneSlice (l : Nat) : Nat := if l < 18 then l else (l - 18) % 4
def lanePlace (l : Nat) : Nat := 384 + l

/-- The TAIL domain runs: loop 5's gate open, not in Sleep, Off or the fallback of R262; in Boot only for the recovery of R461. -/
def State.tailRuns (s : State) : Bool :=
  !s.stopped 5 && s.gov.power != 3 && !s.gov.off && !s.fan.fallback && (s.dev != .boot || s.gov.boot == 3)

/-- The lanes in the stripe of a link, and its WIDTH (R423). -/
def State.stripe (s : State) (g : Nat) : List Nat := laneNos.filter (fun l => (s.lane l).st == 3 && (s.lane l).group == g)
def State.width (s : State) (g : Nat) : Nat := (s.stripe g).length
def State.linkActive (s : State) (g : Nat) : Bool := s.width g != 0

/-- POSITION: the rank of a lane's slot among the stripe's (R421). -/
def State.position (s : State) (l : Nat) : Nat :=
  ((s.stripe (s.lane l).group).filter (fun k => (s.lane k).slot < (s.lane l).slot)).length

/-- Usable: RX_OK at both ends (R423). -/
def Lane.usable (x : Lane) : Bool := x.on && x.rxOk && x.partner

/-- Is the lane enabled by its object (R419, R446)? -/
def State.laneEnabled (s : State) (l : Nat) : Bool :=
  if l < 18 then bit (s.rdN O.LANE_ENABLE) l else bit (s.rdN O.HEDGE_ENABLE) (if l < 22 then 0 else 1)

/-- The lanes that a link may have: its home lanes, and a pooled lane that serves it. -/
def State.members (s : State) (g : Nat) : List Nat := laneNos.filter (fun l => (s.lane l).group == g)

/-- A lane starts its training afresh (R422). -/
def Lane.train (now : Time) (x : Lane) : Lane :=
  { x with rxOk := false, partner := false, okSince := none, refused := 0, trainFrom := now }

/-- A lane keeps the time since which both ends have had RX_OK. -/
def Lane.note (now : Time) (x : Lane) : Lane :=
  { x with okSince := if x.rxOk && x.partner then some (x.okSince.getD now) else none }

/-! ### Groups that listen (R424, R435) -/

/-- The group or side is LISTENING: one record and one EMCY message at entry, none for a training after a stop of TAIL. -/
def State.listen (g : Nat) (s : State) : State :=
  let k := s.link g
  if k.listening then s
  else
    let s := s.setLink g { k with listening := true }
    if k.quiet then s else s.covered 0x1C (linkUnit g) 0xFFFF 0 0 0

/-- Every enabled lane of the link is LISTENING. -/
def State.allListen (s : State) (g : Nat) : Bool :=
  let ms := (s.members g).filter (fun l => (s.lane l).on && (s.lane l).st != 7)
  !ms.isEmpty && ms.all (fun l => (s.lane l).st == 1)

/-- The partner is taken to be absent (R435): losses of the last 10 µs retire nothing and use no spare. A spare lane that had taken
the slot of such a loss is a spare again. -/
def State.partnerAbsent (g : Nat) (s : State) : State :=
  let ms := s.members g
  let freed := ms.filterMap (fun l => (s.lane l).repl)
  let s := ms.foldl (fun s l =>
    let x := s.lane l
    if x.st == 7 || (x.st == 0 && x.lost.isNone) then s
    else if freed.contains l then
      s.setLane l { x with st := if x.rxOk then 4 else 1, group := 6, lost := none }
    else s.setLane l { x with st := if g < 4 || x.lost.isSome then 1 else x.st, lost := none, repl := none }) s
  s.listen g

/-- Spans within which losses count as one (R435). -/
def lostTogether : Nat := us 10

/-- The losses of a link not yet decided. -/
def State.losses (s : State) (g : Nat) : List Time := (s.members g).filterMap (fun l => (s.lane l).lost.map (fun e => e.1))

/-- All lanes of the link lost within 10 µs of each other. -/
def State.allLost (s : State) (g : Nat) : Bool :=
  let ts := s.losses g
  !ts.isEmpty && !s.linkActive g && ts.all (fun a => ts.all (fun b => decide (a ≤ b + lostTogether)))

/-- Both lanes of a Hedge side's pair lost within 10 µs of each other (R437). -/
def State.bothLost (s : State) (g : Nat) : Bool :=
  let ts := s.losses g
  ts.length == 2 && ts.all (fun a => ts.all (fun b => decide (a ≤ b + lostTogether)))

/-- A lane of a stripe loses lock, or its partner has reported it so twice (R422, R435): it leaves the stripe. On the Hedge the
pair's other lane leaves with it (R437). -/
def State.laneLost (l : Nat) (s : State) : State :=
  let x := s.lane l
  let g := x.group
  let s := s.setLane l { x.train s.clk.now with st := 5, lost := some (s.clk.now, s.tbIdx) }
  let s := if g < 4 then s
    else (s.stripe g).foldl (fun s k => s.modLane k (fun y => { y with st := 2 })) s
  if if g < 4 then s.allLost g else s.bothLost g then s.partnerAbsent g else s

/-- LANE_LOSS_OF_LOCK (R422): `n` invalid symbols were seen. -/
def State.laneLoss (l n : Nat) (s : State) : State :=
  let x := s.lane l
  if !s.tailRuns || !x.on || !x.rxOk then s
  else
    let s := s.bumpBy (lanePlace l) n
    let s := s.modLane l (fun y => { y with rose := y.rose || n != 0 })
    let x := s.lane l
    match x.st with
    | 3 => s.laneLost l
    | 4 => s.setLane l { x.train s.clk.now with st := 5 }
    | 6 => s.setLane l { x.train s.clk.now with st := 6 }
    | 5 => s.setLane l { x.train s.clk.now with st := 5 }
    | _ =>
      let s := s.setLane l { x.train s.clk.now with st := 0, lost := if 4 ≤ x.group && x.group < 6 && (s.losses x.group).length == 1 then some (s.clk.now, s.tbIdx) else none }
      if 4 ≤ x.group && s.bothLost x.group then s.partnerAbsent x.group else s

/-! ### What a loss comes to (R308, R435, R437) -/

/-- A spare lane that is ready: trained to the partner and idle. -/
def State.readyLane (s : State) : Option Nat := [16, 17].find? (fun l => (s.lane l).st == 4)

/-- Passes on a unit that a layering, or a failover, overtakes between ISOLATING and COMPARE are to restart (R39, R289). -/
def State.markRestart (f : Pass → Bool) (s : State) : State :=
  let mark := fun (p : Pass) => if f p && decide (2 ≤ p.stage) && decide (p.stage ≤ 6) then { p with restart := true } else p
  { s with dress := { s.dress with passes := s.dress.passes.map mark } }

/-- A ready spare takes the slot of a lost lane at this boundary; a pass on its group restarts (R39). -/
def State.coverLoss (l : Nat) (s : State) : State :=
  let x := s.lane l
  match x.lost, x.repl, s.readyLane with
  | some _, none, some k =>
    ((s.modLane k (fun y => { y with st := 3, group := x.group, slot := x.slot })).setLane l { x with repl := some k }).markRestart
      (fun p => p.unit == linkUnit x.group)
  | _, _, _ => s

/-- Once 10 µs have passed, a lost lane is retired for its spare, or its group is DEGRADED (R435). Two losses at once may take
1,000 µs (R312), one 500 µs (R308). -/
def State.decideLane (l : Nat) (s : State) : State :=
  let x := s.lane l
  match x.lost with
  | some (t, i) =>
    if s.clk.now < t + lostTogether then s
    else
      let g := x.group
      let u := linkUnit g
      let s := s.supersede u
      let intr := s.within_ (if 2 ≤ (s.losses g).length then 1000000 else 500000)
      match x.repl with
      | some _ =>
        ((s.adv.setLane l { x with st := 7, lost := none, repl := none }).countLayering true 3 u).record 0x07 u l 1 l intr i false true
      | none =>
        let s := (s.adv.setLane l { x with lost := none }).setLink g { s.link g with degraded := true }
        (s.unitDegraded u true).record 0x07 u l 2 l intr i false true
  | none => s

/-- The lanes of a side's main or spare pair. -/
def pairLanes (g : Nat) (spare : Bool) : List Nat :=
  let b := 18 + 4 * (g - 4) + (if spare then 2 else 0)
  [b, b + 1]

/-- A failed pair gives way to the ready spare pair, or puts its side out of service (R437; log entry 100). -/
def State.decidePair (g : Nat) (s : State) : State :=
  match ((s.members g).filterMap (fun l => (s.lane l).lost.map (fun e => (l, e)))).head? with
  | some (l, t, i) =>
    if s.clk.now < t + lostTogether then s
    else
      let u := linkUnit g
      let s := s.supersede u
      let k := s.link g
      let main := pairLanes g k.spareIn
      let spare := pairLanes g true
      let intr := s.within_ 500000
      let clear := fun (st : Nat) (s : State) => main.foldl (fun s m => s.modLane m (fun y => { y with st := st, lost := none })) s
      if !k.spareIn && spare.all (fun m => (s.lane m).st == 4) then
        let s := spare.foldl (fun s m => s.modLane m (fun y => { y with st := 3 })) (clear 7 s.adv)
        (((s.setLink g { k with spareIn := true }).markRestart (fun p => p.unit == u)).countLayering true 4 u).record 0x08 u (laneSlice l) 1 (laneSlice l) intr i false true
      else
        (((clear 5 s.adv).setLink g { k with out := true }).unitDegraded u true).record 0x08 u (laneSlice l) 2 (laneSlice l) intr i false true
  | none => s

/-! ### Bring-up and rejoining (R423, R435) -/

/-- A group whose training has completed: LINK_SEQ starts at 0, and held frames are resent first, flagged REPLAY (R429). -/
def Link.trained (now : Time) (k : Link) : Link :=
  let held := k.replay.zipIdx.map (fun e =>
    { e.1 with frame := { e.1.frame with seq := e.2, flags := setBit e.1.frame.flags 1 true }, first := now, last := now })
  { k with listening := false, escalating := false, nextTx := held.length, nextRx := 0, nak := false, replay := held, quiet := false }

/-- The lanes outside a stripe that may now enter one, or become a ready spare. A lane that a DEGRADED group has lost rejoins by
LANE_REJOIN instead. -/
def State.bringUp (g : Nat) (s : State) : State :=
  let k := s.link g
  let was := s.linkActive g
  let idle := fun (x : Lane) => x.st == 0 || x.st == 1 || x.st == 2
  let s :=
    if g < 4 then
      (s.members g).foldl (fun s l =>
        let x := s.lane l
        if idle x && x.usable && !(k.degraded && was) then s.setLane l { x with st := 3 } else s) s
    else
      let serve := pairLanes g k.spareIn
      if !k.out && serve.all (fun l => idle (s.lane l) && (s.lane l).usable) then
        serve.foldl (fun s l => s.modLane l (fun y => { y with st := 3 })) s
      else s
  if !was && s.linkActive g then s.setLink g (k.trained s.clk.now) else s

/-- Spare lanes and pairs that have trained are ready (R302). -/
def State.readySpares (s : State) : State :=
  let idle := fun (x : Lane) => (x.st ≤ 2 || x.st == 5) && x.usable
  let s := [16, 17].foldl (fun s l => if idle (s.lane l) && (s.lane l).group == 6 then s.modLane l (fun y => { y with st := 4 }) else s) s
  [4, 5].foldl (fun s g =>
    let ls := pairLanes g true
    if !(s.link g).spareIn && ls.all (fun l => idle (s.lane l) || ((s.lane l).st == 4 && (s.lane l).usable)) then
      ls.foldl (fun s l => s.modLane l (fun y => { y with st := 4 })) s
    else s) s

/-- LANE_ENABLE and HEDGE_ENABLE as written take effect (R419). -/
def State.powerLanes (s : State) : State :=
  laneNos.foldl (fun s l =>
    let x := s.lane l
    let e := s.laneEnabled l
    if x.on == e then s
    else if e then s.setLane l { x.train s.clk.now with on := true, st := if x.st == 7 then 7 else 0 }
    else s.setLane l { x.train s.clk.now with on := false, st := if x.st == 7 then 7 else 0, lost := none, repl := none }) s

/-- MARKER_BOUNDARY (R420), every 4,096 symbols of 0.4 ns each (1.6384 us): `inv` gives the invalid symbols of each lane since the last one. -/
def State.markerBoundary (inv : List (Nat × Nat)) (s : State) : State :=
  if !s.tailRuns || !s.due s.tail.markerAt then s
  else
    let t := s.tail
    let s := { s with tail := { t with markers := (t.markers + 1) % 65536, markerAt := s.clk.now + 131072 } }
    let s := inv.foldl (fun s e =>
      if e.2 == 0 || 26 ≤ e.1 then s else (s.bumpBy (lanePlace e.1) e.2).modLane e.1 (fun y => { y with rose := true })) s
    let s := s.powerLanes
    let s := (List.range 18).foldl (fun s l => s.coverLoss l) s
    let s := (List.range 18).foldl (fun s l => s.decideLane l) s
    let s := [4, 5].foldl (fun s g => s.decidePair g) s
    (linkNos.foldl (fun s g => s.bringUp g) s).readySpares

/-- MARKER_RECEIVED (R421, R423, R435): eight symbols; a bad CHECK leaves the previous map. -/
def crc8Bit (c : Nat) : Nat := if c ≥ 128 then (c * 2 % 256) ^^^ 7 else c * 2
def crc8 (bs : List Nat) : Nat :=
  bs.foldl (fun c b => crc8Bit (crc8Bit (crc8Bit (crc8Bit (crc8Bit (crc8Bit (crc8Bit (crc8Bit (c ^^^ b % 256))))))))) 0

def State.markerReceived (l : Nat) (m : List Nat) (s : State) : State :=
  let x := s.lane l
  if !s.tailRuns || !x.on || x.st == 7 || crc8 ((m.drop 1).take 6) != (m[7]?).getD 256 then s
  else
    let ok := bit ((m[5]?).getD 0) 0
    let x := { x with partner := ok, map := (m[2]?).getD 0, refused := if ok then 0 else x.refused + 1 }
    let s := s.setLane l (x.note s.clk.now)
    if x.st == 3 && 2 ≤ x.refused then s.laneLost l else s

/-- SYMBOL_LOCK (R422): symbol lock, and deskew within 128 symbols of the group's other locked lanes; `skew` in symbols. -/
def State.symbolLock (l skew : Nat) (s : State) : State :=
  let x := s.lane l
  if !s.tailRuns || !x.on || x.st == 7 || x.rxOk || 128 < skew then s
  else
    let x := { x with rxOk := true, st := if x.st ≤ 1 then 2 else x.st }
    s.setLane l (x.note s.clk.now)

/-- LANE_LOCK_TIMEOUT (R424): 10 ms without symbol lock. -/
def State.lockTimeout (l : Nat) (s : State) : State :=
  let x := s.lane l
  if !s.tailRuns || !x.on || x.rxOk || x.st == 7 || x.st == 6 || !s.due (x.trainFrom + ms 10) then s
  else
    let s := (s.sat O.LISTEN_RETRIES).bump 417
    let s := s.setLane l { x with trainFrom := s.clk.now, st := if x.lost.isSome then x.st else 1 }
    if x.group < 6 && s.allListen x.group then s.listen x.group else s

/-- LANE_REJOIN (R435, R437): RX_OK held on both ends for 1 ms. -/
def State.laneRejoin (l : Nat) (s : State) : State :=
  let x := s.lane l
  let g := x.group
  let k := s.link g
  let held := fun (y : Lane) => match y.okSince with | some t => s.due (t + ms 1) && y.usable | none => false
  if !s.tailRuns || !held x || x.lost.isSome then s
  else if l < 18 && g < 4 then
    if k.degraded && (x.st == 1 || x.st == 2 || x.st == 5) then
      let was := s.linkActive g
      let s := s.setLane l { x with st := 3 }
      let s := if was then s else s.setLink g (k.trained s.clk.now)
      let whole := (s.members g).all (fun m => (s.lane m).st == 3 || (s.lane m).st == 7 || (s.lane m).st == 6 || !(s.lane m).on)
      let s := if whole then (s.setLink g { s.link g with degraded := false }).unitDegraded (linkUnit g) false else s
      s.covered 0x07 (linkUnit g) l 3 l 0
    else s
  else if 18 ≤ l && k.out then
    let pair := pairLanes g k.spareIn
    if pair.all (fun m => held (s.lane m)) then
      let s := pair.foldl (fun s m => s.modLane m (fun y => { y with st := 3 })) s
      let s := (s.setLink g { k.trained s.clk.now with out := false }).unitDegraded (linkUnit g) false
      s.covered 0x08 (linkUnit g) (laneSlice l) 3 (laneSlice l) 0
    else s
  else s

/-- Every lane loses lock at the partner and trains again: the TAIL domain stops, or sleeps (R339, R436), or a link escalates
(R429). `quiet`: without the record and EMCY of R424. -/
def State.retrain (gs : List Nat) (quiet : Bool) (s : State) : State :=
  let s := laneNos.foldl (fun s l =>
    let x := s.lane l
    let mine := gs.contains x.group || (x.group == 6 && quiet)
    if !mine || x.st == 7 || !x.on then s
    else s.setLane l { x.train s.clk.now with st := if x.st == 6 then 6 else 1, lost := none, repl := none }) s
  gs.foldl (fun s g => s.setLink g { s.link g with quiet := quiet || (s.link g).quiet }) s

end Sys2Proof.Machine
end

