-- ==== Sys2Proof/Machine/Real.lean ====
section
/-!
DEFINITION. Binary64 arithmetic, each operation rounded to nearest, ties to even (R216: "the module computes in binary64"), and
the REAL32 and REAL64 patterns of R401. Overflow and subnormals do not arise from this part's volts and seconds: a result below
the normal range reads as zero.
-/

namespace Sys2Proof.Machine

/-- n / d x 2^e rounded to 53 bits. -/
def F64.rnd (n : Int) (d : Nat) (e : Int) : F64 :=
  if n = 0 ∨ d = 0 then {}
  else
    let a := n.natAbs
    let s : Int := 57 + (Nat.log2 d : Int) - (Nat.log2 a : Int)
    let num := if 0 ≤ s then a * 2 ^ s.toNat else a
    let den := if 0 ≤ s then d else d * 2 ^ (-s).toNat
    let q : Nat := 2 * (num / den) + (if num % den = 0 then 0 else 1)
    let k := Nat.log2 q - 52
    let m := q / 2 ^ k
    let r := q % 2 ^ k
    let m := if r > 2 ^ (k - 1) ∨ (r = 2 ^ (k - 1) ∧ m % 2 = 1) then m + 1 else m
    let (m, k) := if m = 2 ^ 53 then (2 ^ 52, k + 1) else (m, k)
    { m := if n < 0 then -(m : Int) else m, e := e - s - 1 + k }

def F64.ofInt (n : Int) : F64 := F64.rnd n 1 0
def F64.ofNat' (n : Nat) : F64 := F64.rnd n 1 0

def F64.neg (a : F64) : F64 := { a with m := -a.m }

def F64.add (a b : F64) : F64 :=
  if a.m = 0 then b else if b.m = 0 then a
  else
    let e := min a.e b.e
    F64.rnd (a.m * 2 ^ (a.e - e).toNat + b.m * 2 ^ (b.e - e).toNat) 1 e

def F64.sub (a b : F64) : F64 := a.add b.neg
def F64.mul (a b : F64) : F64 := F64.rnd (a.m * b.m) 1 (a.e + b.e)
def F64.div (a b : F64) : F64 := F64.rnd (if b.m < 0 then -a.m else a.m) b.m.natAbs (a.e - b.e)

/-- a x 2^k, exact. -/
def F64.scale (a : F64) (k : Int) : F64 := if a.m = 0 then a else { a with e := a.e + k }

def F64.lt (a b : F64) : Bool :=
  let e := min a.e b.e
  decide (a.m * 2 ^ (a.e - e).toNat < b.m * 2 ^ (b.e - e).toNat)
def F64.le (a b : F64) : Bool := !b.lt a
def F64.larger (a b : F64) : F64 := if a.lt b then b else a
def F64.smaller (a b : F64) : F64 := if b.lt a then b else a
def F64.abs (a : F64) : F64 := { a with m := a.m.natAbs }

/-- floor. -/
def F64.floor (a : F64) : Int := if 0 ≤ a.e then a.m * 2 ^ a.e.toNat else a.m / (2 ^ (-a.e).toNat : Nat)

/-- Nearest integer, ties away from zero. -/
def F64.round (a : F64) : Int :=
  let h := (a.abs.add { m := 2 ^ 52, e := -53 }).floor
  if a.m < 0 then -h else h

/-- Integer square root from bit `k` down. -/
def isqrt (n : Nat) : Nat → Nat → Nat
  | 0, r => r
  | k + 1, r => isqrt n k (if (r + 2 ^ k) * (r + 2 ^ k) ≤ n then r + 2 ^ k else r)

def F64.sqrt (a : F64) : F64 :=
  if a.m ≤ 0 then {}
  else
    let s : Int := 68 + (if a.e % 2 = 0 then 0 else 1)
    let n := a.m.natAbs * 2 ^ s.toNat
    let r := isqrt n 62 0
    F64.rnd (2 * r + (if r * r = n then 0 else 1) : Nat) 1 ((a.e - s) / 2 - 1)

/-- Sum, mean and root mean square of a list. -/
def fsum (l : List F64) : F64 := l.foldl F64.add {}
def fmean (l : List F64) : F64 := (fsum l).div (F64.ofNat' l.length)
def frms (l : List F64) : F64 := ((fsum (l.map (fun x => x.mul x))).div (F64.ofNat' l.length)).sqrt

/-- Population standard deviation. -/
def fstd (l : List F64) : F64 := let m := fmean l; frms (l.map (fun x => x.sub m))

/-- REAL64 pattern. -/
def F64.bits (a : F64) : Nat :=
  if a.m = 0 then 0
  else
    let x : Int := a.e + 52 + 1023
    if x ≤ 0 then 0
    else (if a.m < 0 then 2 ^ 63 else 0) + min x.toNat 2046 * 2 ^ 52 + (a.m.natAbs - 2 ^ 52)

/-- Value of a REAL32 pattern (finite). -/
def F64.ofR32 (w : Nat) : F64 :=
  let x : Nat := w / 2 ^ 23 % 256
  let f : Nat := w % 2 ^ 23
  let m : Int := if x = 0 then f else f + 2 ^ 23
  F64.rnd (if w / 2 ^ 31 % 2 = 1 then -m else m) 1 ((if x = 0 then 1 else x : Int) - 150)

/-- REAL32 pattern of a value, rounded to nearest even. -/
def F64.r32 (a : F64) : Nat :=
  if a.m = 0 then 0
  else
    let b := a.m.natAbs
    let q := b / 2 ^ 29
    let r := b % 2 ^ 29
    let q := if r > 2 ^ 28 ∨ (r = 2 ^ 28 ∧ q % 2 = 1) then q + 1 else q
    let (q, k) : Nat × Int := if q = 2 ^ 24 then (2 ^ 23, 1) else (q, 0)
    let x : Int := a.e + 52 + k + 127
    if x ≤ 0 then 0 else (if a.m < 0 then 2 ^ 31 else 0) + min x.toNat 254 * 2 ^ 23 + (q - 2 ^ 23)

/-! ### Ranges (R41, R205) -/

/-- Full scale of a range in microvolts (R41). -/
def fullScale (range : Nat) : Nat :=
  match range with
  | 0 => 100000
  | 1 => 160000
  | 2 => 250000
  | 3 => 400000
  | 4 => 630000
  | _ => 1000000

/-- LSB in volts. -/
def lsbOf (range : Nat) : F64 := F64.rnd (fullScale range) (1022 * 1000000) 0

/-- Volts of a value `v` in 1/64 LSB under a range and offset (R76, R205). -/
def voltsOf (range : Nat) (offset v : Int) : F64 :=
  F64.rnd (offset * 50 * 65408 + v * fullScale range) (65408 * 1000000) 0

end Sys2Proof.Machine
end

