-- ==== Sys2Proof/Machine/Meas.lean ====
section
/-!
DEFINITION. Measurements (R205 to R214) as functions of an instance's samples. Instants are in samples from the span start;
every time result is a difference, converted at 12.5 ps per sample.
-/

namespace Sys2Proof.Machine

/-- Reasons of R214. -/
def noEdges : Nat := 1
def noClock : Nat := 2
def noPlane : Nat := 3
def tooShort : Nat := 5
def noAmplitude : Nat := 6
def wrongKind : Nat := 8

/-- Seconds of a number of samples. -/
def secs (x : F64) : F64 := x.div (F64.ofNat' 80000000000)

/-- k % of a value. -/
def pct (k : Nat) (x : F64) : F64 := (x.mul (F64.ofNat' k)).div (F64.ofNat' 100)
def permille (k : Nat) (x : F64) : F64 := (x.mul (F64.ofNat' k)).div (F64.ofNat' 1000)

/-- A channel's samples as instants and values. -/
abbrev Wave := List (F64 × F64)

/-- TOP and BASE with the extremes (R208). -/
structure Levels where
  top : F64
  base : F64
  max_ : F64
  min_ : F64
  amp : F64
  deriving DecidableEq, Repr

/-- Samples in a bin, of 1,024 from `lo` to `hi`. -/
def binOf (lo hi y : F64) : Nat :=
  min 1023 ((((y.sub lo).mul (F64.ofNat' 1024)).div (hi.sub lo)).floor).toNat

/-- The best bin among `ks`, the first on ties. -/
def bestBin (cnt : Tbl Nat) (ks : List Nat) : Nat × Nat :=
  ks.foldl (fun b k => let n := tget (fun _ => 0) cnt k; if b.2 < n then (k, n) else b) (ks.headD 0, tget (fun _ => 0) cnt (ks.headD 0))

/-- TOP and BASE (R208). `ys` is not empty. -/
def levelsOf (p : ParamSet) (lows highs : List F64) : Levels :=
  let mx := highs.foldl F64.larger (highs.headD {})
  let mn := lows.foldl F64.smaller (lows.headD {})
  if p.method == 1 || !mn.lt mx then { top := mx, base := mn, max_ := mx, min_ := mn, amp := mx.sub mn }
  else
    let bs := lows.map (fun y => (binOf mn mx y, y))
    let cnt : Tbl Nat := bs.foldl (fun t b => tset b.1 (tget (fun _ => 0) t b.1 + 1) t) []
    let level := fun (b : Nat × Nat) (fall : F64) =>
      if p.histMin * lows.length ≤ b.2 * 1000 then fmean ((bs.filter (fun x => x.1 == b.1)).map (fun x => x.2)) else fall
    let top := level (bestBin cnt ((List.range 512).map (fun i => 1023 - i))) mx
    let base := level (bestBin cnt (List.range 512)) mn
    { top := top, base := base, max_ := mx, min_ := mn, amp := top.sub base }

/-- An edge (R209). -/
structure Edge where
  t : F64
  rising : Bool
  deriving DecidableEq, Repr

/-- The crossing of level l between two samples (R209). -/
def crossing (l : F64) (a b : F64 × F64) : F64 :=
  a.1.add (((l.sub a.2).div (b.2.sub a.2)).mul (b.1.sub a.1))

/-- Crossings of a level in one direction, in time order. -/
def crossings (up : Bool) (l : F64) : Wave → List F64
  | a :: b :: r =>
    let hit := if up then a.2.lt l && l.le b.2 else l.lt a.2 && b.2.le l
    if hit then crossing l a b :: crossings up l (b :: r) else crossings up l (b :: r)
  | _ => []

/-- Edge search (R209): state known, latest crossings of M, the sample before. -/
structure EdgeSt where
  high : Option Bool := none
  up : Option F64 := none
  down : Option F64 := none
  prev : Option (F64 × F64) := none
  out : List Edge := []

def edgeStep (m h : F64) (s : EdgeSt) (x : F64 × F64) : EdgeSt :=
  let s := match s.prev with
    | some a =>
      if a.2.lt m && m.le x.2 then { s with up := some (crossing m a x) }
      else if m.lt a.2 && x.2.le m then { s with down := some (crossing m a x) } else s
    | none => s
  let lo := x.2.le (m.sub h)
  let hi := (m.add h).le x.2
  let now := if lo && hi then s.high else if lo then some false else if hi then some true else s.high
  let out := match s.high, now with
    | some false, some true => { t := s.up.getD x.1, rising := true } :: s.out
    | some true, some false => { t := s.down.getD x.1, rising := false } :: s.out
    | _, _ => s.out
  { s with high := now, prev := some x, out := out }

/-- The edges of a channel, in time order. -/
def edgesOf (m h : F64) (w : Wave) : List Edge := (w.foldl (edgeStep m h) {}).out.reverse

/-- Differences of successive members. -/
def diffs : List F64 → List F64
  | a :: b :: r => b.sub a :: diffs (b :: r)
  | _ => []

/-- Widths (R210): an edge of the first sense with the next edge, which is of the other. -/
def widths (rising : Bool) : List Edge → List F64
  | a :: b :: r => if a.rising == rising then b.t.sub a.t :: widths rising (b :: r) else widths rising (b :: r)
  | _ => []

/-- Duty elements (R210). -/
def duties : List Edge → List F64
  | a :: b :: c :: r =>
    if a.rising then (((b.t.sub a.t).mul (F64.ofNat' 100)).div (c.t.sub a.t)) :: duties (b :: c :: r) else duties (b :: c :: r)
  | _ => []

/-- Transition times of the edges of one sense between two levels (R210). -/
def slopes (rising : Bool) (first last_ : List F64) (es : List Edge) : List F64 :=
  (List.range es.length).filterMap (fun i =>
    match es[i]? with
    | none => none
    | some e =>
      if e.rising != rising then none
      else
        let before := if i == 0 then none else (es[i - 1]?).map (fun x => x.t)
        let after := (es[i + 1]?).map (fun x => x.t)
        let a := (first.filter (fun t => t.le e.t && (match before with | some b => b.lt t | none => true))).getLast?
        let b := last_.find? (fun t => e.t.le t && (match after with | some x => t.lt x | none => true))
        match a, b with
        | some a, some b => some (b.sub a)
        | _, _ => none)

/-- Two-channel elements (R211): SKEW, DELAY, PHASE. -/
def skews (ps ss : List F64) : List F64 :=
  ps.filterMap (fun x =>
    match ss with
    | [] => none
    | a :: r => some ((r.foldl (fun b y => if ((y.sub x).abs).lt ((b.sub x).abs) then y else b) a).sub x))

def delays : List F64 → List F64 → List (F64 × Option F64)
  | [], _ => []
  | x :: r, ss =>
    let next := r.head?
    match ss.find? (fun y => x.le y && (match next with | some z => y.lt z | none => true)) with
    | some y => (y.sub x, next.map (fun z => z.sub x)) :: delays r ss
    | none => delays r ss

def phases (ds : List (F64 × Option F64)) : List F64 :=
  ds.filterMap (fun d => d.2.map (fun p => ((d.1.mul (F64.ofNat' 360)).div p)))

/-! ### Clock recovery (R212, R239) -/

/-- One iteration's reach: samples with q ≤ τ < p, under clock c and interval t, and whether it is past CR_SETTLE. -/
structure ClkSeg where
  q : F64
  p : F64
  c : F64
  t : F64
  settled : Bool

/-- What the loop emits. -/
structure ClkOut where
  ties : List (F64 × F64) := []
  centres : List F64 := []
  ts : List F64 := []
  segs : List ClkSeg := []

/-- The loop of R212 from iteration i on. -/
def clockLoop (cr : CrSet) (ui : F64) : Nat → F64 → F64 → F64 → List F64 → ClkOut → ClkOut
  | _, _, _, _, [], o => o
  | i, q, t, c, x :: r, o =>
    let k := max 1 ((x.sub c).div t).round
    let on := decide (cr.settle < i)
    let p := c.add ((F64.ofInt k).mul t)
    let e := x.sub p
    let o := { o with
      segs := o.segs ++ [{ q := q, p := p, c := c, t := t, settled := on }],
      centres := if on then o.centres ++ (List.range k.toNat).map (fun j => c.add ((F64.rnd (2 * (j : Nat) + 1) 2 0).mul t)) else o.centres,
      ties := if on then o.ties ++ [(e, p)] else o.ties,
      ts := if on then o.ts ++ [t] else o.ts }
    let t' := if cr.order == 2 then t.add (e.scale (-(cr.k2 : Int))) else t
    if t'.lt ((ui.mul (F64.ofNat' 95)).div (F64.ofNat' 100)) || ((ui.mul (F64.ofNat' 105)).div (F64.ofNat' 100)).lt t' then o
    else clockLoop cr ui (i + 1) p t' (p.add (e.scale (-(cr.k1 : Int)))) r o

/-- The recovered clock of transitions. -/
def recover (cr : CrSet) : List F64 → ClkOut
  | [] => {}
  | x :: r => let ui := F64.rnd cr.ui 65536 0; clockLoop cr ui 1 x ui x r {}

/-- The value at an instant, between the samples that bracket it. -/
def interp (t : F64) : Wave → Option F64
  | a :: b :: r =>
    if a.1.le t && t.le b.1 then some (a.2.add (((t.sub a.1).div (b.1.sub a.1)).mul (b.2.sub a.2))) else interp t (b :: r)
  | _ => none

/-! ### One channel of an instance -/

/-- A channel's samples, levels, edges (R208, R209) and largest LSB. -/
structure ChanMeas where
  wave : Wave
  lv : Levels
  mid : F64
  edges : List Edge
  ok : Bool

def chanMeas (p : ParamSet) (half : Bool) (start : Int) (smps : List Smp) (lsb : F64) : ChanMeas :=
  let at_ := fun (r : Int) => let t := F64.ofInt (r - start); if half then t.add (F64.rnd 63 2 0) else t
  let wave := smps.map (fun x => (at_ x.r, x.lo))
  let lv := levelsOf p (smps.map (fun x => x.lo)) (smps.map (fun x => x.hi))
  let mid := if p.midMode == 1 then F64.ofR32 p.midAbs else lv.base.add (permille p.midPct lv.amp)
  let ok := (lsb.mul (F64.ofNat' 4)).lt lv.amp
  { wave := wave, lv := lv, mid := mid, ok := ok, edges := if ok then edgesOf mid (permille p.hyst lv.amp) wave else [] }

/-- Elements of an edge measurement of one channel. -/
def edgeElems (c : ChanMeas) (m : Nat) : List F64 :=
  let l := fun k => c.lv.base.add (pct k c.lv.amp)
  let rises := (c.edges.filter (fun e => e.rising)).map (fun e => e.t)
  match m with
  | 10 => (diffs rises).map secs
  | 11 => (diffs rises).map (fun x => (F64.ofNat' 1).div (secs x))
  | 12 => (slopes true (crossings true (l 10) c.wave) (crossings true (l 90) c.wave) c.edges).map secs
  | 13 => (slopes false (crossings false (l 90) c.wave) (crossings false (l 10) c.wave) c.edges).map secs
  | 14 => (slopes true (crossings true (l 20) c.wave) (crossings true (l 80) c.wave) c.edges).map secs
  | 15 => (slopes false (crossings false (l 80) c.wave) (crossings false (l 20) c.wave) c.edges).map secs
  | 16 => (widths true c.edges).map secs
  | 17 => (widths false c.edges).map secs
  | 18 => duties c.edges
  | _ => []

/-- Outcome of one measurement: the values it admits under UNIT `elem`, or a reason. -/
abbrev MeasOut := Except Nat (List F64)

/-- From elements: none is NO_EDGES; the instance value is `f` of them. -/
def fromElems (elem : Bool) (none_ : Nat) (f : List F64 → F64) (es : List F64) : MeasOut :=
  if es.isEmpty then .error none_ else .ok (if elem then es else [f es])

/-- The transitions that a clock-recovery set uses (R212). -/
def transitions (cr : CrSet) (c : ChanMeas) : List F64 :=
  ((if cr.edges == 1 then c.edges else c.edges.filter (fun e => e.rising)).map (fun e => e.t))

/-- Eye measurements (R213). -/
def eyeOf (m : Nat) (c : ChanMeas) (k : ClkOut) : MeasOut :=
  let vs := k.centres.filterMap (fun t => interp t c.wave)
  let up := vs.filter (fun v => c.mid.le v)
  let lo := vs.filter (fun v => v.lt c.mid)
  if up.length < 2 || lo.length < 2 then .error tooShort
  else
    let three := F64.ofNat' 3
    match m with
    | 26 => .ok [((fmean up).sub (three.mul (fstd up))).sub ((fmean lo).add (three.mul (fstd lo)))]
    | 27 => .ok [secs ((fmean k.ts).sub ((F64.ofNat' 6).mul (fstd (k.ties.map (fun e => e.1)))))]
    | _ =>
      let vx := fmean (k.ties.filterMap (fun e => interp e.2 c.wave))
      .ok [((vx.sub (fmean lo)).mul (F64.ofNat' 100)).div ((fmean up).sub (fmean lo))]

/-- One measurement (R207 to R214). `minmax`, `minmax2`: the primary and the secondary
record are MINMAX; `hits` is the MASK_HITS value, if the plane is of kind MASK. -/
def measure (elem minmax minmax2 : Bool) (p : ParamSet) (cr : Option CrSet) (a : ChanMeas) (b : Option ChanMeas) (hits : Option Nat) (m : Nat) :
    MeasOut :=
  let n := a.wave.length
  let ys := a.wave.map (fun x => x.2)
  let ampOk := a.ok && (match b with | some c => !(20 ≤ m && m ≤ 22) || c.ok | none => true)
  let needsAmp := m == 8 || m == 9 || (10 ≤ m && m != 19)
  let periods := diffs ((a.edges.filter (fun e => e.rising)).map (fun e => e.t))
  let clk := match cr with | some r => recover r (transitions r a) | none => {}
  let sense := fun (c : ChanMeas) => (c.edges.filter (fun e => e.rising == (p.sense == 0))).map (fun e => e.t)
  let two := 20 ≤ m && m ≤ 22
  let short := n == 0 || (10 ≤ m && n < 2) || (two && (match b with | some c => decide (c.wave.length < 2) | none => false))
  if (minmax && m != 3 && m != 4) || (minmax2 && two) then .error wrongKind
  else if short && m != 19 then .error tooShort
  else if m == 29 && hits.isNone then .error noPlane
  else if needsAmp && !ampOk then .error noAmplitude
  else if 23 ≤ m && clk.ties.isEmpty then .error noClock
  else
    match m with
    | 0 => .ok [a.lv.top]
    | 1 => .ok [a.lv.base]
    | 2 => .ok [a.lv.amp]
    | 3 => .ok [a.lv.max_]
    | 4 => .ok [a.lv.min_]
    | 5 => .ok [fmean ys]
    | 6 => .ok [frms ys]
    | 7 => .ok [fstd ys]
    | 8 => .ok [((a.lv.max_.sub a.lv.top).mul (F64.ofNat' 100)).div a.lv.amp]
    | 9 => .ok [((a.lv.base.sub a.lv.min_).mul (F64.ofNat' 100)).div a.lv.amp]
    | 11 => fromElems elem noEdges (fun _ => (F64.ofNat' 1).div (fmean (edgeElems a 10))) (edgeElems a 11)
    | 19 => .ok [F64.ofNat' a.edges.length]
    | 20 => fromElems elem noEdges fmean ((skews (sense a) ((b.map sense).getD [])).map secs)
    | 21 => fromElems elem noEdges fmean (phases (delays (sense a) ((b.map sense).getD [])))
    | 22 => fromElems elem noEdges fmean ((delays (sense a) ((b.map sense).getD [])).map (fun d => secs d.1))
    | 23 => fromElems elem noClock frms (clk.ties.map (fun e => secs e.1))
    | 24 => if periods.length < 2 then .error tooShort
            else let pm := fmean periods; fromElems elem tooShort frms (periods.map (fun x => secs (x.sub pm)))
    | 25 => fromElems elem tooShort frms ((diffs periods).map secs)
    | 26 | 27 | 28 => eyeOf m a clk
    | 29 => .ok [F64.ofNat' (hits.getD 0)]
    | _ => fromElems elem noEdges fmean (edgeElems a m)

/-! ### Statistics (R216) -/

/-- Admit one value; `nmax` 0: no block limit. -/
def Rec.admitValue (nmax : Nat) (r : Rec) (y : F64) : Rec :=
  if r.count = 0 ∨ (nmax ≠ 0 ∧ r.count = nmax) then
    { r with count := 1, mean := y, m2 := {}, min_ := y, max_ := y, last := y, std := {} }
  else
    let n := r.count + 1
    let d := y.sub r.mean
    let mean := r.mean.add (d.div (F64.ofNat' n))
    let m2 := r.m2.add (d.mul (y.sub mean))
    { r with count := n, mean := mean, m2 := m2, min_ := r.min_.smaller y, max_ := r.max_.larger y, last := y, std := (m2.div (F64.ofNat' n)).sqrt }

/-! ### Placing samples on a plane (R236 to R241) -/

/-- Row of a value (R237). -/
def PlaneCfg.row (c : PlaneCfg) (y : F64) : Int :=
  let lo := F64.ofR32 c.lo
  (((y.sub lo).mul (F64.ofNat' 512)).div ((F64.ofR32 c.hi).sub lo)).floor

/-- What placing adds: bins (one entry a point), samples outside and unlocked, hits. -/
structure Placed where
  bins : List Nat := []
  outside : Nat := 0
  unlocked : Nat := 0
  hits : Nat := 0
  /-- The instance contributes nothing but its unlocked samples (R236). -/
  nothing : Bool := false

/-- Place a sample with the given columns, or count it outside. -/
def Placed.put (c : PlaneCfg) (mask : List Nat) (y : F64) (cols : List Int) (p : Placed) : Placed :=
  let r := c.row y
  if r < 0 || 511 < r || cols.any (fun x => decide (x < 0) || decide (511 < x)) then { p with outside := p.outside + 1 }
  else
    let bs := cols.map (fun x => (512 * r + x).toNat)
    { p with bins := p.bins ++ bs, hits := p.hits + b2n (bs.any (fun b => mask.contains b)) }

/-- A persistence plane (R238): `w` is the width in samples. -/
def placeTime (c : PlaneCfg) (minmax half : Bool) (start : Int) (len : Nat) (smps : List Smp) : Placed :=
  let w := if c.width == 0 then len else c.width
  smps.foldl (fun p x =>
    let t := let t := F64.ofInt (x.r - start); if half then t.add (F64.rnd 63 2 0) else t
    let col := ((t.mul (F64.ofNat' 512)).div (F64.ofNat' w)).floor
    if minmax then
      -- one sample, two points: it is outside when either value is, counted once (R237)
      if [x.lo, x.hi].any (fun y => decide (c.row y < 0) || decide (511 < c.row y)) then { p with outside := p.outside + 1 }
      else (p.put c [] x.lo [col]).put c [] x.hi [col] |> fun q => { q with outside := min q.outside (p.outside + 1) }
    else p.put c [] x.lo [col]) {}

/-- Columns of a phase (R239). -/
def eyeCols (uis : Nat) (u : F64) : List Int :=
  if uis == 1 then [((u.add (F64.rnd 1 2 0)).mul (F64.ofNat' 512)).floor]
  else
    let one := F64.ofNat' 1
    let x2 := if u.m < 0 then u.add one else u.sub one
    [u, x2].map (fun x => ((x.add one).mul (F64.ofNat' 256)).floor)

/-- An eye or mask plane (R239, R241). -/
def placeEye (c : PlaneCfg) (mask : List Nat) (k : ClkOut) (w : Wave) : Placed :=
  w.foldl (fun p x =>
    match k.segs.find? (fun g => g.q.le x.1 && x.1.lt g.p) with
    | some g =>
      if g.settled then
        let v := (x.1.sub g.c).div g.t
        let u := (v.sub (F64.ofInt v.floor)).sub (F64.rnd 1 2 0)
        p.put c mask x.2 (eyeCols c.uis u)
      else { p with unlocked := p.unlocked + 1 }
    | none => { p with unlocked := p.unlocked + 1 }) {}

/-! ### Masks (R240) -/

/-- A vertex in units of 2^-20 UI and microvolts (R253). -/
def vertexOf (v : Nat) : Int × Int := (wrapS 32 (v / 2 ^ 32), wrapS 32 (v % 2 ^ 32))

/-- The polygon's sides. -/
def sidesOf (vs : List (Int × Int)) : List ((Int × Int) × (Int × Int)) :=
  match vs with
  | [] => []
  | a :: r => vs.zip (r ++ [a])

/-- Is a point (scaled by `kx`, `ky` as the vertices are) inside under the even-odd rule, edges included? -/
def insideMask (sides : List ((Int × Int) × (Int × Int))) (x y : Int) : Bool :=
  let cross := fun (s : (Int × Int) × (Int × Int)) => (s.2.1 - s.1.1) * (y - s.1.2) - (s.2.2 - s.1.2) * (x - s.1.1)
  let on := fun (s : (Int × Int) × (Int × Int)) =>
    cross s == 0 && decide (min s.1.1 s.2.1 ≤ x) && decide (x ≤ max s.1.1 s.2.1) && decide (min s.1.2 s.2.2 ≤ y) && decide (y ≤ max s.1.2 s.2.2)
  let ray := fun (s : (Int × Int) × (Int × Int)) =>
    decide (s.1.2 > y) != decide (s.2.2 > y) && (if s.2.2 > s.1.2 then decide (cross s > 0) else decide (cross s < 0))
  sides.any on || (sides.filter ray).length % 2 == 1

/-- A REAL32 pattern exactly, in units of 2^-149 V. -/
def r32Units (w : Nat) : Int :=
  let x : Nat := w / 2 ^ 23 % 256
  let f : Nat := w % 2 ^ 23
  let m : Int := if x = 0 then f else ((f + 2 ^ 23) * 2 ^ (x - 1) : Nat)
  if w / 2 ^ 31 % 2 = 1 then -m else m

/-- The mask bins of a plane: bin centres inside the polygon. Exact: x in 2^-20/1024 UI, y in 2^-149/1024 uV. -/
def PlaneCfg.maskBins (c : PlaneCfg) : List Nat :=
  let vs := (List.range c.nv).map (fun i => vertexOf (tget (fun _ => 0) c.verts i))
  let sides := sidesOf (vs.map (fun v => (v.1 * 1024, v.2 * 1024 * (2 ^ 149 : Nat))))
  let lo := r32Units c.lo * 1000000
  let hi := r32Units c.hi * 1000000
  (List.range 512).flatMap (fun (r : Nat) =>
    let y := lo * 1024 + (2 * (r : Int) + 1) * (hi - lo)
    (List.range 512).filterMap (fun (col : Nat) =>
      let x := ((2 * (col : Int) + 1) * c.uis - 512 * c.uis) * (2 ^ 20 : Nat)
      if insideMask sides x y then some (512 * r + col) else none))

end Sys2Proof.Machine
end

