-- ==== Sys2Proof/Machine/Flags.lean ====
section
/-!
DEFINITION. The flag word of a grain (R52): the block has no processor's flags; the bits of its status objects are computed where
each object is read (MirrorsA to MirrorsC), and the error register in Ops.
-/

namespace Sys2Proof.Machine

/-- The flag word (R52). -/
def Flags.word (f : Flags) : Nat :=
  at_ f.valid 0 + at_ f.settling 1 + at_ f.stale 2 + at_ f.overR 3 + at_ f.layer 4 + at_ f.gap 5 + at_ f.decim 6 + at_ f.trig 7
    + at_ f.segStart 8 + at_ f.segEnd 9 + at_ f.unref 10

end Sys2Proof.Machine
end

