-- ==== Sys2Proof/Machine/Frontend.lean ====
section
/-!
DEFINITION. Channels (chapter 02): range and offset changes (R63 to R66), enabling (R67, R68), FE_STATUS (R70), forming a raw
grain (R43 to R49, R55 to R58, R309), and the bytes of a grain (R50 to R54).
-/

namespace Sys2Proof.Machine

/-! ### A grain's 96 bytes (R50 to R54) -/

/-- The descriptor (R53). -/
def Grain.descriptor (g : Grain) : Nat := g.phase + g.ch * 2 ^ 11 + g.kind * 2 ^ 13

/-- The payload as a 640-bit number (R51): 10 bits a code, 16 bits a filtered value or bound of a pair. -/
def Grain.payload (g : Grain) : Nat :=
  let w := if g.kind ≤ 1 then 10 else 16
  g.vals.foldr (fun v acc => wrapU w v + 2 ^ w * acc) 0

/-- Bytes 0 to 91. -/
def Grain.body (g : Grain) : List Nat :=
  leBytes 80 g.payload ++ leBytes 8 (wrapU 64 g.index) ++ leBytes 2 g.flags.word ++ leBytes 2 g.descriptor

/-- All 96 bytes, the CRC last (R54). -/
def Grain.bytes (g : Grain) : List Nat := g.body ++ leBytes 4 (crc32c g.body)

/-! ### Range and offset (R63 to R66, R68) -/

/-- A dressing pass on any unit of channel `c` is in progress. -/
def State.dressingCh (s : State) (c : Nat) : Bool := s.dress.active.any (fun u => u / 256 == c + 1)

/-- Range and offset take effect from sample index `i` on (R63, R68). -/
def State.applyRange (c : Nat) (i : Int) (range : Nat) (offset : Int) (s : State) : State :=
  s.modChan c (fun ch =>
    { ch with rangeApplied := range, offsetApplied := offset, prep := none, ranges := (s.dir.epochs % 256, i, range, offset) :: ch.ranges })

/-- The values of the objects apply at once, and nothing is pending any longer (R68). -/
def State.applyObjects (c : Nat) (s : State) : State :=
  (s.applyRange c s.idx (s.rdN (O.RANGE c)) (s.rd (O.OFFSET c))).modChan c (fun ch => { ch with writes := [] })

/-- Range and offset in force on a channel at a sample of an epoch (R205); before the first change, the values after reset. -/
def State.setting (s : State) (c epoch : Nat) (i : Int) : Nat × Int :=
  match (s.chan c).ranges.find? (fun e => if e.1 == epoch then decide (e.2.1 ≤ i) else decide ((epoch + 256 - e.1) % 256 < 128)) with
  | some e => (e.2.2.1, e.2.2.2)
  | none => (5, 0)

/-- RANGE or OFFSET written: applied at once while the channel is disabled; else on its way to the GRAIN domain (R63, R64, R68). -/
def writeRange (c : Nat) (isOffset : Bool) (v : Int) (s : State) : WRes :=
  if s.dressingCh c then notNow Why.CHANNEL_DRESSING
  else
    let s := s.wr (if isOffset then O.OFFSET c else O.RANGE c) v
    let ch := s.chan c
    if s.rd (O.CH_ENABLE c) == 0 then .ok (s.applyObjects c)
    else
      let arr := (ch.writes.map (fun w => w.at_)).foldl max (s.clk.now + s.fv 4000 + 1)
      let w : RangeWrite := { at_ := arr, range := s.rdN (O.RANGE c), offset := s.rd (O.OFFSET c) }
      .ok ((s.setChan c { ch with writes := ch.writes ++ [w] }).adv)

def execRangeOffsetWrite (p : Path) (c : Nat) (isOffset : Bool) (v : Int) (s : State) : Host.Outcome State Fault Refusal :=
  s.done (s.write p (if isOffset then O.OFFSET c else O.RANGE c) v (writeRange c isOffset v))

/-- The switch of a preparation, at the first sample of its switch grain: applied values, LAST_SWITCH_INDEX, trace, SETTLING (R63, R65). -/
def State.doSwitch (c : Nat) (p : Prep) (s : State) : State :=
  let i := s.idxAt p.at_
  let s := (s.applyRange c i p.range p.offset).modChan c (fun ch => { ch with lastSwitch := i, settleNext := true, switchNext := true })
  (s.traceAt i 2 (256 * (c + 1) + 255) 0xFFFF (p.range + wrapU 16 p.offset * 2 ^ 16)).bump (16 * c + 7)

/-- A write starts nothing when it leaves the applied values and finds no preparation (R64). -/
def Chan.startsNothing (ch : Chan) (w : RangeWrite) : Bool :=
  ch.prep.isNone && w.range == ch.rangeApplied && w.offset == ch.offsetApplied

/-- A write reaches the GRAIN domain: a preparation starts, or starts again, 2,560 grains before its switch grain; one whose switch grain
has begun by then switches first (R63, R64). -/
def State.rangeArrives (c : Nat) (w : RangeWrite) (s : State) : State :=
  let s := match (s.chan c).prep with | some p => if p.at_ ≤ w.at_ then s.doSwitch c p else s | none => s
  let ch := s.chan c
  if ch.startsNothing w then s
  else
    let g0 := s.clk.epochBase + (w.at_ - s.clk.epochBase) / 64 * 64
    s.setChan c { ch with prep := some { at_ := g0 + 2560 * 64, range := w.range, offset := w.offset } }

/-- RANGE_SWITCH (R63, R64): at the first sample of grain G0 + 2,560, once the writes that arrived before the present boundary have had
their effect. -/
def State.rangeSwitch (c : Nat) (s : State) : State :=
  let ch := s.chan c
  let (now, later) := ch.writes.partition (fun w => decide (w.at_ < s.clk.now))
  let s := now.foldl (fun s w => s.rangeArrives c w) (s.setChan c { ch with writes := later })
  match (s.chan c).prep with
  | some p => if s.due p.at_ then s.doSwitch c p else s
  | none => s

def execRangeSwitch (c : Nat) (s : State) : Host.Outcome State Fault Refusal := s.done (s.rangeSwitch c)

/-! ### Enabling (R67) -/

/-- A plan whose channel set includes the channel is Armed or retaining data. -/
def State.inUse (s : State) (c : Nat) : Bool :=
  planNos.any (fun q => (s.plan q).entering != 0 && bit (s.plan q).cfgNext.chset c)

/-- CH_ENABLE written (R67, R68). -/
def writeEnable (c : Nat) (v : Int) (s : State) : WRes :=
  if s.inUse c then notNow Why.CHANNEL_IN_USE
  else
    let old := s.rd (O.CH_ENABLE c)
    let s := s.wr (O.CH_ENABLE c) v
    if v = 0 then .ok ((s.applyObjects c).modChan c (fun ch => { ch with ready := false, readyAt := none }))
    else if old = 0 then .ok (s.modChan c (fun ch => { ch with ready := false, readyAt := some (s.clk.now + ms 1) }))
    else .ok s

def execChEnableWrite (p : Path) (c : Nat) (v : Int) (s : State) : Host.Outcome State Fault Refusal :=
  s.done (s.write p (O.CH_ENABLE c) v (writeEnable c v))

/-- Channel `c` starts forming grains at the next raw-grain boundary: no VALID grain to repeat (R56), histories zeroed (R82),
the first raw grain carries SETTLING (R67). -/
def State.startChannel (c : Nat) (s : State) : State :=
  let b := s.idxAt (s.grainAt s.clk.now)
  let o := s.origin.o
  let ch := s.chan c
  let x := (({ ch with ready := true, readyAt := none, settleNext := true, hist := [], lastValid := [], recoverTo := b - 1 }).zero o b
    (s.grainAt s.clk.now)).abandon o b
  (s.setChan c x).countSwap c ch x

/-- CHANNEL_READY (R67): 1.0 ms after the enable. -/
def State.channelReady (c : Nat) (s : State) : State :=
  match (s.chan c).readyAt with
  | some t => if s.due t then s.startChannel c else s
  | none => s

def execChannelReady (c : Nat) (s : State) : Host.Outcome State Fault Refusal := s.done (s.channelReady c)

/-! ### FE_STATUS and counters (R69, R70) -/

/-- SWITCH_PENDING: from the arrival of a write until its switch (R63). -/
def Chan.switchPending (ch : Chan) (now : Time) : Bool :=
  ch.prep.isSome || ch.writes.any (fun w => decide (w.at_ ≤ now) && !ch.startsNothing w)

/-- FE_STATUS as it reads (R70). DRESSING is set from G_s to G_e (R290), and not while a pass still waits (log entry 78). -/
def State.feStatus (s : State) (c : Nat) : Nat :=
  let ch := s.chan c
  at_ (s.rd (O.CH_ENABLE c) == 1) 0 + at_ ch.ready 1 + at_ (s.dress.blind.contains c) 2
    + at_ (ch.switchPending s.clk.now) 3 + at_ ch.sticky 4

/-- A write of FE_STATUS clears OVERRANGE_STICKY where it writes 1 there. -/
def writeFeStatus (c : Nat) (v : Int) (s : State) : WRes :=
  .ok (if bit v.toNat 4 then s.modChan c (fun ch => { ch with sticky := false }) else s)

def execFeStatusWrite (p : Path) (c : Nat) (v : Int) (s : State) : Host.Outcome State Fault Refusal :=
  s.done (s.write p (O.FE_STATUS c) v (writeFeStatus c v))

/-- The three module-wide Bolter objects are reached at the same sub-index of all four indices (R90). -/
def canonKey (k : Nat) : Nat :=
  if k / 65536 % 256 ∈ [0x35, 0x36, 0x37] ∧ k / 256 % 256 = 0 ∧ k % 256 ∈ [15, 16, 18] then 0x340000 + k % 256 else k

/-- A counter that accepts only 0 is cleared (R69, R90, R397 and the other object tables). -/
def State.clearCounter (k : Nat) (s : State) : State :=
  if k = O.SDO_MAX_RESPONSE then { s with net := { s.net with sdoMax := 0 } }
  else if k = O.OD_FRAME_MAX_RESPONSE then { s with net := { s.net with odMax := 0 } }
  else if k = O.ENERGY_IN then { s with gov := { s.gov with energy := 0 } }
  else s.wr (canonKey k) 0

/-- Does the object accept only 0? -/
def onlyZero (k : Nat) : Bool :=
  match findRow (k / 256 % 65536) (k % 256) with
  | some r => r.acc == .rw && r.lo == 0 && r.hi == 0 && decide (0x2000 ≤ r.idx)
  | none => false

/-- COUNTER_CLEAR: a write to a counter that accepts only 0. An object of another kind is none of this command's. -/
def execCounterClear (p : Path) (idx sub : Nat) (v : Int) (s : State) : Host.Outcome State Fault Refusal :=
  s.done (if onlyZero (objKey idx sub) then s.write p (objKey idx sub) v (fun s => .ok (s.clearCounter (objKey idx sub))) else s)

/-! ### Forming a raw grain (R43 to R49, R52, R55, R57, R58, R309) -/

/-- Which samples over-range affects, given where the last recovery ends: the marks, and where recovery ends now. -/
def affMarks (long : Nat) : Int → Int → List Int → List Bool × Int
  | _, till, [] => ([], till)
  | j, till, v :: r =>
    let hit := v == 511 || v == -512
    let till := if hit then max till (j + long) else till
    let (m, t) := affMarks long (j + 1) till r
    (decide (j ≤ till) :: m, t)

/-- The slices of a channel whose checks fail count their integrity failures; four grains in a row make the slice fail (R309).
The failure itself is SLICE_HARD_FAILURE's. A grain that a pending replacement covers is not judged against its slice. -/
def State.integrity (c : Nat) (fails : List (Nat × Nat × Nat)) (s : State) : State :=
  (List.range 4).foldl (fun s q =>
    let u := 4 * c + q
    let qd := s.quad u
    let mine := (fails.filter (fun f => f.1 == c && f.2.1 == q)).map (fun f => f.2.2)
    if qd.pending.isSome || qd.failed then s
    else if mine.isEmpty && qd.failRun.isEmpty then s
    else
      let run := mine.eraseDups.foldl (fun t sl => tset sl (tget (fun _ => 0) qd.failRun sl + 1) t) []
      let s := (s.setQuad u { qd with failRun := run }).bumpBy (16 * c + 9 + q) mine.eraseDups.length
      mine.eraseDups.foldl (fun s sl => s.wearEvent (256 * (c + 1) + q) sl 1 0 0) s) s

/-- Is a quad of the channel without service, or waiting for its spare, at a raw grain starting at `t`? -/
def State.quadGap (s : State) (c : Nat) (t : Time) : Bool :=
  (List.range 4).any (fun q =>
    let qd := s.quad (4 * c + q)
    qd.failed || match qd.pending with | some (u, _) => decide (t < u) | none => false)

/-- Does a spare begin in service with the raw grain at `t`? -/
def State.quadLayer (s : State) (c : Nat) (t : Time) : Bool :=
  (List.range 4).any (fun q => match (s.quad (4 * c + q)).pending with | some (u, _) => u == t | none => false)

/-- The channel is blind to the Sluice whatever its grains hold (R96): not forming grains, being dressed, or with a failed quad. -/
def State.blindCh (s : State) (c : Nat) : Bool :=
  !(s.chan c).ready || s.rd (O.CH_ENABLE c) == 0 || s.dress.blind.contains c || (List.range 4).any (fun q => (s.quad (4 * c + q)).failed)

/-- The channel is blind (R96): also over the last raw grain where it was a Gap grain. -/
def State.blindNow (s : State) (c : Nat) : Bool :=
  s.blindCh c || match (s.chan c).hist with | g :: _ => g.gap | [] => false

/-- The raw grain of channel `c` at absolute time `t`, and the channel after forming it. Not formed while the channel is not
READY (R67). The mark of a first or switch grain is that grain's: it does not pass to the next where the grain is lost (R65, R67). -/
def State.formRaw (c : Nat) (t : Time) (g : GrainIn) (s : State) : State × Option RawGrain :=
  let ch := s.chan c
  if !ch.ready || s.rd (O.CH_ENABLE c) == 0 then (s, none)
  else
    let i := s.idxAt t
    let fo := match s.fan.failUntil with | some u => decide (t < u) | none => false
    let foEnd := match s.fan.failUntil with | some u => decide (u ≤ t) | none => false
    let gap := fo || g.fails.any (fun f => f.1 == c) || s.quadGap c t
    let codes := if gap then List.replicate 64 0 else ((g.codes[c]?).getD []).take 64
    let codes := codes ++ List.replicate (64 - codes.length) 0
    let (aff, till) := affMarks (if g.big.contains c then 1024 else 128) i ch.recoverTo codes
    let stale := !gap && s.dress.blind.contains c
    let raw : RawGrain :=
      { index := i, codes := codes, aff := if gap then List.replicate 64 false else aff, gap := gap, stale := stale,
        layer := fo || foEnd || ch.layerNext || s.quadLayer c t, unref := s.unref, settle := ch.settleNext,
        switched := ch.switchNext, blind := s.blindCh c || gap }
    let s := s.setChan c { ch with settleNext := false, switchNext := false, layerNext := false, recoverTo := till }
    (s.bump (16 * c), some raw)

end Sys2Proof.Machine
end

