-- ==== Sys2Proof/Machine/Pond.lean ====
section
/-!
DEFINITION. The Millpond as the other sections meet it (chapter 06): shares (R169), the gap list (R186), which entries a lost
grain marks (R25, R183), writing and dropping grains (R25, R172, R187, R188), and reading them (R59, R184, R185).
-/

namespace Sys2Proof.Machine

/-! ### The settings of a plan (R131, R159) -/

/-- The Bolter setting that a plan's word spells (R159). -/
def boltOf (w : Nat) : BolterCfg :=
  { mode := bits w 31 28, preset := bits w 27 24, factor := bits w 20 0 + 1 }

/-- The channels of a set. -/
def PlanCfg.chans (c : PlanCfg) : List Nat := onesBelow c.chset 4

/-- A plan's Bolter setting for channel c. -/
def PlanCfg.bolt (c : PlanCfg) (ch : Nat) : BolterCfg := boltOf ((c.bolters[ch]?).getD 0)

/-- S = PRE + POST (R145). -/
def PlanCfg.size (c : PlanCfg) : Nat := c.pre + c.post

/-! ### Shares and pseudo-channels (R164, R169, R171) -/

/-- Share of channel c, and S_c, the region-grain address at which it begins. -/
def State.share (s : State) (c : Nat) : Nat := s.rdN (O.SHARE_A + c)
def State.shareBase (s : State) (c : Nat) : Nat := ((List.range c).map s.share).foldl (· + ·) 0

/-- Region-grain address of allocation offset `o` of plan q on channel c (R171). -/
def State.address (s : State) (q c o : Nat) : Nat := s.shareBase c + (s.plan q).base + o

/-- The logical pseudo-channel of a region-grain address or a line (R171), and the stack half of one (R164). -/
def pcNo (r : Nat) : Nat := r % 60
def halfNo (l : Nat) : Nat := l / 15

/-- A logical pseudo-channel: physical number in its half, at Boot its place there (log entry 20). -/
def State.pc (s : State) (l : Nat) : Pc := tget (fun l => { phys := l % 15 }) s.pond.pcs l
def State.setPc (l : Nat) (p : Pc) (s : State) : State := { s with pond := { s.pond with pcs := tset l p s.pond.pcs } }

def State.half (s : State) (h : Nat) : Half := tget (fun _ => {}) s.pond.halves h
def State.setHalf (h : Nat) (x : Half) (s : State) : State := { s with pond := { s.pond with halves := tset h x s.pond.halves } }

/-- Is a pseudo-channel SWITCHING at present (R187)? -/
def State.switching (s : State) (l : Nat) : Bool :=
  match (s.pc l).switching with
  | some t => decide (s.clk.now < t)
  | none => false

/-- Reads of the pseudo-channel return Gap (R187, R188). -/
def State.pcGap (s : State) (l : Nat) : Bool := (s.pc l).dead || s.switching l

/-- COPYING or SWITCHING: grains written meanwhile carry LAYER (R58, R187). -/
def State.pcLayering (s : State) (l : Nat) : Bool := (s.pc l).copying || s.switching l

/-- Bytes served in a class (places 203 to 207 count them by 64). -/
def State.serve (cls bytes : Nat) (s : State) : State :=
  let n := tget (fun _ => 0) s.pond.served cls + bytes
  let recent := (s.clk.now, cls, bytes) :: s.pond.recent.filter (fun e => decide (s.clk.now < e.1 + ms 1))
  { s with pond := { s.pond with served := tset cls n s.pond.served, recent := recent }, ctr := tset (202 + cls) (n / 64) s.ctr }

/-! ### Credits (R175) -/

/-- Full pools, 1,024 credits of 64 bytes, in 64,000ths of a byte; and what `n` bytes cost. -/
def creditMax : Nat := 4194304000
def creditCost (n : Nat) : Nat := 64000 * n

/-- The mean frequency of the POND domain in 800ths of the nominal: a down-spread lowers it by half its depth (R270, R272). -/
def State.pondMean (s : State) : Nat := if bits s.fan.sscApplied 1 0 == 1 then 800 - (bits s.fan.sscApplied 4 3 + 1) else 800

/-- The pools of classes 3 and 4 as they stand now, refilled at the class's budget, which scales with the mean frequency (R174, R175, R272). -/
def State.refill (s : State) : State :=
  let dt := s.clk.now - s.pond.creditAt
  { s with pond := { s.pond with credit3 := min creditMax (s.pond.credit3 + dt * s.rdN O.RUNNER_BW_LIMIT * s.pondMean),
                                 credit4 := min creditMax (s.pond.credit4 + dt * 40 * s.pondMean), creditAt := s.clk.now } }

/-- Draw the credits of `n` bytes of a class: the state after, and whether the request is issued; else it waits. What is more than a pool
holds is issued once the pool is full. -/
def State.takeCredit (cls n : Nat) (s : State) : State × Bool :=
  let s := s.refill
  let p := s.pond
  let cost := min creditMax (creditCost n)
  if cls == 3 then
    if cost ≤ p.credit3 then ({ s with pond := { p with credit3 := p.credit3 - cost } }, true)
    else ({ s with pond := { p with ranDry := some s.clk.now } }, false)
  else if cls == 4 then
    if cost ≤ p.credit4 then ({ s with pond := { p with credit4 := p.credit4 - cost } }, true) else (s, false)
  else (s, true)

/-- An action of the runners that leads from s to t, where the class 3 credits for the bytes it moves are there; else it waits (R175;
what draws none: DESIGN CHOICE, log entry 93). -/
def State.withCredit (s t : State) : State :=
  let n := tget (fun _ => 0) t.pond.served 3 - tget (fun _ => 0) s.pond.served 3
  let (u, ok) := s.takeCredit 3 n
  if ok then { t with pond := { t.pond with credit3 := u.pond.credit3, credit4 := u.pond.credit4, creditAt := u.pond.creditAt } } else u

/-! ### Segments over grains -/

/-- Grain i of a segment lies at this allocation offset (R153). -/
def Seg.offset (g : Seg) (i : Nat) : Nat :=
  if g.width == 0 then g.startGrain else g.base + (g.startGrain - g.base + i) % g.width

/-- Which grain of the segment lies at allocation offset `o`. -/
def Seg.at_ (g : Seg) (o : Nat) : Nat :=
  if g.width == 0 then 0 else (o + g.width - g.startGrain) % g.width

/-- GRAIN_COUNT. -/
def Seg.count (g : Seg) : Nat := (g.stop - g.first).toNat

/-- Does the segment include the grain with sample-index field `idx` that lies at offset `o` on channel c? -/
def Seg.includes (g : Seg) (c o : Nat) (idx : Int) : Bool :=
  bit g.chset c && decide (g.base ≤ o) && decide (o < g.base + g.width) && decide (g.at_ o < g.count) &&
  decide (idx = g.startIdx + (g.at_ o : Nat) * g.p)

/-- Allocation offset of a region-grain address in plan q's allocation on channel c, if it lies there. -/
def State.offsetOf (s : State) (q c r : Nat) : Option Nat :=
  let p := s.plan q
  let b := s.shareBase c + p.base
  if p.st != 0 && bit p.cfg.chset c && decide (b ≤ r) && decide (r < b + p.cfg.alloc) then some (r - b) else none

/-- Flag bits of a grain join the summary of every segment and entry that includes it; to a COMPLETE entry GAP alone, which is then written
to both directory copies again (R25, R152, R162, R168, R183). -/
def State.markSegs (c r : Nat) (gen : Nat) (idx : Int) (flags : Nat) (s : State) : State :=
  let hit := fun (g : Seg) => g.gen == gen && match s.offsetOf g.plan c r with | some o => g.includes c o idx | none => false
  let again := s.dir.rows.filter (fun (e : Nat × Entry) => e.2.state != 1 && bit flags 5 && !bit e.2.seg.flags 5 && hit e.2.seg)
  let s := { s with dir := { s.dir with
      segs := s.dir.segs.map (fun e => if hit e.2 then (e.1, { e.2 with flags := e.2.flags ||| flags }) else e),
      rows := s.dir.rows.map (fun e =>
        let f := if e.2.state == 1 then flags else flags &&& 0x20
        if hit e.2.seg then (e.1, { e.2 with seg := { e.2.seg with flags := e.2.seg.flags ||| f } }) else e) } }
  if again.isEmpty then s else s.serve 5 (96 * again.length)

/-! ### Where locations lie (R166, R167, R169, R171) -/

/-- The sample region in grains with `f` plane frames (R169). -/
def regionGrains (f : Nat) : Nat := (42949672960 - (f - 3968) * 1048576) / 96

/-- First line of the plane area, and lines of a frame. -/
def planeLine0 : Nat := 2097152
def frameLines : Nat := 16384

/-- The system region's first lines of the second directory copy, the trace ring, the gap list, the calibration shadow, the staging and
the working space (R167). -/
def copyLine1 : Nat := 196608
def traceLine0 : Nat := 393216
def gapLine0 : Nat := 524288
def shadowLine0 : Nat := 1048576
def stagingLine0 : Nat := 2097152
def workLine0 : Nat := 3145728

/-- Run of a grain within its pseudo-channel, and its place in the run of 64 grains; the same of a line in its run of 96 (R171). -/
def grainRun (r : Nat) : Nat := r / 3840
def grainPos (r : Nat) : Nat := r / 60 % 64
def lineRun (l : Nat) : Nat := l / 5760
def linePos (l : Nat) : Nat := l / 60 % 96

/-- Runs of 6 KiB that a region takes on a pseudo-channel. -/
def State.runsOf (s : State) (region : Nat) : Nat :=
  match region with
  | 0 => (regionGrains (s.rdN O.PLANE_FRAMES) + 3839) / 3840
  | 1 => (planeLine0 + s.rdN O.PLANE_FRAMES * frameLines + 5759) / 5760
  | _ => 2913

/-- Run of a location on its pseudo-channel, counting the sample region's first, then those of the results and the system region (DESIGN
CHOICE, log entry 84). -/
def State.runOf (s : State) (region a : Nat) : Nat :=
  ((List.range region).map s.runsOf).foldl (· + ·) 0 + if region == 0 then grainRun a else lineRun a

/-- First byte of a location on its pseudo-channel. -/
def State.byteOf (s : State) (region a : Nat) : Nat :=
  6144 * s.runOf region a + if region == 0 then 96 * grainPos a else 64 * linePos a

/-- Key of a location, and of one of its bursts. -/
def locKey (region a : Nat) : Nat := region * 1099511627776 + a
def burstKey (region a b : Nat) : Nat := 4 * locKey region a + b

/-- A write to a location replaces what it held (R180, R183, R188): nothing of it is known lost any more, and no write-back is due. -/
def State.written (region a : Nat) (s : State) : State :=
  let l := pcNo a
  let k := locKey region a
  let p := s.pc l
  let s := if p.copying || p.lostFrom.isSome then
      s.setPc l { p with both := if p.copying then k :: p.both.filter (· != k) else p.both,
                         fresh := if p.lostFrom.isSome then k :: p.fresh.filter (· != k) else p.fresh }
    else s
  { s with pond := { s.pond with
      poison := s.pond.poison.filter (fun b => b / 4 != k), writeBacks := s.pond.writeBacks.filter (fun b => b / 4 != k),
      lostLines := s.pond.lostLines.filter (fun x => x != region * 2 ^ 32 + a) } }

/-- The store no longer serves, or serves again: the time between counts toward no scrub pass (R181, R189, R265). -/
def State.storePause (s : State) : State :=
  { s with pond := { s.pond with selfRefresh := true, pausedAt := some (s.pond.pausedAt.getD s.clk.now) } }
def State.storeResume (s : State) : State :=
  let d := match s.pond.pausedAt with | some t => s.clk.now - t | none => 0
  { s with pond := { s.pond with selfRefresh := false, pausedAt := none, scrubAt := s.pond.scrubAt + d, passStart := s.pond.passStart + d } }

/-- Has the content of a location gone with its pseudo-channel (R187, R188)? -/
def State.goneWithPc (s : State) (region a : Nat) : Bool :=
  match (s.pc (pcNo a)).lostFrom with
  | some b => decide (b ≤ s.byteOf region a) && !(s.pc (pcNo a)).fresh.contains (locKey region a)
  | none => false

/-! ### The gap list (R186, R194) -/

/-- Lowest row at or above `n` that holds no record. -/
def freeRow {α : Type} : Nat → Tbl α → Nat
  | n, [] => n
  | n, (j, _) :: r => if j == n then freeRow (n + 1) r else n

/-- The module enters Faulted from any state but Boot and Sleep (R28, R31, R317): its record, FAULT_N, and the plans to be stopped within
the step (R154). From Boot and Sleep it enters Faulted as those end (log entry 76). -/
def State.uncoveredAs (fl kind unit slice detail intr : Nat) (index : Int) (s : State) : State :=
  let q := s.fault.next
  let s := { s with dev := if s.dev == DevMode.boot || s.dev == DevMode.sleep then s.dev else .faulted }
  let s := s.recordAs fl kind unit slice 4 detail intr index true true
  { s with fault := { s.fault with faultN := true, stop := true, cause := some (s.fault.cause.getD q) } }

/-- An uncovered fault detected now, outside the GRAIN domain. -/
def State.uncovered (kind unit slice detail intr : Nat) (s : State) : State :=
  s.uncoveredAs 2 kind unit slice detail intr s.tbIdx

/-- Add a record; one more than 1,048,576 is an uncovered fault (R186). -/
def State.addGap (g : GapRec) (s : State) : State :=
  if s.pond.gaps.length < 1048576 then
    { s with pond := { s.pond with gaps := tset (freeRow 0 s.pond.gaps) g s.pond.gaps } }.bump 208
  else s.uncovered 0x11 0x0600 0xFFFF 0 0

/-- The row that the next record takes. -/
def State.gapRow (s : State) : Nat := freeRow 0 s.pond.gaps

/-- The record in `row` covers address r too (R186). -/
def State.coverLost (row r : Nat) (s : State) : State :=
  let rows := tget (fun _ => []) s.pond.lost r
  { s with pond := { s.pond with lost := tset r (row :: rows.filter (· != row)) s.pond.lost } }

/-- A row whose every grain has been rewritten or freed is retired (R186). -/
def State.retire (row : Nat) (s : State) : State :=
  if s.pond.lost.any (fun e => e.2.contains row) then s
  else { s with pond := { s.pond with gaps := tdel row s.pond.gaps } }

/-- Forget what the addresses from `a` of `n` grains hold: their allocation is freed, or a new one begins (R170, R185, R186). -/
def State.forget (a n : Nat) (s : State) : State :=
  let inside := fun (r : Nat) => decide (a ≤ r) && decide (r < a + n)
  let rows := ((s.pond.lost.filter (fun e => inside e.1)).flatMap (fun e => e.2)).eraseDups
  let s := { s with pond := { s.pond with grains := s.pond.grains.filter (fun e => !inside e.1),
                                          lost := s.pond.lost.filter (fun e => !inside e.1) } }
  rows.foldl (fun s row => s.retire row) s

/-! ### Grains in the store -/

/-- The grain that reads return for a lost or dropped one (R25, R59). -/
def Grain.gapOf (g : Grain) : Grain :=
  { g with vals := List.replicate g.vals.length 0,
           flags := { gap := true, trig := g.flags.trig, segStart := g.flags.segStart, segEnd := g.flags.segEnd,
                      decim := g.kind != 0, unref := g.flags.unref } }

/-- What a grain adds to the flags summary of its segment (R162). -/
def Grain.summary (g : Grain) : Nat := g.flags.word &&& 0x43E

/-- What a read beyond the written extent returns (R185). -/
def Grain.beyond : Grain := { flags := { gap := true }, vals := List.replicate 64 0 }

/-- A plan takes a grain at offset `o`: its written extent reaches there (R149, R185). -/
def State.take (q o : Nat) (s : State) : State :=
  let p := s.plan q
  s.setPlan q { p with extent := max p.extent (o + 1) }

/-- Store `g` at address r: reads return it from now on (R172); records it was lost under may retire, and a range not yet written loses the
address (R186). -/
def State.store (c r : Nat) (g : Grain) (s : State) : State :=
  let rows := tget (fun _ => []) s.pond.lost r
  let s := s.modChan c (fun ch => { ch with gaps := ch.gaps.map (fun x => { x with addrs := x.addrs.filter (· != r) }) })
  let n := s.pond.writes + 1
  let s := { s with pond := { s.pond with grains := tset r { g with ord := n } s.pond.grains, lost := tdel r s.pond.lost, writes := n } }
  rows.foldl (fun s w => s.retire w) (s.written 0 r)

/-- A Headrace write of a grain of channel c to address r (R172, R173, R187, R188): on a dead pseudo-channel, or one SWITCHING with
its queue full of other addresses, it is discarded and reads as Gap. -/
def State.pondWrite (c r : Nat) (g : Grain) (s : State) : State :=
  let l := pcNo r
  let p := s.pc l
  let drop := p.dead || (s.switching l && 64 ≤ p.queued.length && !p.queued.contains r)
  let s := if s.switching l && !drop then s.setPc l { p with queued := r :: p.queued.filter (· != r) } else s
  let g' := if drop then g.gapOf else g
  let lossRow := p.lossRow
  -- a write queued here while the pseudo-channel is switched is replaced; elsewhere the manual does not fix whether a former write is still
  -- uncommitted (R173)
  let s :=
    if s.switching l && p.queued.contains r && !drop then s.bump 210
    else if (tfind s.pond.grains r).isSome && !drop then (s.bumpBy 210 (s.fv 2)).adv
    else s
  let s := (s.store c r g').serve 1 96
  let s := if drop then (match lossRow with | some row => s.coverLost row r | none => s) else s.bump (16 * c + 1)
  s.markSegs c r g.gen g.index g'.summary

/-- The stored content of address r is lost (R183, R187, R188): reads return Gap, the record in `row` covers it, the entries
that include it carry GAP. -/
def State.lose (row r : Nat) (s : State) : State :=
  match tfind s.pond.grains r with
  | some g =>
    let s := { s with pond := { s.pond with grains := tset r g.gapOf s.pond.grains } }.coverLost row r
    s.markSegs g.ch r g.gen g.index 0x20
  | none => s

/-! ### Dropped grains (R25) -/

/-- Does a grain lie from the first grain of range `g` on, and before grain `d`? -/
def GapReg.spans (g : GapReg) (d : Delayed) (x : Grain) : Bool :=
  (decide (g.gen < x.gen) || (x.gen == g.gen && decide (g.first ≤ x.index))) &&
    (decide (x.gen < d.gen) || (x.gen == d.gen && decide (x.index < d.grain.index)))

/-- Grains of channel c that lie stored from range `g` on to grain `d`. -/
def State.between (s : State) (c : Nat) (g : GapReg) (d : Delayed) : List (Nat × Grain) :=
  s.pond.grains.filter (fun e => e.2.ch == c && g.spans d e.2)

/-- The Headrace drops grain `d`, as it would have lain at the addresses of `at_`: the channel's newest range is extended, a new one begun, or, with 32 held,
merged into the newest, and what was written or queued between the two then reads as Gap (R25). -/
def State.dropGrain (c : Nat) (d : Delayed) (at_ : List (Nat × Grain)) (s : State) : State :=
  let rs := at_.map (fun e => e.1)
  let s := at_.foldl (fun s e =>
    ({ s with pond := { s.pond with grains := tset e.1 e.2.gapOf s.pond.grains } }).markSegs c e.1 d.gen d.grain.index e.2.gapOf.summary) s
  let ch := s.chan c
  match ch.dropping, ch.gaps with
  | true, g :: r =>
    s.setChan c { ch with gaps := { g with count := g.count + (d.ord - g.last), last := d.ord, addrs := g.addrs ++ rs } :: r }
  | _, gs =>
    if gs.length < 32 then
      (s.setChan c { ch with
          dropping := true,
          gaps := { first := d.grain.index, count := 1, epoch := s.dir.epochs % 256, last := d.ord, gen := d.gen, addrs := rs } :: gs }).bump (16 * c + 13)
    else
      match gs with
      | g :: r =>
        let mid := s.between c g d
        let waits := ch.queue.flatMap (fun x => x.takes.map (fun t => s.address t.plan c t.off))
        let s := mid.foldl (fun s e => ({ s with pond := { s.pond with grains := tset e.1 e.2.gapOf s.pond.grains } }).markSegs c e.1 e.2.gen e.2.index 0x20) s
        let s := s.setChan c { s.chan c with
          dropping := true,
          queue := ch.queue.map (fun x => { x with grain := x.grain.gapOf, gone := true }),
          gaps := { g with count := g.count + (d.ord - g.last), last := d.ord,
                           addrs := (g.addrs ++ mid.map (fun e => e.1) ++ waits ++ rs).eraseDups } :: r }
        s.setLoop 2 { s.loop 2 with merges := (s.loop 2).merges + 1 }
      | [] => s

/-! ### Reads (R59, R184, R185) -/

/-- A read of grain `o` of plan q's allocation on channel c. -/
def State.readGrain (s : State) (q c o : Nat) : Grain :=
  let r := s.address q c o
  match (if o < (s.plan q).extent then tfind s.pond.grains r else none) with
  | some g => if s.pcGap (pcNo r) then g.gapOf else g
  | none => Grain.beyond

/-- Grain i of a segment on channel c, with the index it should carry; an overwritten one counts as Gap (R149, R204). -/
def State.segGrain (s : State) (g : Seg) (c i : Nat) : Grain × Bool :=
  let x := s.readGrain g.plan c (g.offset i)
  let want := g.startIdx + (i : Nat) * g.p
  let kind := (g.cfg.bolt c).kind
  if x.index == want then (x, false)
  else ({ kind := kind, ch := c, index := want, vals := List.replicate (if kind ≤ 1 then 64 else 40) 0 : Grain }.gapOf, true)

end Sys2Proof.Machine
end

