-- ==== Sys2Proof/Machine/Farm.lean ====
section
/-!
DEFINITION. The runner farm (chapter 07) and the planes (chapter 08): gates, instances, steps, results, planes, tiles and
snapshots, as operations that the commands share.
-/

namespace Sys2Proof.Machine

/-! ### Tables -/

def State.gate (s : State) (g : Nat) : Gate := tget (fun _ => {}) s.farm.gates g
def State.setGate (g : Nat) (x : Gate) (s : State) : State := { s with farm := { s.farm with gates := tset g x s.farm.gates } }
def State.rec_ (s : State) (k : Nat) : Rec := tget (fun _ => {}) s.farm.recs k
def State.setRec (k : Nat) (x : Rec) (s : State) : State := { s with farm := { s.farm with recs := tset k x s.farm.recs } }
def State.cluster (s : State) (k : Nat) : Cluster := tget (fun _ => {}) s.farm.clusters k
def State.setCluster (k : Nat) (x : Cluster) (s : State) : State := { s with farm := { s.farm with clusters := tset k x s.farm.clusters } }
def State.planeOf (s : State) (n : Nat) : Plane := tget (fun _ => {}) s.farm.planes n
def State.setPlane (n : Nat) (x : Plane) (s : State) : State := { s with farm := { s.farm with planes := tset n x s.farm.planes } }

/-- The 16 clusters. -/
def clusterNos : List Nat := List.range 16

/-- Runners in service in a cluster: 16, less those retired, plus the spare when it serves (R195, R229). -/
def Cluster.serving (c : Cluster) : Nat := 16 + b2n (c.layered || c.retired.contains 16) - c.retired.length

/-- RUNNERS_ACTIVE: parked clusters excluded (R228). -/
def State.runnersActive (s : State) : Nat :=
  (clusterNos.map (fun k => let c := s.cluster k; if c.parked || c.empty then 0 else c.serving)).foldl (· + ·) 0

/-- Can runner r of cluster k take work? Runner 16 is the spare. -/
def Cluster.canRun (c : Cluster) (r : Nat) : Bool :=
  !c.parked && !c.empty && !c.retired.contains r && (decide (r < 16) || (r == 16 && c.layered))

/-! ### Planes: tiles, contributions, snapshots (R242, R244) -/

/-- Delta tile of a bin: 16 x 16 tiles of 32 x 32 bins. -/
def tileOf (b : Nat) : Nat := b / 512 / 32 * 16 + b % 512 / 32

/-- Add a tile's increments to the frame, saturating (R242). -/
def Plane.addTile (p : Plane) (incs : Tbl Nat) : Plane :=
  incs.foldl (fun p e =>
    let n := tget (fun _ => 0) p.bins e.1 + e.2
    if n < 2 ^ 32 then { p with bins := tset e.1 n p.bins }
    else { p with bins := tset e.1 (2 ^ 32 - 1) p.bins, satLost := min (p.satLost + (n - (2 ^ 32 - 1))) (2 ^ 32 - 1), sat := true }) p

/-- Spill one tile: a read-add-write of its lines in class 3. -/
def State.spill (run plane tile : Nat) (s : State) : State :=
  match s.farm.tiles.find? (fun t => t.run == run && t.plane == plane && t.tile == tile) with
  | some t =>
    let s := s.setPlane plane ((s.planeOf plane).addTile t.incs)
    let s := { s with farm := { s.farm with tiles := s.farm.tiles.filter (fun x => !(x.run == run && x.plane == plane && x.tile == tile)) } }
    s.serve 3 8192
  | none => s

/-- Spill every tile that `f` chooses. -/
def State.spillAll (f : Tile → Bool) (s : State) : State :=
  (s.farm.tiles.filter f).foldl (fun s t => s.spill t.run t.plane t.tile) s

/-- The least recently used tile of a runner. -/
def oldestTile (ts : List Tile) : Option Tile :=
  ts.foldl (fun m t => match m with | none => some t | some u => if t.used < u.used then some t else m) none

/-- One point enters the plane cache of a runner (R242): its tile is there, or takes the place of the least recently used. -/
def State.cachePoint (run plane b : Nat) (s : State) : State :=
  let mine := s.farm.tiles.filter (fun t => t.run == run)
  let tile := tileOf b
  let s := if mine.any (fun t => t.plane == plane && t.tile == tile) || mine.length < 16 then s
    else match oldestTile mine with | some t => s.spill t.run t.plane t.tile | none => s
  let old := s.farm.tiles.find? (fun t => t.run == run && t.plane == plane && t.tile == tile)
  let t : Tile := old.getD { run := run, plane := plane, tile := tile, since := s.clk.now, used := 0, incs := [] }
  let t := { t with used := s.farm.tick, incs := tmod (fun _ => 0) b (· + 1) t.incs }
  let rest := s.farm.tiles.filter (fun x => !(x.run == run && x.plane == plane && x.tile == tile))
  { s with farm := { s.farm with tiles := rest ++ [t], tick := s.farm.tick + 1 } }

/-- A contribution joins the plane's counters and the runner's cache. -/
def State.joinPlane (n : Nat) (c : Contrib) (s : State) : State :=
  let p := s.planeOf n
  let cap := fun (x : Nat) => min x (2 ^ 32 - 1)
  if c.nothing then s.setPlane n { p with unlocked := cap (p.unlocked + c.unlocked) }
  else
  let p := { p with mixed := p.mixed || c.mixed, points := p.points + c.bins.length, outside := cap (p.outside + c.outside),
                    unlocked := cap (p.unlocked + c.unlocked), hits := p.hits + c.hits, insts := p.insts + 1,
                    chans := setBit p.chans c.chan true,
                    last := match p.last with
                      | some q => if (c.seq + 2 ^ 32 - q) % 2 ^ 32 < 2 ^ 31 then some c.seq else some q
                      | none => some c.seq }
  c.bins.foldl (fun s b => s.cachePoint c.run n b) (s.setPlane n p)

/-- A contribution of an entry later than a pending snapshot is held apart until the snapshot is taken (R244). -/
def State.contribute (n : Nat) (c : Contrib) (s : State) : State :=
  if s.farm.snaps.any (fun x => x.plane == n && !x.ready && decide (x.cut ≤ c.ord)) then
    let p := s.planeOf n
    s.setPlane n { p with shadow := p.shadow ++ [c] }
  else s.joinPlane n c

/-- Clear a plane: bins, counters, status; contributions of earlier entries are discarded (R246). A pending snapshot keeps what
was contributed before, as the frame stands (DEDUCED, log entry 66: an open snapshot is never altered; a pending one takes what is left). -/
def State.clearPlane (n : Nat) (s : State) : State :=
  let p := s.planeOf n
  let s := s.setPlane n { cfg := p.cfg, mask := p.mask }
  { s with farm := { s.farm with
      tiles := s.farm.tiles.filter (fun t => t.plane != n),
      insts := s.farm.insts.map (fun x => if x.cfg.plane == n then { x with noPlane := true } else x) } }

/-- Plane n holds a frame (R234). -/
def State.planeInUse (s : State) (n : Nat) : Bool := (s.planeOf n).cfg.kind != 0
def State.planesInUse (s : State) : Nat := (s.farm.planes.filter (fun e => e.2.cfg.kind != 0)).length

/-! ### Results (R216 to R223) -/

/-- The measurements that a gate selects. -/
def GateCfg.measures (c : GateCfg) : List Nat := onesBelow c.meas 30

/-- RESULT_INTERVAL in sample periods. -/
def State.resultInterval (s : State) : Nat := us (s.rdN O.RESULT_INTERVAL)

/-- An event of a gate waits for its write event (R219). -/
def State.queueEvent (g : Nat) (e : GateEv) (s : State) : State :=
  let x := s.gate g
  let due := if x.waiting.isEmpty then s.clk.now + s.resultInterval else x.due
  s.setGate g { x with waiting := x.waiting ++ [e], since := if x.waiting.isEmpty then s.clk.now else x.since, due := due }

/-- The instances of a gate that are computed and preceded by none that is not are applied in order (R203). -/
def takeDone (g : Nat) : Bool → List Inst → List Inst × List Inst
  | _, [] => ([], [])
  | blocked, x :: r =>
    if x.gate != g then let (a, b) := takeDone g blocked r; (a, x :: b)
    else if blocked || x.ev.isNone then let (a, b) := takeDone g true r; (a, x :: b)
    else let (a, b) := takeDone g false r; (x :: a, b)

def State.promote (g : Nat) (s : State) : State :=
  let (done, rest) := takeDone g false s.farm.insts
  let s := { s with farm := { s.farm with insts := rest } }
  done.foldl (fun s x => match x.ev with | some e => if x.noRec then s else s.queueEvent g e | none => s) s

/-- A record becomes UNDEFINED for a reason (R214, R218), and whether that changes it. -/
def Rec.undefined (r : Rec) (why : Nat) : Rec × Bool := ({ r with state := 3, reason := why }, r.state != 3 || r.reason != why)

/-- One event applied to one record (R218): the record, and whether it changed. -/
def Rec.apply (e : GateEv) (m nmax : Nat) (r : Rec) : Rec × Bool :=
  match e.what with
  | 0 =>
    match e.vals.find? (fun v => v.1 == m) with
    | some (_, ys) =>
      let r' := ys.foldl (Rec.admitValue nmax) r
      ({ r' with index := e.index, state := 1, reason := 0, cond := e.cond }, true)
    | none =>
      match e.fails.find? (fun v => v.1 == m) with
      | some (_, why) => r.undefined why
      | none => (r, false)
  | 1 =>
    match e.fails.find? (fun v => v.1 == m) with
    | some (_, why) => r.undefined why
    | none => (r, false)
  | 2 => ({ r with state := 2 }, r.state != 2)
  | 3 => ({ r with cond := setBit r.cond 0 true }, !bit r.cond 0)
  | _ => if r.state == 1 || r.state == 3 then ({ r with state := 2 }, true) else (r, false)

/-- A write event of a gate (R219): everything waiting, in order; changed records take the new sequence, and a record whose line was lost is
written again even if nothing changes it (R222). -/
def State.writeEvent (g : Nat) (s : State) : State :=
  let x := s.gate g
  if x.waiting.isEmpty then s
  else
    let q := if x.seq = 2 ^ 32 - 1 then 1 else x.seq + 1
    let nmax := let k := bits x.cfg.policy 12 8; if k = 0 then 0 else 2 ^ k
    let ms := (x.cfg.measures ++ x.waiting.flatMap (fun e => e.vals.map (fun v => v.1) ++ e.fails.map (fun v => v.1))).eraseDups
    let s := ms.foldl (fun s m =>
      let (r, ch) := x.waiting.foldl (fun (acc : Rec × Bool) e =>
        let (r, c) := acc.1.apply e m nmax
        (r, acc.2 || c)) (s.rec_ (32 * g + m), false)
      let k := 32 * g + m
      if !ch && !s.pond.lostLines.contains (2 ^ 32 + k) then s
      else if (s.pc (pcNo k)).dead then s.serve 3 64
      else ((s.setRec k (if ch then { r with seq := q } else r)).written 1 k).serve 3 64) s
    s.setGate g { x with seq := q, waiting := [] }

/-- Reset a gate's results (R223). -/
def State.resetGate (g : Nat) (s : State) : State :=
  let x := s.gate g
  let s := s.setGate g { x with seq := 0, instances := 0, misfits := 0, waiting := [] }
  { s with farm := { s.farm with recs := s.farm.recs.filter (fun e => e.1 / 32 != g),
                                 insts := s.farm.insts.map (fun i => if i.gate == g then { i with noRec := true } else i) } }

/-- A gate's row is replaced (R231). -/
def State.applyGate (g : Nat) (c : GateCfg) (s : State) : State :=
  (s.setGate g { s.gate g with cfg := c }).resetGate g

/-- What GATE_APPLY refuses (R231). -/
def GateCfg.refused (c : GateCfg) : Option Nat :=
  let n := (onesBelow c.chans 4).length
  if n == 0 || 2 < n || (bits c.meas 22 20 != 0 && n == 1) then some Why.GATE_CHANNELS
  else if bits c.meas 28 23 != 0 && c.cr == 65535 then some Why.GATE_NO_CLOCK
  else if (c.len == 0 && c.kind != 0) || (c.off < 0 && c.kind == 0) then some Why.GATE_SPAN
  else none

/-! ### Gate work of entries (R199 to R204) -/

/-- Has the entry of this sequence gate work that is not finished (R204)? -/
def State.workOpen (s : State) (seq : Nat) : Bool :=
  s.farm.insts.any (fun i => i.seq == seq) ||
  s.farm.gates.any (fun g => g.2.waiting.any (fun e => e.what < 4 && e.seq == seq))

/-- WORK_BACKLOG: COMPLETE entries with gate work not finished. -/
def State.backlog (s : State) : Nat :=
  ((s.farm.insts.map (fun i => i.seq)) ++ s.farm.gates.flatMap (fun g => (g.2.waiting.filter (fun e => e.what < 4)).map (fun e => e.seq))).eraseDups.length

/-- Does a logged line start pass a gate's frame and line tests (R113, R202)? -/
def GateCfg.lineOk (c : GateCfg) (r : LineRec) : Bool :=
  r.line != 65535 && (c.line == 65535 || r.line == c.line) &&
  (match c.fmode with
   | 1 => r.frame == c.fval
   | 2 => r.frame % (max c.fmod 1) == c.fval % (max c.fmod 1)
   | _ => true)

/-- Start and length of each candidate instance of a gate on a segment (R200, R201). -/
def State.candidates (s : State) (c : GateCfg) (g : Seg) : List (Int × Nat) :=
  let last : Int := g.startIdx + (g.count : Nat) * g.p
  match c.kind with
  | 0 => let a := g.startIdx + c.off; [(a, if c.len == 0 then (last - a).toNat else c.len)]
  | 1 => [(g.trig.index + c.off, c.len)]
  | 2 => if bit g.trig.slots c.slot then [(g.trig.index + c.off, c.len)] else []
  | _ =>
    let hits := (s.farm.lines.filter (fun e => e.2.epoch == g.epoch && c.lineOk e.2)).map (fun e => e.2.start + c.off)
    let near := hits.filter (fun a => decide (a < last) && decide (g.startIdx < a + (c.len : Nat)))
    (near.foldr (fun a l => l.filter (fun b => decide (b < a)) ++ [a] ++ l.filter (fun b => decide (a < b))) []).map (fun a => (a, c.len))

/-- Could candidates be older than the log reaches (R202): the oldest line start still in it is of a later epoch than the entry's, or of
the same and later than a candidate could be? -/
def State.logShort (s : State) (c : GateCfg) (g : Seg) : Bool :=
  c.kind == 3 && 1048576 ≤ s.farm.lineNext &&
  (match tfind s.farm.lines (s.farm.lineNext % 1048576) with
   | some e => decide (1 ≤ (e.epoch + 256 - g.epoch) % 256) && decide ((e.epoch + 256 - g.epoch) % 256 < 128)
      || e.epoch == g.epoch && decide (g.startIdx - c.off - (c.len : Nat) + 1 < e.start)
   | none => false)

/-- One gate meets one COMPLETE entry. -/
def State.meet (gn : Nat) (e : Entry) (s : State) : State :=
  let x := s.gate gn
  let c := x.cfg
  let g := e.seg
  let last : Int := g.startIdx + (g.count : Nat) * g.p
  let s := if s.logShort c g then s.sat O.RASTER_LOG_OVERRUN else s
  (s.candidates c g).foldl (fun s cand =>
    let (a, n) := cand
    let fits := (onesBelow c.chans 4).all (fun k => bit g.chset k) && decide (g.startIdx ≤ a) && decide (a + (n : Nat) ≤ last) && n != 0
    let x := s.gate gn
    if fits then
      let i : Inst :=
        { id := s.farm.nextInst, gate := gn, seq := e.seq, ord := s.farm.ord, start := a, len := n, cfg := c,
          cr := if c.cr < 256 then some (tget (fun _ => {}) s.farm.crs c.cr) else none,
          param := tget (fun _ => {}) s.farm.params c.param, lastStep := s.clk.now, limit := s.rdN O.MEAS_TIMEOUT }
      let s := s.setGate gn { x with instances := min (x.instances + 1) (2 ^ 32 - 1) }
      { s with farm := { s.farm with insts := s.farm.insts ++ [i], nextInst := s.farm.nextInst + 1 } }
    else ((s.setGate gn { x with misfits := min (x.misfits + 1) (2 ^ 32 - 1) }).sat O.GATE_MISFIT_TOTAL).bump 289) s

/-- An entry that becomes COMPLETE is evaluated against the enabled gates of its plan's range (R199). -/
def State.formWork (e : Entry) (s : State) : State :=
  let p := e.seg.cfg
  let gs := s.farm.gates.filter (fun x => x.2.cfg.enable && decide (p.gateFirst ≤ x.1) && decide (x.1 < p.gateFirst + p.gateCount))
  let s := gs.foldl (fun s x => s.meet x.1 e) s
  { s with farm := { s.farm with ord := s.farm.ord + 1 } }

/-- RELEASE drops a plan's gate work: instances not started, and those in progress, whose next step boundary is now (R143,
R226). -/
def State.dropWork (q : Nat) (s : State) : State :=
  let mine := fun (i : Inst) =>
    i.ev.isNone && (match tfind s.dir.rows (i.seq % 262144) with | some e => e.seq == i.seq && e.seg.plan == q | none => false)
  let n := (s.farm.insts.filter mine).length
  let gs := ((s.farm.insts.filter mine).map (fun i => i.gate)).eraseDups
  let s := { s with farm := { s.farm with insts := s.farm.insts.filter (fun i => !mine i) } }
  let s := if n == 0 then s else (s.satBy O.WORK_DROPPED n).bumpBy 291 n
  gs.foldl (fun s g => s.promote g) s

/-! ### Steps of an instance (R205, R206, R224) -/

/-- The entry an instance works on. -/
def State.entryOf (s : State) (seq : Nat) : Option Entry :=
  match tfind s.dir.rows (seq % 262144) with
  | some e => if e.seq == seq then some e else none
  | none => none

/-- The samples of one grain with reported index in [a, b), each in the setting in force at its newest raw input (R76, R81, R205). -/
def State.samplesOf (s : State) (c epoch : Nat) (cfg : BolterCfg) (g : Grain) (a b : Int) : List Smp × F64 :=
  let vs := if g.kind == 3 then (List.range 20).map (fun j => ((g.vals[2 * j]?).getD 0, (g.vals[2 * j + 1]?).getD 0))
            else g.vals.map (fun v => (v, v))
  let late : Int := if g.kind ≤ 1 then 0 else g.late
  let k : Int := if g.kind ≤ 1 then 64 else 1
  let all := (List.range vs.length).filterMap (fun (j : Nat) =>
    let r := g.index + (j : Nat) * cfg.d
    if a ≤ r && r < b then
      let (range, off) := s.setting c epoch (r + late)
      let v := (vs[j]?).getD (0, 0)
      some ({ r := r, lo := voltsOf range off (k * v.1), hi := voltsOf range off (k * v.2) : Smp }, lsbOf range)
    else none)
  (all.map (fun x => x.1), all.foldl (fun m x => m.larger x.2) {})

/-- What a step reads on one channel: samples, flags, grains found overwritten. -/
structure StepRead where
  smps : List Smp := []
  lsb : F64 := {}
  gap : Bool := false
  stale : Bool := false
  settle : Bool := false
  overR : Bool := false
  layer : Bool := false
  overwritten : Nat := 0
  grains : Nat := 0

/-- Read the grains of a segment on channel c that the reported span [a, b) touches. -/
def State.readSpan (s : State) (g : Seg) (c : Nat) (a b : Int) : StepRead :=
  let cfg := g.cfg.bolt c
  let i0 := ((a - g.startIdx) / (max g.p 1 : Nat)).toNat
  let i1 := ((b - 1 - g.startIdx) / (max g.p 1 : Nat)).toNat
  (List.range (i1 + 1 - i0)).foldl (fun r j =>
    let (x, ow) := s.segGrain g c (i0 + j)
    let (ys, l) := if x.flags.gap then ([], {}) else s.samplesOf c g.epoch cfg x a b
    { smps := r.smps ++ ys, lsb := r.lsb.larger l, gap := r.gap || x.flags.gap, stale := r.stale || x.flags.stale,
      settle := r.settle || x.flags.settling, overR := r.overR || x.flags.overR, layer := r.layer || x.flags.layer,
      overwritten := r.overwritten + b2n ow, grains := r.grains + 1 }) {}

/-- Join what a step read to what an instance holds. -/
def joinLists : List (List Smp) → List (List Smp) → List (List Smp)
  | a :: r, b :: q => (a ++ b) :: joinLists r q
  | [], b => b
  | a, [] => a

/-- The values of a fully read instance (R206 to R214): its event, and what it adds to its plane. -/
def State.values (x : Inst) (s : State) : GateEv × Option Placed :=
  let c := x.cfg
  let ms := c.measures
  let base : GateEv := { what := 0, seq := x.seq, index := x.start, cond := 8 * b2n x.layer + 4 * b2n x.overR + 2 * b2n x.settle }
  if x.gap then ({ base with what := 1, fails := ms.map (fun m => (m, 4)) }, none)
  else if x.stale then ({ base with what := 2 }, none)
  else if (x.settle && bit c.policy 1) || (x.overR && bit c.policy 2) then ({ base with what := 3 }, none)
  else
    match s.entryOf x.seq with
    | none => ({ base with what := 1, fails := ms.map (fun m => (m, 4)) }, none)
    | some e =>
      let cs := onesBelow c.chans 4
      let cfgOf := fun k => e.seg.cfg.bolt k
      let meas := fun (i : Nat) =>
        chanMeas x.param ((cfgOf ((cs[i]?).getD 0)).mode == 4) x.start ((x.smps[i]?).getD []) ((x.lsb[i]?).getD {})
      let a := meas 0
      let b := if cs.length == 2 then some (meas 1) else none
      let minmax := (cfgOf (cs.headD 0)).mode == 2
      let minmax2 := cs.length == 2 && (cfgOf ((cs[1]?).getD 0)).mode == 2
      let half := (cfgOf (cs.headD 0)).mode == 4
      let prim := (x.smps[0]?).getD []
      let pl := s.planeOf c.plane
      let placed : Option Placed :=
        if c.plane == 65535 || pl.cfg.kind == 0 then none
        else if pl.cfg.kind == 1 then some (placeTime pl.cfg minmax half x.start x.len prim)
        else match x.cr with
          | some r => if minmax then some { unlocked := prim.length, nothing := true } else some (placeEye pl.cfg pl.mask (recover r (transitions r a)) a.wave)
          | none => some { unlocked := prim.length, nothing := true }
      let hits := if c.plane != 65535 && pl.cfg.kind == 3 then some ((placed.map (fun p => p.hits)).getD 0) else none
      let outs := ms.map (fun m => (m, measure (bit c.policy 0) minmax minmax2 x.param x.cr a b hits m))
      ({ base with vals := outs.filterMap (fun o => match o.2 with | .ok v => some (o.1, v) | .error _ => none),
                   fails := outs.filterMap (fun o => match o.2 with | .ok _ => none | .error w => some (o.1, w)) }, placed)

/-- Replace an instance. -/
def State.setInst (x : Inst) (s : State) : State :=
  { s with farm := { s.farm with insts := s.farm.insts.map (fun i => if i.id == x.id then x else i) } }

/-- Form the values of an instance and apply what follows: its plane's contribution, its gate's event (R203, R216, R236). -/
def State.finishInst (x : Inst) (s : State) : State :=
  let (ev, placed) := s.values x
  let run := x.run.getD 0
  let n := x.cfg.plane
  let s := if n != 65535 && !s.planeInUse n then s.sat O.ACCUM_NO_PLANE else s
  let s := match placed with
    | some p =>
      if x.noPlane then s
      else s.contribute n { ord := x.ord, seq := x.seq, run := run, chan := (onesBelow x.cfg.chans 4).headD 0, bins := p.bins,
                            outside := p.outside, unlocked := p.unlocked, hits := p.hits, nothing := p.nothing }
    | none => s
  let s := s.setInst { x with ev := some ev }
  let s := (s.wr O.INSTANCES_DONE (min (s.rd O.INSTANCES_DONE + 1) (2 ^ 64 - 1 : Nat))).bump (256 + run / 32)
  s.promote x.gate

/-! ### Runner faults (R224) -/

/-- Retire the runner at work on an instance; its tiles pass to the runner that takes its place, but for those that cannot be
read (R224, R242). -/
def State.retireRunner (x : Inst) (lostTiles : List (Nat × Nat)) (s : State) : State :=
  let run := x.run.getD 0
  let k := run / 32
  let r := run % 32
  let cl := s.cluster k
  let u := 0x0700 + k
  let s := s.supersede u
  let s := lostTiles.foldl (fun s t =>
    if s.farm.tiles.any (fun y => y.run == run && y.plane == t.1 && y.tile == t.2) then
      let p := s.planeOf t.1
      let s := s.setPlane t.1 { p with lost := true, lostTiles := min (p.lostTiles + 1) 65535 }
      { s with farm := { s.farm with tiles := s.farm.tiles.filter (fun y => !(y.run == run && y.plane == t.1 && y.tile == t.2)) } }
    else s) s
  let intr := s.within_ 500000
  let s := s.adv
  if cl.spareReady && s.mayLayer then
    let s := s.setCluster k { cl with retired := r :: cl.retired, layered := true, spareReady := false }
    let s := { s with farm := { s.farm with tiles := s.farm.tiles.map (fun (t : Tile) => if t.run == run then { t with run := 32 * k + 16 } else t) } }
    let s := ((s.setInst { x with run := some (32 * k + 16), retry := none }).countLayering true 2 u).bump 295
    (s.unitNoSpare u true).covered 0x05 u r 1 0 intr
  else
    let s := s.spillAll (fun t => t.run == run)
    let cl' := { cl with retired := r :: cl.retired }
    let s := ((s.setCluster k cl').setInst { x with run := none, retry := none, home := some k }).unitDegraded u true
    let s := s.covered 0x05 u r 2 0 intr
    if cl'.serving == 0 then
      ((s.setCluster k { cl' with empty := true, parked := true }).bump 296).covered 0x06 u 0xFFFF 2 0 0
    else s

/-- Sweep of channel c's gates: a write event each (R221). -/
def State.sweep (c : Nat) (s : State) : State :=
  (s.farm.gates.filter (fun g => g.2.cfg.enable && bit g.2.cfg.chans c)).foldl (fun s g => (s.queueEvent g.1 { what := 4 }).writeEvent g.1) s

end Sys2Proof.Machine
end

