-- ==== Sys2Proof/Machine/Sluice.lean ====
section
/-!
DEFINITION. The Sluice (chapter 04): slot configuration (R105, R126, R128), the qualifier vector (R94), evaluation of a grain
sample by sample (R98 to R104, R113), raster markers (R112, R114), and the cross-trigger bus (R118 to R120).
-/

namespace Sys2Proof.Machine

/-! ### Configuration -/

/-- The configuration that a slot's objects spell (R126). -/
def State.slotObjs (s : State) (n : Nat) : SlotCfg :=
  { kind := s.rdN (O.SLOT_KIND n), role := s.rdN (O.SLOT_ROLE n), ch := s.rdN (O.SOURCE_CH n), slope := s.rdN (O.SLOPE n),
    a := s.rd (O.LEVEL_A n), b := s.rd (O.LEVEL_B n), hyst := s.rd (O.HYST n), qv := s.rdN (O.QUAL_VALUE n),
    qm := s.rdN (O.QUAL_MASK n), pmode := s.rdN (O.PATTERN_MODE n), seqA := s.rdN (O.SEQ_A n), seqB := s.rdN (O.SEQ_B n),
    limit := s.rdN (O.SEQ_LIMIT n), rfMode := s.rdN (O.RASTER_FRAME_MODE n), rfVal := s.rdN (O.RASTER_FRAME_VALUE n),
    rfMod := s.rdN (O.RASTER_FRAME_MODULUS n), line := s.rdN (O.RASTER_LINE_SEL n), off := s.rdN (O.RASTER_OFFSET n),
    hmode := s.rdN (O.HOLDOFF_MODE n), htime := s.rdN (O.HOLDOFF_TIME n), hevents := s.rdN (O.HOLDOFF_EVENTS n) }

/-- The evaluation state of a slot starts afresh (R98, R101, R103, R121). -/
def Slot.restart (x : Slot) : Slot :=
  { x with armUp := false, armDown := false, prev := false, seqOpen := none, holdTo := none, skip := 0 }

/-- The slots' configurations, as far as the accepted writes lead (R30). -/
def Slot.cfgNext (x : Slot) : SlotCfg := match x.chgs.getLast? with | some (_, c) => c | none => x.cfg

/-- Can the configuration never occur (R99, R101)? `kinds` gives the slots' kinds. -/
def SlotCfg.invalid (kinds : Nat → Nat) (n : Nat) (c : SlotCfg) : Bool :=
  match c.kind with
  | 2 => c.a - c.b ≤ 2 * c.hyst
  | 4 => [c.seqA, c.seqB].any (fun m => m == n || kinds m == 4 || kinds m == 0)
  | _ => false

/-- INVALID of SLOT_STATUS, for the configurations being entered. -/
def State.slotInvalid (s : State) (n : Nat) : Bool :=
  (s.slot n).cfgNext.invalid (fun m => (s.slot m).cfgNext.kind) n

/-- The plan a slot is bound to, judged against the states being entered (R30, R105). -/
def State.boundTo (s : State) (n : Nat) : Option Nat :=
  planNos.find? (fun q => armedSt (s.plan q).entering && bit (s.plan q).cfgNext.slots n)

/-- A write to a slot's configuration: refused while it is bound, else on its way to the GRAIN domain (R105). -/
def writeSlot (n sub : Nat) (v : Int) (s : State) : WRes :=
  let x := s.slot n
  if (s.boundTo n).isSome then notNow Why.SLOT_IN_USE
  else
    let t := s.arrivalAfter (x.chgs.map (fun e => e.1))
    let s := (s.wr (O.SLOT_KIND n + sub - 1) v).adv
    .ok (s.setSlot n { x with chgs := x.chgs ++ [(t, s.slotObjs n)] })

/-- SLOT_CONFIG_WRITE: `sub` is 1 to 21. -/
def execSlotConfigWrite (p : Path) (n sub : Nat) (v : Int) (s : State) : Host.Outcome State Fault Refusal :=
  s.done (s.write p (O.SLOT_KIND n + sub - 1) v (writeSlot n sub v))

/-- A qualifier level written: in force from the next grain boundary after it reaches the GRAIN domain (R128). -/
def writeLevel (k : Nat) (v : Int) (s : State) : WRes :=
  let c := (k - O.QUAL_UPPER 0) / 256
  let t := s.arrivalAfter (s.sluice.lchgs.map (fun e => e.1))
  let s := (s.wr k v).adv
  .ok { s with sluice := { s.sluice with lchgs := s.sluice.lchgs ++
          [(t, c, s.rd (O.QUAL_UPPER c), s.rd (O.QUAL_LOWER c), s.rd (O.QUAL_HYST c))] } }

/-- Configurations whose boundary has come take effect (R105, R128). -/
def State.sluiceChanges (s : State) : State :=
  let now := s.clk.now
  let s := slotNos.foldl (fun s n =>
    let x := s.slot n
    if x.chgs.any (fun e => decide (e.1 ≤ now)) then
      let c := ((x.chgs.filter (fun e => decide (e.1 ≤ now))).getLast?.map (fun e => e.2)).getD x.cfg
      s.setSlot n { x.restart with cfg := c, chgs := x.chgs.filter (fun e => !decide (e.1 ≤ now)) }
    else s) s
  let sl := s.sluice
  { s with sluice := { sl with
      levels := (sl.lchgs.filter (fun e => decide (e.1 ≤ now))).foldl (fun t e => tset e.2.1 e.2.2 t) sl.levels,
      lchgs := sl.lchgs.filter (fun e => !decide (e.1 ≤ now)) } }

/-! ### Evaluation -/

/-- A slot event (R103): slot, sample, and where placement finds the crossing (R109). -/
structure SlotEv where
  slot : Nat
  s : Int
  place : Option (Nat × Int)
  deriving DecidableEq, Repr

/-- One slot during the evaluation of a grain. -/
structure SlotRun where
  n : Nat
  x : Slot
  ev : Option SlotEv := none
  events : Nat := 0
  excess : Nat := 0

/-- What one sample brings: its index, the four channels' values v (none: blind), the values before it, and the vector. -/
structure SampleIn where
  s : Int
  v : List (Option Int)
  before : List Int
  q : Nat
  raster : Raster

/-- An occurrence of a slot's condition before qualification: fires, and where. -/
abbrev Fire := Bool × Option (Nat × Int)

/-- EDGE (R98): arming and firing of one direction; `up` is RISE. -/
def edgeDir (up armed : Bool) (v l h : Int) : Bool × Bool :=
  let fire := armed && (if up then v ≥ l else v ≤ l)
  let arm := if up then v ≤ l - h else v ≥ l + h
  (fire, arm || (armed && !fire))

/-- The line that sample i belongs to (R113). -/
def Raster.lineOf (r : Raster) (i : Int) : Line := ((r.now :: r.past).find? (fun l => decide (l.start ≤ i))).getD {}

/-- The condition of a slot of kind EDGE, WINDOW, PATTERN or RASTER at one sample, and the slot after it. -/
def Slot.cond (i : SampleIn) (x : Slot) : Fire × Slot :=
  let c := x.cfg
  match c.kind with
  | 1 =>
    match (i.v[c.ch]?).getD none with
    | none => ((false, none), { x with armUp := false, armDown := false })
    | some v =>
      let (fu, au) := if c.slope != 1 then edgeDir true x.armUp v c.a c.hyst else (false, false)
      let (fd, ad) := if c.slope != 0 then edgeDir false x.armDown v c.a c.hyst else (false, false)
      ((fu || fd, some (c.ch, c.a)), { x with armUp := au, armDown := ad })
  | 2 =>
    match (i.v[c.ch]?).getD none with
    | none => ((false, none), { x with armUp := false, armDown := false })
    | some v =>
      if c.a - c.b ≤ 2 * c.hyst then ((false, none), { x with armUp := false, armDown := false })
      else
        let before := (i.before[c.ch]?).getD 0
        let band := c.b < v && v < c.a
        let fe := c.slope != 1 && x.armUp && band
        let fx := c.slope != 0 && x.armDown && !band
        let ae := c.slope != 1 && (v ≥ c.a + c.hyst || v ≤ c.b - c.hyst || (x.armUp && !fe))
        let ax := c.slope != 0 && ((c.b + c.hyst ≤ v && v ≤ c.a - c.hyst) || (x.armDown && !fx))
        let l := if fe then (if before ≥ c.a then c.a else c.b) else (if v ≥ c.a then c.a else c.b)
        ((fe || fx, some (c.ch, l)), { x with armUp := ae, armDown := ax })
  | 3 =>
    let m := i.q &&& c.qm == c.qv &&& c.qm
    ((m && (c.pmode == 0 || !x.prev), none), { x with prev := m })
  | 5 =>
    let ln := i.raster.lineOf i.s
    let ok :=
      match ln.line with
      | none => false
      | some k =>
        i.s == ln.start + c.off && (c.line == 65535 || k == c.line) &&
        (match c.rfMode with
         | 1 => ln.frame == c.rfVal
         | 2 => ln.frame % c.rfMod == c.rfVal % c.rfMod
         | _ => true)
    ((ok, none), x)
  | _ => ((false, none), x)

/-- Does the vector qualify a slot (R102)? A PATTERN's match is its own qualification. -/
def SlotCfg.qualified (c : SlotCfg) (q : Nat) : Bool := c.kind == 3 || q &&& c.qm == c.qv &&& c.qm

/-- A SEQUENCE slot at one sample, given the occurrences of SEQ_A and SEQ_B (R101). -/
def Slot.sequence (s : Int) (a b : Fire) (x : Slot) : Fire × Slot :=
  let open_ := match x.seqOpen with
    | some o => if x.cfg.limit != 0 && s > o + x.cfg.limit then none else some o
    | none => none
  if a.1 then ((false, none), { x with seqOpen := some s })
  else match open_ with
    | some _ => if b.1 then ((true, b.2), { x with seqOpen := none }) else ((false, none), { x with seqOpen := open_ })
    | none => ((false, none), { x with seqOpen := none })

/-- An occurrence meets the slot's holdoff: an event, an excess occurrence, or neither (R103, R104). -/
def SlotRun.occur (s : Int) (place : Option (Nat × Int)) (r : SlotRun) : SlotRun :=
  let c := r.x.cfg
  if c.role != 0 then r
  else
    let blocked :=
      match c.hmode with
      | 1 => match r.x.holdTo with | some h => decide (s ≤ h) | none => false
      | 2 => r.x.skip != 0
      | _ => false
    if blocked then (if c.hmode == 2 then { r with x := { r.x with skip := r.x.skip - 1 } } else r)
    else
      let x := if c.hmode == 2 then { r.x with skip := c.hevents } else r.x
      match r.ev with
      | none =>
        { r with x := if c.hmode == 1 then { x with holdTo := some (s + c.htime - 1) } else x,
                 ev := some { slot := r.n, s := s, place := place }, events := 1 }
      | some _ => { r with x := x, excess := r.excess + 1 }

/-- All slots at one sample. -/
def evalSample (i : SampleIn) (rs : List SlotRun) : List SlotRun :=
  let first := rs.map (fun r =>
    let (f, x) := r.x.cond i
    ((f.1 && r.x.cfg.qualified i.q, f.2), { r with x := x }))
  let occ := fun (n : Nat) => ((first.find? (fun e => e.2.n == n)).map (fun e => e.1)).getD (false, none)
  let kind := fun (n : Nat) => ((first.find? (fun e => e.2.n == n)).map (fun e => e.2.x.cfg.kind)).getD 0
  first.map (fun e =>
    let r := e.2
    if r.x.cfg.kind == 4 then
      if r.x.cfg.invalid kind r.n then { r with x := { r.x with seqOpen := none } }
      else
        let (f, x) := r.x.sequence i.s (occ r.x.cfg.seqA) (occ r.x.cfg.seqB)
        let r := { r with x := x }
        if f.1 && r.x.cfg.qualified i.q then r.occur i.s f.2 else r
    else if e.1.1 then r.occur i.s e.1.2
    else r)

/-- A channel's two qualifier bits after value `v` (R94). -/
def chanBits (c : Nat) (lv : Int × Int × Int) (v : Option Int) (b : Nat) : Nat :=
  match v with
  | none => setBit (setBit b c false) (4 + c) false
  | some v =>
    let up := if v ≥ lv.1 then true else if v < lv.1 - lv.2.2 then false else bit b c
    let lo := if v ≤ lv.2.1 then true else if v > lv.2.1 + lv.2.2 then false else bit b (4 + c)
    setBit (setBit b c up) (4 + c) lo

/-- The evaluation of a grain in progress. -/
structure Eval where
  rs : List SlotRun
  chBits : Nat
  before : List Int
  q : Nat := 0

/-- The value of channel c at position k of a grain: 64 x the code (R93), none over blind indices (R96). -/
def sampleValue (raws : List (Option RawGrain)) (k c : Nat) : Option Int :=
  match (raws[c]?).getD none with
  | some r => if r.blind then none else some (64 * (r.codes[k]?).getD 0)
  | none => none

/-- Evaluate one grain: every sample index of it, all slots (R92). -/
def evalGrain (raws : List (Option RawGrain)) (levels : Nat → Int × Int × Int) (pins : Nat) (raster : Raster) (i0 : Int)
    (e : Eval) : Eval :=
  -- a switch grain disarms EDGE and WINDOW slots of its channel and forgets its qualifier bits (R96)
  let sw := fun (c : Nat) => match (raws[c]?).getD none with | some r => r.switched | none => false
  let rs := e.rs.map (fun r =>
    if (r.x.cfg.kind == 1 || r.x.cfg.kind == 2) && sw r.x.cfg.ch then { r with x := { r.x with armUp := false, armDown := false } } else r)
  let bits0 := chanNos.foldl (fun b c => if sw c then setBit (setBit b c false) (4 + c) false else b) e.chBits
  (List.range 64).foldl (fun e k =>
    let vs := chanNos.map (sampleValue raws k)
    let b := chanNos.foldl (fun b c => chanBits c (levels c) ((vs[c]?).getD none) b) e.chBits
    let q := b + pins * 256
    let i : SampleIn := { s := i0 + (k : Nat), v := vs, before := e.before, q := q, raster := raster }
    { rs := evalSample i e.rs, chBits := b, before := vs.map (fun v => v.getD 0), q := q }) { e with rs := rs, chBits := bits0 }

/-- The vector's bits [15:8]: EXT_TRIG after polarity, CTB lines as received, 0 while CTB_CLK is absent (R94, R120). -/
def State.pinBits (s : State) (g : GrainIn) : Nat :=
  ((g.ext % 16) ^^^ (s.rdN O.EXT_TRIG_POLARITY % 16)) + (if s.sluice.ctbClk then g.ctb % 16 else 0) * 16

/-- Qualifier levels of a channel in force. -/
def State.levels (s : State) (c : Nat) : Int × Int × Int := tget (fun _ => (16384, -16384, 64)) s.sluice.levels c

/-- Evaluate the raw grains of one cycle: slots and counters after it, and the slot events in slot order. -/
def State.evaluate (raws : List (Option RawGrain)) (g : GrainIn) (i0 : Int) (s : State) : State × List SlotEv :=
  let rs : List SlotRun := (slotNos.filter (fun n => (s.slot n).cfg.kind != 0)).map (fun n => { n := n, x := s.slot n })
  let e := evalGrain raws s.levels (s.pinBits g) s.sluice.raster i0 { rs := rs, chBits := s.sluice.chBits, before := s.sluice.lastV }
  let s := { s with sluice := { s.sluice with chBits := e.chBits, lastV := e.before, qnow := e.q, ext := g.ext, ctbLevels := g.ctb } }
  let s := e.rs.foldl (fun s r =>
    let s := s.setSlot r.n r.x
    let s := if r.events == 0 then s else (s.sat (O.SLOT_EVENT_COUNT r.n)).bump (64 + r.n)
    if r.excess == 0 then s else (s.satBy (O.SLOT_EXCESS_COUNT r.n) r.excess).bumpBy (72 + r.n) r.excess) s
  (s, e.rs.filterMap (fun r => r.ev))

/-! ### Holdoff and sequence timers -/

/-- HOLDOFF_END (R103). -/
def State.holdoffEnd (n : Nat) (s : State) : State :=
  let x := s.slot n
  match x.holdTo with
  | some h => if h < s.idx then s.setSlot n { x with holdTo := none } else s
  | none => s

def execHoldoffEnd (n : Nat) (s : State) : Host.Outcome State Fault Refusal := s.done (s.holdoffEnd n)

/-- SEQUENCE_WINDOW_EXPIRE (R101): the limit has passed without SEQ_B. -/
def State.sequenceExpire (n : Nat) (s : State) : State :=
  let x := s.slot n
  match x.seqOpen with
  | some a => if x.cfg.limit != 0 && a + x.cfg.limit < s.idx then s.setSlot n { x with seqOpen := none } else s
  | none => s

def execSequenceWindowExpire (n : Nat) (s : State) : Host.Outcome State Fault Refusal := s.done (s.sequenceExpire n)

/-! ### Raster markers (R112 to R114) -/

/-- A line start enters the line-start log of 1,048,576 records (R202). -/
def State.logLine (m : Int) (s : State) : State :=
  let r := s.sluice.raster.now
  let e : LineRec := { frame := r.frame, line := r.line.getD 65535, start := m, epoch := s.dir.epochs % 256 }
  { s with farm := { s.farm with lines := tset (s.farm.lineNext % 1048576) e s.farm.lines, lineNext := s.farm.lineNext + 1 } }

/-- The lines that samples from `i` on belong to, of lines newest first. -/
def linesFrom (i : Int) : List Line → List Line
  | [] => []
  | l :: r => if l.start ≤ i then [l] else l :: linesFrom i r

/-- A new line begins. -/
def Raster.begin (r : Raster) (l : Line) (i : Int) : Raster := { r with now := l, past := linesFrom i (r.now :: r.past) }

/-- A line edge at sample m that came before the frame edge of the same sample is taken back: the frame edge is applied first, and the
line edge then ignored (R112). -/
def State.undoLine (m : Int) (s : State) : State :=
  let r := s.sluice.raster
  match r.past with
  | l :: p =>
    if r.lineEdge == some m && r.now.start == m && r.frameEdge != some m then
      { s with sluice := { s.sluice with raster := { r with now := l, past := p } }, farm := { s.farm with lineNext := s.farm.lineNext - 1 } }
    else s
  | [] => s

/-- RASTER_FRAME edge at sample m. -/
def State.frameEdge (m : Int) (s : State) : State :=
  let s := (s.undoLine m).bump 117
  let r := s.sluice.raster
  let known := r.now.line
  let f := match r.pendingCount with | some w => w | none => (r.now.frame + 1) % 2 ^ 32
  let r' : Raster :=
    { r.begin { start := m, line := some 0, frame := f } s.idx with
             frameEdge := some m, frameAt := some s.clk.now, pendingCount := none,
             lines := match known with | some k => k + 1 | none => r.lines,
             period := match known with | some _ => r.now.period | none => r.period }
  ({ s with sluice := { s.sluice with raster := r' } }).logLine m

/-- Is an edge of a raster marker its active edge? `b`: the marker's bit of RASTER_POLARITY (R112, R129). -/
def State.rasterActive (s : State) (b : Nat) (rising : Bool) : Bool := rising != bit (s.rdN O.RASTER_POLARITY) b

/-- RASTER_FRAME_EDGE: the other edge of the marker does nothing. -/
def execRasterFrameEdge (m : Marker) (s : State) : Host.Outcome State Fault Refusal :=
  s.done (if s.rasterActive 0 m.rising then s.frameEdge m.at_ else s)

/-- RASTER_LINE edge at sample m: ignored fewer than 64 samples after a frame edge; logged (R202). -/
def State.lineEdge (m : Int) (s : State) : State :=
  let r := s.sluice.raster
  let s := { s.bump 118 with sluice := { s.sluice with raster := { r with lineEdge := some m, lineAt := some s.clk.now } } }
  let r := s.sluice.raster
  let near := match r.frameEdge with | some f => decide (m - f < 64) | none => false
  if near then s
  else
    let l : Line :=
      { r.now with start := m, line := r.now.line.map (fun k => min (k + 1) 65534),
                   period := match r.now.line with | some _ => (m - r.now.start).toNat | none => 0 }
    ({ s with sluice := { s.sluice with raster := r.begin l s.idx } }).logLine m

/-- RASTER_LINE_EDGE: the other edge of the marker does nothing. -/
def execRasterLineEdge (m : Marker) (s : State) : Host.Outcome State Fault Refusal :=
  s.done (if s.rasterActive 1 m.rising then s.lineEdge m.at_ else s)

/-- RASTER_PRESENT (R114): a frame edge within 2^32 samples and a line edge within 2^24. -/
def State.rasterPresent (s : State) : Bool :=
  match s.sluice.raster.frameAt, s.sluice.raster.lineAt with
  | some f, some l => decide (s.clk.now ≤ f + 2 ^ 32) && decide (s.clk.now ≤ l + 2 ^ 24)
  | _, _ => false

/-- RASTER_ABSENT (R114): markers that have grown too old are forgotten. -/
def State.rasterAbsent (s : State) : State :=
  let r := s.sluice.raster
  { s with sluice := { s.sluice with raster :=
      { r with frameAt := r.frameAt.filter (fun f => decide (s.clk.now ≤ f + 2 ^ 32)),
               lineAt := r.lineAt.filter (fun l => decide (s.clk.now ≤ l + 2 ^ 24)) } } }

def execRasterAbsent (s : State) : Host.Outcome State Fault Refusal := s.done s.rasterAbsent

/-- RASTER_FRAME_COUNT written: applied at the next frame edge (R112). -/
def writeFrameCount (v : Int) (s : State) : WRes :=
  .ok { s with sluice := { s.sluice with raster := { s.sluice.raster with pendingCount := some v.toNat } } }

def execRasterFrameCountWrite (p : Path) (v : Int) (s : State) : Host.Outcome State Fault Refusal :=
  s.done (s.write p O.RASTER_FRAME_COUNT v (writeFrameCount v))

/-- Are the samples from `a` to `b` all raster blanking (R114)? -/
def State.blanking (s : State) (a b : Int) : Bool :=
  let r := s.sluice.raster.now
  s.rasterPresent &&
  match r.line with
  | none => false
  | some k =>
    let l0 := s.rdN O.ACTIVE_LINE_FIRST
    let s0 : Int := s.rd O.ACTIVE_SAMPLE_FIRST
    let s1 : Int := s0 + s.rd O.ACTIVE_SAMPLE_COUNT
    k < l0 || l0 + s.rdN O.ACTIVE_LINE_COUNT ≤ k || s1 == s0 || decide (b - r.start < s0) || decide (s1 ≤ a - r.start)

/-! ### The cross-trigger bus (R118 to R120) -/

/-- Period of CTB_CLK: 8.0 ns. -/
def ctbCycle : Nat := 640

/-- The role of CTB line l (R440). -/
def State.ctbRole (s : State) (l : Nat) : Nat := s.rdN (O.CTB_ROLE l)

/-- A dressing pass on the Sluice is past WAITING: TRIG_OUT and the CTB trigger lines stay deasserted (R122). -/
def State.sluiceIsolated (s : State) : Bool := s.dress.passes.any (fun p => p.unit == 0x0500 && 2 ≤ p.stage)

/-- TRIG_OUT and the CTB trigger lines are deasserted, and nothing that awaits them is left. -/
def State.quietTrig (s : State) : State :=
  { s with pins := { s.pins with pulses := [], ctbDrive := [] }, sluice := { s.sluice with ctbPending := false } }

/-- Is TRIG_OUT asserted now (R115)? -/
def State.trigOutNow (s : State) : Bool :=
  s.rd O.TRIG_OUT_MODE != 0 && s.pins.pulses.any (fun p => decide (p.from_ ≤ s.clk.now) && decide (s.clk.now < p.until_))

/-- Is ball TRIG_OUT_P above TRIG_OUT_N (R123)? -/
def State.trigOutBall (s : State) : Bool := s.trigOutNow != (s.rd O.TRIG_OUT_POLARITY == 1)

/-- CTB_TRIGGER_ASSERT (R118): the assertion that crossed the synchroniser drives each TRIGGER line for one CTB cycle. -/
def State.ctbAssert (s : State) : State :=
  if s.sluice.ctbPending && s.sluice.ctbClk && !s.sluiceIsolated then
    { s with sluice := { s.sluice with ctbPending := false },
             pins := { s.pins with ctbDrive := ((List.range 4).filter (fun l => s.ctbRole l == 1)).map (fun l => (l, s.clk.now + ctbCycle)) } }.bump 113
  else s

def execCtbTriggerAssert (s : State) : Host.Outcome State Fault Refusal := s.done s.ctbAssert

/-- The three ANSWER conditions over the plans of the mask (R119): bit 0 ARMED, 1 FILLED, 2 PENDING. -/
def State.ctbConditions (s : State) : Nat :=
  let mask := s.rdN O.CTB_ANSWER_PLANS
  let ps := (planNos.filter (fun q => bit mask q)).map s.plan
  at_ (ps.all (fun p => armedSt p.st)) 0
    + at_ (ps.all (fun p => armedSt p.st && (p.st != 1 || decide (p.fill ≤ s.idx)))) 1
    + at_ (ps.any (fun p => p.st == 3 || p.st == 4)) 2

/-- Remember the conditions as they stand, for the 32 ns that R119 looks back. -/
def State.noteConditions (s : State) : State :=
  let c := s.ctbConditions
  match s.sluice.condHist with
  | (_, d) :: _ => if c == d then s else { s with sluice := { s.sluice with condHist := ((s.clk.now, c) :: s.sluice.condHist).take 48 } }
  | [] => { s with sluice := { s.sluice with condHist := [(s.clk.now, c)] } }

/-- The conditions at time `t`. -/
def State.conditionsAt (s : State) (t : Time) : Nat :=
  match s.sluice.condHist.find? (fun e => decide (e.1 ≤ t)) with
  | some (_, c) => c
  | none => s.ctbConditions

/-- CTB_QUERY at a CTB_CLK edge (R119, R440): with QUERY asserted the ANSWER lines carry the conditions of one instant between
32.0 and 16.0 ns before; at the first edge with QUERY deasserted they are released. -/
def State.ctbQuery (asserted : Bool) (s : State) : State :=
  if !s.sluice.ctbClk || !(List.range 4).any (fun l => s.ctbRole l == 2) then s
  else if asserted then
    let c := s.conditionsAt (s.clk.now - 1280 - s.fv 1281)
    let sense := s.rdN O.CTB_ANSWER_SENSE
    let drive := (List.range 4).filter (fun l => 3 ≤ s.ctbRole l && bit (c ^^^ sense) (s.ctbRole l - 3))
    let s := ((s.sat O.CTB_QUERIES).bump 114).adv
    { s with sluice := { s.sluice with ctbAnswer := c },
             pins := { s.pins with ctbAnswering := true, ctbAnswers := if s.rd O.CTB_ANSWER_PLANS == 0 then [] else drive } }
  else { s with pins := { s.pins with ctbAnswering := false, ctbAnswers := [] } }

def execCtbQuery (asserted : Bool) (s : State) : Host.Outcome State Fault Refusal := s.done (s.ctbQuery asserted)

/-- CTB_CLK_ABSENT and CTB_CLK_PRESENT (R120). -/
def State.ctbAbsent (s : State) : State :=
  { s with sluice := { s.sluice with ctbClk := false }, pins := { s.pins with ctbDrive := [], ctbAnswering := false, ctbAnswers := [] } }

def execCtbClkAbsent (s : State) : Host.Outcome State Fault Refusal := s.done s.ctbAbsent

def State.ctbPresent (s : State) : State := { s with sluice := { s.sluice with ctbClk := true } }

def execCtbClkPresent (s : State) : Host.Outcome State Fault Refusal := s.done s.ctbPresent

/-! ### LAST_TRIG_INDEX (R123) -/

/-- A read of LAST_TRIG_INDEX latches its companions. -/
def State.latchTrig (s : State) : State := { s with sluice := { s.sluice with latched := s.sluice.last } }

end Sys2Proof.Machine
end

