-- ==== Sys2Proof/Machine/Plans.lean ====
section
/-!
DEFINITION. Plans and segments (chapter 05): the configuration a plan binds (R130, R131, R159), allocations (R133, R170),
plan commands (R136 to R143), their effect at g_B (R137), triggers and segments (R106, R107, R145 to R151), cuts (R154, R155), grains
leaving the Headrace's delay for the store (R25, R60, R61, R134, R148, R172),
and plan objects (R144, R157).
-/

namespace Sys2Proof.Machine

/-! ### Configuration -/

/-- The configuration that a plan's objects spell (R158). -/
def State.planObjs (s : State) (q : Nat) : PlanCfg :=
  { chset := s.rdN (O.CHANNEL_SET q),
    bolters := [s.rdN (O.BOLTER_A q), s.rdN (O.BOLTER_B q), s.rdN (O.BOLTER_C q), s.rdN (O.BOLTER_D q)],
    slots := s.rdN (O.SLOTS q), policy := s.rdN (O.POLICY q), pre := s.rdN (O.PRE_GRAINS q), post := s.rdN (O.POST_GRAINS q),
    segs := s.rdN (O.SEGMENT_COUNT q), alloc := s.rdN (O.ALLOC_GRAINS q), ring := s.rdN (O.RING_LENGTH q),
    gateFirst := s.rdN (O.GATE_FIRST q), gateCount := s.rdN (O.GATE_COUNT q), hostRel := s.rd (O.DIR_HOST_RELEASE q) == 1 }

/-- A write to a plan's configuration object, `sub` 2 to 16 (R144, R159). -/
def writePlan (q sub : Nat) (v : Int) (s : State) : WRes :=
  let k := O.PLAN_STATE q + sub - 1
  let e := (s.plan q).entering
  let w := v.toNat
  let held := [2, 3, 4, 5, 6, 8, 12, 13].contains sub
  let isBolter := 3 ≤ sub && sub ≤ 6
  if armedSt e then notNow Why.PLAN_ARMED
  else if e == 5 && held then notNow Why.PLAN_RETAINING
  else if isBolter && bits w 31 28 > 4 then bad Why.RESERVED_VALUE
  else if isBolter && bits w 31 28 == 3 && bits w 27 24 != 1 && bits w 27 24 != 2 then bad Why.VALUE_RANGE
  else if isBolter && (bits w 31 28 == 1 || bits w 31 28 == 2) && (bits w 20 0 == 0 || 1048575 < bits w 20 0) then bad Why.VALUE_RANGE
  else s.put k v

/-! ### Allocations (R133, R169, R170) -/

/-- Allocations that a plan holds on channel c, base and length: until it enters IDLE, and from the acceptance of an ARM (R133, R170). -/
def Plan.allocs (p : Plan) (c : Nat) : List (Nat × Nat) :=
  (if p.st != 0 && bit p.cfg.chset c then [(p.base, p.cfg.alloc)] else []) ++
    p.cmds.filterMap (fun m => match m.arm with
      | some a => if bit a.cfg.chset c then some (a.base, a.cfg.alloc) else none
      | none => none)

/-- Allocations held on channel c. -/
def State.allocs (s : State) (c : Nat) : List (Nat × Nat) := planNos.flatMap (fun q => (s.plan q).allocs c)

/-- Does the range from `b` of `n` grains lie free in the share of channel c? -/
def State.fits (s : State) (c b n : Nat) : Bool :=
  b + n ≤ s.share c && (s.allocs c).all (fun a => b + n ≤ a.1 || a.1 + a.2 ≤ b)

/-- The lowest base at which an allocation fits every channel (R170): 0 or the end of another allocation. -/
def State.placeAlloc (s : State) (chs : List Nat) (n : Nat) : Option Nat :=
  let cand := 0 :: chs.flatMap (fun c => (s.allocs c).map (fun a => a.1 + a.2))
  (cand.filter (fun b => chs.all (fun c => s.fits c b n))).foldl
    (fun m b => match m with | none => some b | some a => some (min a b)) none

/-- LARGEST_FREE: the longest free run of offsets in a share (R170). -/
def State.largestFree (s : State) (c : Nat) : Nat :=
  let as := s.allocs c
  let starts := 0 :: as.map (fun a => a.1 + a.2)
  let run := fun b =>
    if as.any (fun a => decide (a.1 ≤ b) && decide (b < a.1 + a.2)) then 0
    else (as.filter (fun a => decide (b ≤ a.1))).foldl (fun m a => min m (a.1 - b)) (s.share c - b)
  starts.foldl (fun m b => max m (run b)) 0

/-! ### Grain numbers -/

/-- The first grain whose input span begins at or after sample b (R137). -/
def BolterCfg.grainFrom (c : BolterCfg) (o b : Int) : Int :=
  if b ≤ o then 0 else max 0 ((b - o - 1 - c.tail + c.d + c.period - 1) / c.period)

/-- That grain for a plan: the same number on every channel (R137). -/
def PlanCfg.grainFrom (c : PlanCfg) (o b : Int) : Int :=
  c.chans.foldl (fun m ch => max m ((c.bolt ch).grainFrom o b)) 0

/-- First sample of the input span of a plan's grain k, the latest over its channels. -/
def PlanCfg.spanStart (c : PlanCfg) (o k : Int) : Int :=
  c.chans.foldl (fun m ch => max m ((c.bolt ch).spanStart o k)) o

/-- First sample of the reported range of a plan's grain k (R132). -/
def Plan.reported (p : Plan) (o k : Int) : Int := o + k * p.p - p.g

/-- The fill instant for a segment whose first grain taken is g0 (R146). -/
def Plan.fillFrom (p : Plan) (o g0 : Int) : Int := p.reported o (g0 + p.cfg.pre)

/-- The allocation offset of grain j, given the bay number and g0 of the segment being filled (R148). -/
def Plan.position (p : Plan) (bay : Nat) (g0 j : Int) : Nat :=
  if p.cfg.policy == 2 then ((j - p.ringBase) % (max p.cfg.ring 1 : Nat)).toNat
  else (if p.cfg.policy == 1 then bay * p.cfg.size else 0) + ((j - g0) % (max p.cfg.size 1 : Nat)).toNat

/-! ### ARM (R138, R139) -/

/-- A failed check of R138. -/
def armFail (q reason : Nat) : WRes := .error { abort := Why.badState, reason := reason, plan := q }

/-- Write an object that ARM sets, as a host write would (R74). -/
def State.applyBolter (c : Nat) (b : BolterCfg) (t : Time) (s : State) : State :=
  let old := s.bolterObjs c
  if old.same b then s
  else
    let s := s.wr (O.MODE c) b.mode
    let s := if b.mode == 3 then s.wr (O.PRESET c) b.preset else s
    let s := if b.mode == 1 || b.mode == 2 then s.wr (O.FACTOR c) b.factor else s
    let new := s.bolterObjs c
    s.modChan c (fun ch => { ch with chgs := ch.chgs ++ [(t, new)] })

/-- Check and arm one plan of the mask, on the state its lower-numbered fellows leave (R138, R139). `t` is B. -/
def armOne (t : Time) (batch q : Nat) (s : State) : WRes :=
  let c := s.planObjs q
  let p := s.plan q
  let chs := c.chans
  let b0 := c.bolt (chs.headD 0)
  let others := (planNos.filter (fun r => r != q && armedSt (s.plan r).entering)).map (fun r => (s.plan r).cfgNext)
  let len := if c.policy == 2 then c.ring else c.alloc
  if armedSt p.entering then armFail q Why.PLAN_ARMED
  else if p.entering == 5 then armFail q Why.PLAN_RETAINING
  else if chs.isEmpty then armFail q Why.PLAN_EMPTY
  else if chs.any (fun ch => !(s.chan ch).ready || s.asleep) then armFail q Why.CHANNEL_NOT_READY
  else if chs.any (fun ch => (c.bolt ch).mode == 2 && (c.bolt ch).factor < 4) then armFail q Why.BOLTER_RATE
  else if chs.any (fun ch => (c.bolt ch).period != b0.period || (c.bolt ch).g != b0.g) then armFail q Why.PLAN_GRAIN_MISMATCH
  else if chs.any (fun ch => others.any (fun r => bit r.chset ch && !(r.bolt ch).same (c.bolt ch))) then
    armFail q Why.BOLTER_MODE_CONFLICT
  else if chs.any (fun ch => ((others.filter (fun r => bit r.chset ch)).length + 1) * 64 > b0.period) then
    armFail q Why.HEADRACE_SHARE
  else if s.dress.active.contains 0x0500 then armFail q Why.SLUICE_DRESSING
  else if (onesBelow c.slots 8).any (fun n =>
      (s.slot n).cfgNext.kind == 0 || (s.slot n).cfgNext.role == 1 || s.slotInvalid n) then armFail q Why.SLUICE_SLOT_INVALID
  else if (onesBelow c.slots 8).any (fun n => (s.boundTo n).isSome) then armFail q Why.SLOT_IN_USE
  else if c.policy == 2 && c.ring > c.alloc then armFail q Why.RING_EXCEEDS_ALLOCATION
  else if c.post + c.pre > len then armFail q Why.POST_EXCEEDS_ALLOCATION
  else if c.policy == 1 && c.segs * c.size > c.alloc then armFail q Why.SEGMENTS_EXCEED_ALLOCATION
  else if c.gateFirst + c.gateCount > 65536 then armFail q Why.GATE_RANGE
  else
    match s.placeAlloc chs c.alloc with
    | none => armFail q Why.STORE_ALLOCATION
    | some base =>
      if s.gov.closed then armFail q Why.GOVERNOR_LIMIT
      else
        let s := chs.foldl (fun s ch => s.applyBolter ch (c.bolt ch) t) s
        let a : PlanArm := { cfg := c, p := b0.period, g := b0.g, base := base }
        .ok (s.setPlan q { p with cmds := p.cmds ++ [{ code := 1, b := t, batch := batch, arm := some a }] })

/-- Apply `f` to each named plan in ascending order; the first refusal refuses all (R136, R138). -/
def forPlans (f : Nat → State → WRes) : List Nat → State → WRes
  | [], s => .ok s
  | q :: qs, s =>
    match f q s with
    | .ok s => forPlans f qs s
    | .error r => .error r

/-- A new plan command begins: its number. -/
def State.newBatch (s : State) : State := { s with dir := { s.dir with batch := s.dir.batch + 1 } }

/-- When a plan command accepted now reaches the GRAIN domain: commands arrive in their order (R23, R137). -/
def State.cmdArrival (s : State) : Time := s.arrivalAfter (planNos.flatMap (fun q => (s.plan q).cmds.map (fun c => c.b)))

/-- ARM of a mask; a refusal by the Governor is counted (R346). What a plan still waits to obtain by a STOP, its ARM releases (log entry 92). -/
def cmdArm (mask : Nat) (s : State) : WRes :=
  let t := s.cmdArrival
  let s := s.newBatch.adv
  forPlans (armOne t s.dir.batch) (onesBelow mask 16) s

/-! ### STOP, HOLD, FORCE, RELEASE (R140 to R143) -/

/-- A command joins each named plan that it concerns. -/
def sendCmd (code : Nat) (concerns : Plan → Bool) (mask : Nat) (s : State) : State :=
  let t := s.cmdArrival
  let s := s.newBatch.adv
  (onesBelow mask 16).foldl (fun s q =>
    let p := s.plan q
    if concerns p then s.setPlan q { p with cmds := p.cmds ++ [{ code := code, b := t, batch := s.dir.batch }] } else s) s

/-- STOP (R140): no effect on a plan in RETAINING or IDLE. -/
def cmdStop (mask : Nat) (s : State) : WRes := .ok (sendCmd 2 (fun p => armedSt p.entering) mask s)

/-- HOLD (R141): no effect on a plan in RETAINING, IDLE or FINISHING. -/
def cmdHold (mask : Nat) (s : State) : WRes :=
  .ok (sendCmd 3 (fun p => armedSt p.entering && p.entering != 4) mask s)

/-- FORCE (R142): refused when every named plan is IDLE or RETAINING. -/
def cmdForce (mask : Nat) (s : State) : WRes :=
  if (onesBelow mask 16).all (fun q => !armedSt (s.plan q).entering) then notNow Why.PLAN_NOT_ARMED
  else .ok (sendCmd 4 (fun p => armedSt p.entering) mask s)

/-- Entries of a plan are released at once, open ones too; what still waits in the queue obtains no entry (R143, R150). -/
def State.releaseEntries (q : Nat) (s : State) : State :=
  let gone := fun (id : Nat) => match tfind s.dir.segs id with | some g => g.plan == q | none => true
  let rows := s.dir.rows.map (fun e => if e.2.seg.plan == q && e.2.state != 3 then (e.1, { e.2 with state := 3 }) else e)
  { s with dir := { s.dir with rows := rows, segs := s.dir.segs.filter (fun e => e.2.plan != q), queue := s.dir.queue.filter (fun id => !gone id) } }

/-- The oldest unreleased entry: pass over released and withdrawn rows (R150). `n` bounds the search by the rows in use. -/
def oldestFrom (rows : Tbl Entry) : Nat → Nat → Nat
  | 0, q => q
  | n + 1, q =>
    match tfind rows (q % 262144) with
    | some e => if e.state == 3 && e.seq == q then oldestFrom rows n ((q + 1) % 2 ^ 32) else q
    | none => oldestFrom rows n ((q + 1) % 2 ^ 32)

/-- Rows in use: unreleased entries between the oldest and the next sequence. -/
def State.rowsUsed (s : State) : Nat := (s.dir.nextSeq + 2 ^ 32 - s.dir.oldest) % 2 ^ 32

/-- After releases: the oldest unreleased entry, and when the Sluice's view learns of the rows freed, at most 20 ns later
(R151). -/
def State.advanceOldest (s : State) : State :=
  let o := oldestFrom s.dir.rows s.rowsUsed s.dir.oldest
  let freed := (o + 2 ^ 32 - s.dir.oldest) % 2 ^ 32
  { s with dir := { s.dir with
      oldest := o,
      unseen := (s.dir.unseen.filter (fun t => decide (s.clk.now < t))) ++ List.replicate freed (s.clk.now + s.fv 1601) } }.adv

/-- A plan's allocation is freed: records of its grains leave the gap list (R170, R186), its entries are released. -/
def State.freePlan (q : Nat) (s : State) : State :=
  let s := s.releaseEntries q
  let p := s.plan q
  let s := p.cfg.chans.foldl (fun s c => s.forget (s.shareBase c + p.base) p.cfg.alloc) s
  s.advanceOldest

/-- A plan in RETAINING is released: it enters IDLE (R143). -/
def State.releasePlan (q : Nat) (s : State) : State :=
  let s := (s.dropWork q).freePlan q
  s.setPlan q { s.plan q with st := 0, seg := none, force := none }

/-- RELEASE (R143): of a plan that is still on its way to RETAINING, behind the commands that lead it there (R30, R137). -/
def cmdRelease (mask : Nat) (s : State) : WRes :=
  match (onesBelow mask 16).find? (fun q => armedSt (s.plan q).entering) with
  | some q => .error { abort := Why.badState, reason := Why.PLAN_ARMED, plan := q }
  | none =>
    let s := (onesBelow mask 16).foldl (fun s q => if (s.plan q).cmds.isEmpty && (s.plan q).st == 5 then s.releasePlan q else s) s
    .ok (if (onesBelow mask 16).any (fun q => (s.plan q).entering == 5) then sendCmd 5 (fun p => p.entering == 5) mask s else s)

/-! ### Segments -/

/-- Close a segment early: its last grain becomes `stop - 1`, never before its trigger grain; flag bits join its summary (R140, R154,
R155). -/
def Seg.close (stop : Int) (bitsSet : List Nat) (g : Seg) : Seg :=
  let stop := min g.stop (max stop (g.k + 1))
  { g with stop := stop, flags := bitsSet.foldl (fun f b => setBit f b true) g.flags }

/-- Change a segment and, when its entry is open, the entry with it (R152). -/
def State.setSeg (id : Nat) (g : Seg) (s : State) : State :=
  let d := { s.dir with segs := tset id g s.dir.segs }
  match g.seq with
  | some q =>
    match tfind d.rows (q % 262144) with
    | some e => { s with dir := { d with rows := tset (q % 262144) { e with seg := g, count := (g.stop - g.first).toNat } d.rows } }
    | none => { s with dir := d }
  | none => { s with dir := d }

/-- The last grain of a segment cut short carries SEGEND, where it is stored already (R145; its CRC: log entry 101). -/
def State.endStored (g : Seg) (s : State) : State :=
  let n := (g.stop - 1 - g.first).toNat
  (onesBelow g.chset 4).foldl (fun s c =>
    let r := s.address g.plan c (g.offset n)
    match tfind s.pond.grains r with
    | some x =>
      if x.gen == g.gen && x.index == g.startIdx + n * g.p then
        { s with pond := { s.pond with grains := tset r { x with flags := { x.flags with segEnd := true } } s.pond.grains } }
      else s
    | none => s) s

/-- Close a segment early, as `g` (R140, R154, R155). -/
def State.endSeg (id : Nat) (g : Seg) (s : State) : State := (s.setSeg id g).endStored g

/-- The segments of a plan not yet COMPLETE. -/
def State.segsOf (s : State) (q : Nat) : List (Nat × Seg) := s.dir.segs.filter (fun e => e.2.plan == q)

/-- Close every segment of a plan that reaches past grain `stop - 1`. -/
def State.closeSegs (q : Nat) (stop : Int) (flag : List Nat) (s : State) : State :=
  (s.segsOf q).foldl (fun s e =>
    if stop < e.2.stop && e.2.gen == s.origin.gen then (s.endSeg e.1 (e.2.close stop flag)).bump (if flag == [8] then 163 else 162) else s) s

/-- A plan stops at grain gB (R140); `flag` 7 STOPPED or 8 FAULT_CLOSED. -/
def State.stopPlan (q : Nat) (gB : Int) (flag : Nat) (s : State) : State :=
  let s := s.closeSegs q gB [flag]
  let p := s.plan q
  let st := if p.entries != 0 then 5 else 0
  let s := s.setPlan q { p with st := st, until_ := some gB, seg := none, force := none }
  if st == 0 then s.freePlan q else s

/-- g_B of a command, and the sample at which it takes effect (R137): the first of g_B, in its reported range, but not before B; for
FORCE the first of g_B's input span (R142). Log entry 82. -/
def State.cmdAt (s : State) (p : Plan) (c : PlanCmd) : Int × Int :=
  let p := match c.arm with | some a => { p with cfg := a.cfg, p := a.p, g := a.g } | none => p
  let o := s.origin.o
  let b := max o (s.idxAt c.b)
  let g := p.cfg.grainFrom o b
  (g, if c.code == 4 then p.cfg.spanStart o g else max b (p.reported o g))

/-- The effect of a command on a plan at its grain `g`; `x` is the sample at which it takes effect (R139 to R143). -/
def State.planEffect (q : Nat) (c : PlanCmd) (g x : Int) (s : State) : State :=
  let p := s.plan q
  let s := { s with dir := { s.dir with started := c.batch :: s.dir.started.filter (· != c.batch) } }
  let s := s.setPlan q { p with cmds := p.cmds.drop 1 }
  let p := s.plan q
  match c.code with
  | 1 =>
    match c.arm with
    | some a =>
      let s := if p.st == 5 then s.releasePlan q else s
      let p := { s.plan q with cfg := a.cfg, p := a.p, g := a.g, base := a.base, arms := p.arms + 1 }
      let f := max (max s.origin.o (s.idxAt c.b)) (p.fillFrom s.origin.o g)
      s.setPlan q { p with st := if f ≤ p.cfg.spanStart s.origin.o g then 2 else 1, g0 := g, fill := f, from_ := g, until_ := none,
                           ringBase := g, segNo := 0, done := 0, taken := 0, entries := 0, extent := 0, lastNum := [], seg := none,
                           force := none }
    | none => s
  | 2 => if armedSt p.st then s.stopPlan q g 7 else s
  | 3 =>
    if p.st == 3 then s.setPlan q { p with st := 4 }
    else if p.st == 1 || p.st == 2 then s.stopPlan q g 7
    else s
  | 4 =>
    if p.st == 2 then s.setPlan q { p with force := some x }
    else if p.st == 1 then s.setPlan q { p with force := some p.fill }
    else if p.st == 3 || p.st == 4 then s.sat (O.FORCE_IGNORED q)
    else s
  | _ => if p.st == 5 then s.releasePlan q else s

/-- A plan's first waiting command takes effect where its sample is `x` or earlier. -/
def State.cmdEffect (q : Nat) (x : Int) (s : State) : State :=
  match (s.plan q).cmds with
  | c :: _ => if (s.cmdAt (s.plan q) c).2 ≤ x then s.planEffect q c (s.cmdAt (s.plan q) c).1 (s.cmdAt (s.plan q) c).2 else s
  | [] => s

/-- PLAN_COMMAND_EFFECT (R137): the sample has come. -/
def State.planCommandEffect (q : Nat) (s : State) : State := s.cmdEffect q s.idx

def execPlanCommandEffect (q : Nat) (s : State) : Host.Outcome State Fault Refusal := s.done (s.planCommandEffect q)

/-- The last grain of the pending segment's post-trigger part is over by sample `x`: the plan re-arms, or enters RETAINING (R146, R147). -/
def State.segEnd (q : Nat) (x : Int) (s : State) : State :=
  let p := s.plan q
  match p.seg with
  | some (id, e) =>
    if e ≤ x then
      let k : Int := match tfind s.dir.segs id with | some g => g.k | none => p.g0
      let n := p.segNo + 1
      let overR := p.st == 4 || p.cfg.policy == 0 || (p.cfg.policy == 1 && p.cfg.segs ≤ n)
      let g0 := k + p.cfg.post
      if overR then
        s.setPlan q { p with st := 5, seg := none, segNo := n, until_ := some g0 }
      else
        let f := p.fillFrom s.origin.o g0
        s.setPlan q { p with st := if f ≤ x then 2 else 1, seg := none, segNo := n, g0 := g0, fill := f }
    else s
  | none => s

/-- SEGMENT_END: the sample has come. -/
def State.segmentEnd (q : Nat) (s : State) : State := s.segEnd q s.idx

def execSegmentEnd (q : Nat) (s : State) : Host.Outcome State Fault Refusal := s.done (s.segmentEnd q)

/-- The fill instant: FILLING becomes READY (R146). -/
def State.fillInstant (q : Nat) (x : Int) (s : State) : State :=
  let p := s.plan q
  if p.st == 1 && p.fill ≤ x then s.setPlan q { p with st := 2 } else s

/-- A plan's own change of state is a step of STATE_SEQUENCE (R408). -/
def State.planNoted (q : Nat) (s0 s : State) : State := if (s.plan q).st == (s0.plan q).st then s else s.noteStates

/-- What comes about first for a plan, and at which sample: the end of its segment, its fill instant, or a command, in this order where
they fall together (R106, R137, R146). -/
def State.planFirst (s : State) (q : Nat) : Option (Int × Nat) :=
  let p := s.plan q
  let es := (match p.seg with | some (_, e) => [(e, 0)] | none => []) ++ (if p.st == 1 then [(p.fill, 1)] else []) ++
    (match p.cmds with | c :: _ => [((s.cmdAt p c).2, 2)] | [] => [])
  es.foldl (fun m e => match m with | none => some e | some a => some (if e.1 < a.1 then e else a)) none

/-- All that comes about for plan q up to sample x, in the order of the samples; `n` bounds how much. -/
def State.planActs (q : Nat) (x : Int) : Nat → State → State
  | 0, s => s
  | n + 1, s =>
    match s.planFirst q with
    | none => s
    | some (i, k) =>
      if x < i then s
      else State.planActs q x n (State.planNoted q s (match k with | 0 => s.segEnd q i | 1 => s.fillInstant q i | _ => s.cmdEffect q i))

/-- A plan as of sample x: each command, and each segment, ends one stretch of filling at most. -/
def State.planUpTo (q : Nat) (x : Int) (s : State) : State := s.planActs q x (3 * (s.plan q).cmds.length + 4)

/-! ### Triggers (R106, R107, R151) -/

/-- Rows that the Sluice believes free (R151). -/
def State.freeView (s : State) : Nat :=
  262144 - s.rowsUsed - s.dir.queue.length - (s.dir.unseen.filter (fun t => decide (s.clk.now < t))).length

/-- Flags that the stored grains of a segment's pre-trigger part already carry (R152, R162), and SEGSTART on its first grain. -/
def State.segStored (g : Seg) (s : State) : State × Nat :=
  let mine := fun (e : Nat × Grain) => e.2.gen == g.gen &&
    match s.offsetOf g.plan e.2.ch e.1 with | some o => g.includes e.2.ch o e.2.index && decide (e.2.index < s.idx) | none => false
  let flags := s.pond.grains.foldl (fun f e => if mine e then f ||| e.2.flags.word &&& 0x43E else f) 0
  let grains := s.pond.grains.map (fun e =>
    if mine e && e.2.index == g.startIdx then (e.1, { e.2 with flags := { e.2.flags with segStart := true } }) else e)
  ({ s with pond := { s.pond with grains := grains } }, flags)

/-- The interpolator reference in force for a trigger of the present grain (R293). -/
def State.refOf (s : State) (t : Trig) : Option (List Int) :=
  match t.place with
  | some (c, _) => tfind s.dress.interp c
  | none => none

/-- Plan q accepts a trigger (R106 to R108, R145, R151): missed, or its segment begins. -/
def State.acceptTrigger (q : Nat) (t : Trig) (s : State) : State :=
  let p := s.plan q
  let s := s.bump (80 + q)
  let s := if (onesBelow t.slots 8).length ≥ 2 then (s.sat (O.COINCIDENCE_COUNT q)).bump (96 + q) else s
  let s := if t.forced then s.bump 165 else s
  let full := decide (64 ≤ s.dir.queue.length)
  if full || s.freeView == 0 then
    let s := (((s.sat (O.MISSED_COUNT q)).sat O.MISSED_TOTAL).sat (if full then O.MISSED_QUEUE else O.MISSED_RING)).bump (144 + q)
    let s := s.bump (if full then 160 else 161)
    { s with sluice := { s.sluice with placing := s.sluice.placing ++ [({ plan := q, seg := none, trig := t, ref := s.refOf t } : Placing)] } }
  else
    let o := s.origin.o
    let k := (t.s - o + p.g) / p.p
    let bay := p.segNo
    let id := s.dir.nextSeg
    let g : Seg :=
      { plan := q, gen := s.origin.gen, k := k, first := k - p.cfg.pre, stop := k + p.cfg.post, g0 := p.g0,
        base := if p.cfg.policy == 1 then bay * p.cfg.size else 0, width := if p.cfg.policy == 2 then p.cfg.ring else p.cfg.size,
        startGrain := p.position bay p.g0 (k - p.cfg.pre), startIdx := o + (k - p.cfg.pre) * p.p - p.g, trigOff := p.cfg.pre,
        segNo := bay, epoch := s.dir.epochs % 256, chset := p.cfg.chset, policy := p.cfg.policy, trig := t,
        cfg := p.cfg, flags := at_ t.forced 11, p := p.p }
    let (s, f) := s.segStored g
    let s := { s with dir := { s.dir with segs := tset id { g with flags := g.flags ||| f } s.dir.segs, nextSeg := id + 1, queue := s.dir.queue ++ [id] },
                      sluice := { s.sluice with placing := s.sluice.placing ++ [({ plan := q, seg := some id, trig := t, ref := s.refOf t } : Placing)] } }
    s.setPlan q { p with st := 3, seg := some (id, p.reported o (k + p.cfg.post)), entries := p.entries + 1 }

/-- May plan q accept a trigger at sample x: filled, and before a waiting STOP or HOLD (R106, R137, R140, R141)? -/
def State.accepts (s : State) (q : Nat) (x : Int) : Bool :=
  let p := s.plan q
  p.st == 2 && decide (p.fill ≤ x) && p.cmds.all (fun c => !(c.code == 2 || c.code == 3) || decide (x < (s.cmdAt p c).2))

/-- The trigger that plan q accepts at sample x, given the slot events there and whether it may still accept one of this raw grain
(R106, R107, R142). -/
def State.candidate (s : State) (q : Nat) (evs : List SlotEv) (x : Int) (fresh : Bool) : Option Trig :=
  let p := s.plan q
  let hit := evs.filter (fun e => e.s == x && bit p.cfg.slots e.slot)
  let forced := match p.force with | some f => decide (f ≤ x) | none => false
  if !s.accepts q x || !(forced || (fresh && !hit.isEmpty)) then none
  else
    let mask := hit.foldl (fun m e => setBit m e.slot true) 0
    let cause := (onesBelow mask 8).headD 0
    some { s := x, index := x, slots := mask, cause := cause, forced := forced,
           place := ((hit.find? (fun e => e.slot == cause)).map (fun e => e.place)).getD none }

/-- The triggers accepted within a raw grain: the state after them, the plans that accepted one, and the samples and plans of those that
drive TRIG_OUT, the last first. -/
structure Accepted where
  s : State
  plans : List Nat := []
  outs : List (Int × Option Nat) := []

/-- Plan q at sample x. -/
def Accepted.plan (a : Accepted) (evs : List SlotEv) (x : Int) (q : Nat) : Accepted :=
  let s := a.s.planUpTo q x
  match s.candidate q evs x (!a.plans.contains q) with
  | none => { a with s := s }
  | some t =>
    let s0 := s.setPlan q { s.plan q with force := none }
    { s := State.planNoted q s0 (s0.acceptTrigger q t), plans := q :: a.plans,
      outs := if bit (s.rdN O.TRIG_OUT_PLANS) q then (t.s, some q) :: a.outs else a.outs }

/-- All plans judge the slot events of the raw grain that begins at sample i0, sample by sample and in plan order at each (R106, R150). -/
def State.triggers (evs : List SlotEv) (i0 : Int) (s : State) : Accepted :=
  let live := planNos.filter (fun q => (s.plan q).st != 0 || !(s.plan q).cmds.isEmpty)
  if live.isEmpty then { s := s }
  else (List.range 64).foldl (fun a k => live.foldl (fun a q => a.plan evs (i0 + (k : Nat)) q) a) { s := s }

/-! ### Cuts by epochs, origins and faults (R154, R155) -/

/-- The last output grain of the present origin that every channel of a plan has formed. -/
def State.lastFormed (s : State) (p : Plan) : Int :=
  match p.cfg.chans.map (fun c => (s.chan c).out.num - 1) with
  | [] => -1
  | x :: r => r.foldl min x

/-- Drop a segment that is to have no entry (R155): its trigger counts as missed, in neither queue nor ring. An entry already opened is
withdrawn: its row reads empty, and its sequence number is not used again (DESIGN CHOICE, log entry 21). -/
def State.dropSeg (id : Nat) (g : Seg) (s : State) : State :=
  let s := ((s.sat (O.MISSED_COUNT g.plan)).sat O.MISSED_TOTAL).bump (144 + g.plan)
  let rows := match g.seq with | some q => tdel (q % 262144) s.dir.rows | none => s.dir.rows
  let s := { s with dir := { s.dir with segs := tdel id s.dir.segs, rows := rows, queue := s.dir.queue.filter (· != id) },
                    sluice := { s.sluice with placing := s.sluice.placing.map (fun (x : Placing) => if x.seg == some id then { x with seg := none } else x) } }
  let p := s.plan g.plan
  s.setPlan g.plan { p with entries := p.entries - 1 }

/-- Cut the open segments of a plan at its last grain before the event; state after, and whether the pending one kept its
entry (R155). -/
def State.cutSegs (q : Nat) (s : State) : State × Bool :=
  let p := s.plan q
  let last := s.lastFormed p
  (s.segsOf q).foldl (fun (acc : State × Bool) e =>
    let (s, kept) := acc
    if e.2.gen != s.origin.gen || e.2.stop ≤ last + 1 then acc
    else if last < e.2.k then (s.dropSeg e.1 e.2, kept)
    else
      let g := { e.2 with stop := last + 1, flags := setBit e.2.flags 9 true }
      ((s.endSeg e.1 g).bump 164, kept || (match p.seg with | some (i, _) => i == e.1 | none => false))) (s, false)

/-- After the cut: re-arm from sample `b` of the new origin `o`, or RETAINING (R146, R148, R155). Where the numbering goes on the plan goes
on taking every grain, at the positions that follow (R134). After its policy's last segment a plan is RETAINING there too (DEDUCED, log
entry 83). -/
def State.rearm (q : Nat) (o b : Int) (last : Int) (kept goesOn : Bool) (s : State) : State :=
  let p := s.plan q
  let n := if kept then p.segNo + 1 else p.segNo
  let overR := p.st == 4 || (kept && (p.cfg.policy == 0 || (p.cfg.policy == 1 && p.cfg.segs ≤ n)))
  if overR then
    s.setPlan q { p with st := 5, seg := none, segNo := n, force := none, until_ := some (last + 1) }
  else
    let g0 := p.cfg.grainFrom o b
    let f := max b (p.fillFrom o g0)
    s.setPlan q { p with st := if f ≤ b && !goesOn then 2 else 1, seg := none, segNo := n, g0 := g0, fill := f, force := none, until_ := none,
                         from_ := if goesOn then p.from_ else g0,
                         ringBase := if goesOn then p.ringBase else g0 - (last + 1 - p.ringBase) }

/-- Every Armed plan is cut and re-arms for a new origin `o` whose first raw grain begins at sample `b` (R155). -/
def State.cutAll (o b : Int) (s : State) : State :=
  planNos.foldl (fun s q =>
    if armedSt (s.plan q).st then
      let last := s.lastFormed (s.plan q)
      let (s, kept) := s.cutSegs q
      s.rearm q o b last kept false
    else (s.cutSegs q).1) s

/-- Where sampling has stopped, what the open segments of plan q lack up to their ends is recorded as dropped (R154). -/
def State.fillDropped (q : Nat) (s : State) : State :=
  (s.segsOf q).foldl (fun s e =>
    (onesBelow e.2.chset 4).foldl (fun s c =>
      let p := s.plan q
      let g := e.2
      let from_ := max g.first (tget (fun _ => -1) p.lastNum c + 1)
      let n := (g.stop - from_).toNat
      if n == 0 || g.gen != s.origin.gen then s
      else
        let b := p.cfg.bolt c
        let s := (List.range n).foldl (fun s i =>
          let j := from_ + (i : Nat)
          let o := g.offset (j - g.first).toNat
          let r := s.address q c o
          let x : Grain :=
            { kind := b.kind, ch := c, phase := ((j * b.n) % 2048).toNat, index := g.startIdx + (j - g.first) * g.p,
              vals := List.replicate (if b.kind ≤ 1 then 64 else 40) 0, gen := g.gen,
              flags := { trig := j == g.k, segStart := j == g.first, segEnd := j == g.stop - 1, unref := s.unref } }
          let row := s.gapRow
          (({ s with pond := { s.pond with grains := tset r x.gapOf s.pond.grains } }.coverLost row r).take q o)
            |>.markSegs c r x.gen x.index x.gapOf.summary) s
        let s := s.addGap
          { kind := 1, ch := c, first := g.startIdx + (from_ - g.first) * g.p, grains := n,
            addr := s.address q c (g.offset (from_ - g.first).toNat), pc := pcNo (s.address q c (g.offset (from_ - g.first).toNat)),
            epoch := s.dir.epochs % 256 }
        s.setPlan q { s.plan q with lastNum := tset c (g.stop - 1) (s.plan q).lastNum }) s) s

/-- Every Armed plan stops as under STOP, with FAULT_CLOSED, when the device enters Faulted (R154). Where sampling has stopped,
no later g_B exists, and what the open segments lack is recorded as dropped. -/
def State.faultStop (s : State) : State :=
  planNos.foldl (fun s q =>
    let p := s.plan q
    if !armedSt p.st then s.setPlan q { p with cmds := [] }
    else
      let stop := if s.fan.sampling then p.cfg.grainFrom s.origin.o (s.idxAt (s.grainAt (s.clk.now + 1)))
                  else (p.cfg.chans.foldl (fun m c => min m (tget (fun _ => -1) p.lastNum c)) (s.lastFormed p)) + 1
      let s := (s.setPlan q { p with cmds := [] }).stopPlan q stop 8
      if s.fan.sampling then s else s.fillDropped q) s

/-! ### The Headrace (R25, R60, R61, R145, R148) -/

/-- The segment of plan q that includes grain `num` of an origin's generation (R145). -/
def State.segHolding (s : State) (q gen : Nat) (num : Int) : Option Seg :=
  ((s.segsOf q).find? (fun e => e.2.gen == gen && decide (e.2.first ≤ num) && decide (num < e.2.stop))).map (fun e => e.2)

/-- The plans that take output grain `j` of channel c, and the allocation offset each writes it to: from its first grain until it stops, and
the grains of its segments (R134, R148). -/
def State.takesOf (s : State) (c : Nat) (j : Int) : List Take :=
  planNos.filterMap (fun q =>
    let p := s.plan q
    if p.st == 0 || !bit p.cfg.chset c then none
    else
      match s.segHolding q s.origin.gen j with
      | some g => some { plan := q, off := g.offset (j - g.first).toNat, arm := p.arms }
      | none =>
        let before := match p.until_ with | some u => decide (j < u) | none => true
        if decide (p.from_ ≤ j) && before then some { plan := q, off := p.position p.segNo p.g0 j, arm := p.arms } else none)

/-- The plan still holds the allocation that it took the grain into, when the grain leaves the delay. -/
def State.stillTakes (s : State) (t : Take) : Bool := (s.plan t.plan).st != 0 && (s.plan t.plan).arms == t.arm

/-- A plan's copy of a grain: its address, with TRIG, SEGSTART and SEGEND as decided (R60, R145) and LAYER of its pseudo-channel
(R187). -/
def State.flagged (s : State) (c : Nat) (d : Delayed) (t : Take) : Nat × Grain :=
  let r := s.address t.plan c t.off
  let f := d.grain.flags
  let f := match s.segHolding t.plan d.gen d.num with
    | some g => { f with trig := d.num == g.k, segStart := d.num == g.first, segEnd := d.num == g.stop - 1 }
    | none => f
  (r, { d.grain with flags := { f with layer := f.layer || s.pcLayering (pcNo r) } })

/-- A plan takes a grain (R149, R158, R185). -/
def State.countTake (c : Nat) (d : Delayed) (t : Take) (s : State) : State :=
  let s := s.take t.plan t.off
  let p := s.plan t.plan
  let first := p.cfg.chans.headD 0 == c
  s.setPlan t.plan
    { p with lastNum := if d.gen == s.origin.gen then tset c d.num p.lastNum else p.lastNum,
             taken := if first then p.taken + 1 else p.taken, lastTaken := if first then d.grain.index else p.lastTaken }

/-- The Millpond accepts one plan's copy of a grain (R134, R172); one that a merged gap range covers reads as Gap (R25). -/
def State.writeCopy (c : Nat) (d : Delayed) (t : Take) (s : State) : State :=
  if !s.stillTakes t then s
  else
    let e := s.flagged c d t
    if d.gone then
      ({ s with pond := { s.pond with grains := tset e.1 e.2.gapOf s.pond.grains } }).markSegs c e.1 d.gen e.2.index 0x20
    else s.pondWrite c e.1 e.2

/-- The front copy of the channel's queue is written while the POND domain runs: one in a GRAIN cycle, those of one grain in plan order
(R23, R172). -/
def State.writeFront (c : Nat) (s : State) : State :=
  match (s.chan c).queue with
  | [] => s
  | d :: q =>
    if s.stopped 2 then s
    else match d.takes with
      | [] => s.modChan c (fun ch => { ch with queue := q, dropping := false })
      | [t] => (s.modChan c (fun ch => { ch with queue := q, dropping := false })).writeCopy c d t
      | t :: ts => (s.modChan c (fun ch => { ch with queue := { d with takes := ts } :: q, dropping := false })).writeCopy c d t

/-- A grain leaves the fixed delay: discarded where no plan takes it (R61), else queued for the POND domain, or, with 8 in the queue while
that is stopped, dropped (R23, R25). -/
def State.leaveDelay (c : Nat) (d : Delayed) (s : State) : State :=
  let ts := d.takes.filter s.stillTakes
  if ts.isEmpty then s
  else
    let d := { d with takes := ts }
    let s := ts.foldl (fun s t => s.countTake c d t) s
    if !s.stopped 2 || (s.chan c).queue.length < 8 then s.modChan c (fun ch => { ch with queue := ch.queue ++ [d] })
    else s.dropGrain c d (ts.map (s.flagged c d))

/-- One GRAIN cycle of the Headrace of channel c: the grains whose 16 cycles are over leave the delay, and one copy is written. -/
def State.headrace (c : Nat) (s : State) : State :=
  let out := (s.chan c).delay.filter (fun d => s.due d.at_)
  let s := s.modChan c (fun ch => { ch with delay := ch.delay.filter (fun d => !s.due d.at_) })
  (out.foldl (fun s d => s.leaveDelay c d) s).writeFront c

/-! ### Plan, directory and store objects -/

/-- HOST_ACK_SEQ (R157). -/
def writeAck (v : Int) (s : State) : WRes :=
  let w := v.toNat
  if (w + 2 ^ 32 - s.dir.hostAck) % 2 ^ 32 ≥ 2 ^ 31 then bad Why.HOST_ACK_BACKWARD
  else if (w + 2 ^ 32 - s.dir.nextSeq) % 2 ^ 32 < 2 ^ 31 then bad Why.HOST_ACK_AHEAD
  else .ok ({ s with dir := { s.dir with hostAck := w } }.bump 166)

def execHostAckSeqWrite (p : Path) (v : Int) (s : State) : Host.Outcome State Fault Refusal :=
  s.done (s.write p O.HOST_ACK_SEQ v (writeAck v))

end Sys2Proof.Machine
end

