-- ==== Sys2Proof/Machine/Timer.lean ====
section
/-!
DEFINITION. The event timer (R348 to R361, R370) and the monitor converters (R362 to R367, R374).
-/

namespace Sys2Proof.Machine

/-- Serve a read whose value and effect are `f`. -/
abbrev RRes := Except Rej (State × Int)

def State.serveRead (a : Acc) (asked : Time) (f : State → RRes) (s : State) : State :=
  match f s with
  | .ok (t, v) => t.respond a asked v 0 0
  | .error r => (s.refuse a 0 r).respond a asked 0 r.abort r.reason

/-- A read of one object as a command of the table carries it. -/
def State.readObj (p : Path) (k : Nat) (f : State → RRes) (s : State) : State :=
  let a : Acc := { path := p, write := false, idx := k / 256 % 65536, sub := k % 256, len := 0, v := 0 }
  s.access a (fun s => s.serveRead a s.clk.now f)

/-! ### Event timer -/

/-- Loop 6 has failed (R361). -/
def State.timerDead (s : State) : Bool := (s.loop 6).dead || s.fan.tb == 4

/-- Edges are taken: EVT runs, no registered SYNC_IN awaits sample 0 (one held through a failover is not registered yet, R276), not in Sleep
or Boot. -/
def State.timerRuns (s : State) : Bool :=
  !s.stopped 6 && !s.timerDead && (s.fan.sync.isNone || s.fan.heldSync) && s.gov.power != 3 && !s.gov.off && s.dev != .boot && s.dev != .sleep

/-- Present count of EVT edges since the epoch (R351). -/
def State.coarse (s : State) : Nat := (s.idx / 200).toNat

/-- The tables of a generation: 0 those made at manufacture. -/
def State.timerTables (s : State) (gen : Nat) : Option (List Nat × List Nat) :=
  if gen == 0 then
    some ((List.range 65).map (Config.timerTable 0), (List.range 65).map (Config.timerTable 1))
  else (s.timer.gens.find? (fun e => e.1 == gen)).map (fun e => e.2)

/-- tau of R358 in 128ths of a femtosecond. -/
def tau128 (t : List Nat) (c : Nat) : Int :=
  let j := c / 64
  let a : Int := (t[j]?).getD 0
  let b : Int := (t[j + 1]?).getD 0
  128 * a + (b - a) * (2 * c + 1 - 128 * j)

/-- Edge time at the ball from the epoch, in 128ths of a femtosecond (R358). -/
def edgeTime (t : List Nat) (d : Int) (k f : Nat) : Int := (k : Int) * 320000000 - tau128 t f - 128 * d

/-- ORDER and ZERO (R353): 610 fs. -/
def pairOrder (ts tp : Int) : Nat :=
  if (tp - ts).natAbs < 610 * 128 then 4 else if tp < ts then 1 else 0

/-- A new generation of constants comes into force while no pair is open (R359). -/
def State.adoptGen (s : State) : State :=
  match s.timer.pair, s.timer.nextGen with
  | none, some (a, b) =>
    let g := (s.timer.gen + 1) % 2 ^ 32
    { s with timer := { s.timer with gen := g, gens := ((g, a, b) :: s.timer.gens).take 4, nextGen := none } }
  | _, _ => s

/-- The open pair is discarded (R361). -/
def State.cutPair (s : State) : State :=
  match s.timer.pair with
  | some _ => ({ s with timer := { s.timer with pair := none } }.sat O.PAIRS_CUT).adoptGen
  | none => s

/-- A closed pair becomes a record and enters the queue of 16, or is lost (R355, R356). -/
def State.closePair (sk sf pk pf flags : Nat) (s : State) : State :=
  let t := s.timer
  let r : Stamp :=
    { seq := t.seq, startK := sk, stopK := pk, startF := sf, stopF := pf, flags := flags + at_ t.lostBefore 5,
      epoch := s.dir.epochs % 256, gen := t.gen % 256 }
  let t := { t with pair := none, seq := (t.seq + 1) % 2 ^ 32 }
  let s := s.bump 470
  (if t.queue.length < 16 then
     let s := { s with timer := { t with queue := t.queue ++ [r], lostBefore := false } }
     if s.rd O.TIMER_MODE == 1 then s.wr O.TIMER_MODE 0 else s
   else { s with timer := { t with lostBefore := true } }.sat O.PAIRS_LOST).adoptGen

/-- The open pair is closed without its second edge at count `now`, if its limit has passed (R350). -/
def State.limitAt (now : Nat) (s : State) : State :=
  let lim := s.rdN O.PAIR_LIMIT
  match s.timer.pair with
  | some p =>
    if lim == 0 || !s.timerRuns || now < p.k + lim then s
    else
      let ref := at_ p.ref 1
      if p.isStart then { s with timer := { s.timer with rearm := none } }.closePair p.k p.f 0 0 (ref + 16)
      else
        let r := 4096 * p.k - p.f + 81920
        { s with timer := { s.timer with rearm := if 4096 * now < r then some r else none } }.closePair 0 0 p.k p.f (ref + 8)
  | none => s

/-- TIMER_EDGE (R348, R349): an edge of START or STOP, falling or rising, with count k and code f (R352). A pair whose limit ended before
count k is closed first. -/
def State.timerEdge (isStart falling : Bool) (k f : Nat) (s : State) : State :=
  let f := f % 4096
  let s := { s with timer := { s.timer with edgeAt := some s.clk.now } }
  let s := s.limitAt (k - 1)
  if s.rd O.TIMER_MODE == 0 || !s.timerRuns || s.rdBit O.EDGE_SELECT (if isStart then 0 else 1) != falling then s
  else
    let t := s.timer
    let at4096 := 4096 * k - f
    let dead := match t.rearm with | some r => decide (at4096 < r) | none => false
    if dead then s.sat O.DEAD_EDGES
    else
      let t := { t with rearm := none }
      match t.pair with
      | none => { s with timer := { t with pair := some { isStart := isStart, k := k, f := f, ref := !s.unref, changes := s.fan.changes } } }
      | some p =>
        if p.isStart == isStart then { s with timer := t }.sat O.EXTRA_EDGES
        else
          let (sk, sf, pk, pf) := if isStart then (k, f, p.k, p.f) else (p.k, p.f, k, f)
          let (t0, t1) := (s.timerTables t.gen).getD ([], [])
          let o := pairOrder (edgeTime t0 (Config.pathDelay 0) sk sf) (edgeTime t1 (Config.pathDelay 1) pk pf)
          let ref := p.ref && p.changes == s.fan.changes && !s.unref
          let last := if o == 1 then 4096 * sk - sf else 4096 * pk - pf
          { s with timer := { t with rearm := some (last + 81920) } }.closePair sk sf pk pf (o + at_ ref 1)

def execTimerEdge (start falling : Bool) (k f : Nat) (s : State) : Host.Outcome State Fault Refusal :=
  s.done (s.timerEdge start falling k f)

/-- PAIR_LIMIT_EXPIRE (R350). -/
def State.pairLimit (s : State) : State := s.limitAt s.coarse

def execPairLimitExpire (s : State) : Host.Outcome State Fault Refusal := s.done s.pairLimit

/-- TIMER_REARM (R349): 50 ns after the closing edge. -/
def State.timerRearm (s : State) : State :=
  match s.timer.rearm with
  | some r => if r ≤ 4096 * s.coarse then { s with timer := { s.timer with rearm := none } } else s
  | none => s

def execTimerRearm (s : State) : Host.Outcome State Fault Refusal := s.done s.timerRearm

/-- TIMER_MODE written (R361). -/
def writeTimerMode (v : Int) (s : State) : WRes :=
  if v ≠ 0 ∧ s.timerDead = true then notNow Why.TIMER_OUT_OF_SERVICE
  else
    let s := s.cutPair.wr O.TIMER_MODE v
    .ok { s with timer := { s.timer with rearm := none } }

def execTimerModeWrite (p : Path) (v : Int) (s : State) : Host.Outcome State Fault Refusal :=
  s.done (s.write p O.TIMER_MODE v (writeTimerMode v))

/-- The 32 bytes of a stamp record (R355). -/
def Stamp.bytes (r : Stamp) : List Nat :=
  let b := leBytes 4 r.seq ++ leBytes 8 r.startK ++ leBytes 8 r.stopK ++ leBytes 2 r.startF ++ leBytes 2 r.stopF ++ leBytes 2 r.flags
    ++ [r.epoch % 256, r.gen % 256]
  b ++ leBytes 4 (crc32c b)

/-- STAMP_NEXT (R356): the oldest record, removed. -/
def readStamp (s : State) : RRes :=
  match s.timer.queue with
  | r :: q => .ok ({ s with timer := { s.timer with queue := q } }, ofLe r.bytes)
  | [] => .error { abort := Why.noData, reason := Why.TIMER_EMPTY }

def execStampNext (p : Path) (s : State) : Host.Outcome State Fault Refusal := s.done (s.readObj p O.STAMP_NEXT readStamp)

/-- TT_ROW (R370): latch a constant of the selected converter and generation. -/
def writeTtRow (p : Path) (v : Int) (s : State) : WRes :=
  let g := s.rdN (win p O.TT_GEN)
  match s.timerTables (if g == 0 then s.timer.gen else g) with
  | none => .error { abort := Why.noData, reason := Why.TIMER_CONST_GONE }
  | some (a, b) =>
    let t := if s.rd (win p O.TT_CONVERTER) == 0 then a else b
    let s := s.wr (win p O.TT_ROW) v
    .ok { s with timer := { s.timer with win := tset (side p) ((t[v.toNat]?).getD 0) s.timer.win } }

def execTtRowLatch (p : Path) (v : Int) (s : State) : Host.Outcome State Fault Refusal :=
  s.done (s.write p O.TT_ROW v (writeTtRow p v))

/-! ### Monitor converters -/

def State.conv (s : State) (m : Nat) : MonConv := tget (fun _ => {}) s.mon.conv m
def State.setConv (m : Nat) (x : MonConv) (s : State) : State := { s with mon := { s.mon with conv := tset m x s.mon.conv } }

/-- The converters are on: not in Sleep, Off or Boot (R367). -/
def State.monOn (s : State) : Bool := s.gov.power != 3 && !s.gov.off && s.dev != .boot

/-- Key of a published value (R374). -/
def monKey (m input : Nat) : Nat := 0x250101 + 256 * m + input

/-- A raw code at a gain (0 to 3: 1, 2, 4, 8) after the corrections of R364. -/
def MonConv.correct (x : MonConv) (gain : Nat) (raw : Int) : Nat :=
  (clampI 0 65535 (roundDiv ((raw - (x.offsets[gain]?).getD 0) * (1000000 + x.corr)) 1000000)).toNat

/-- The sequence runs: the table stops (R364). -/
def MonConv.inSequence (x : MonConv) : Bool := x.seqUntil.isSome

/-- MONITOR_TABLE_ENTRY (R363): the entry at the table's position is done; `raw` is its last code. -/
def State.tableEntry (m : Nat) (raw : Int) (s : State) : State :=
  let x := s.conv m
  if 2 ≤ m || !s.monOn || x.inSequence then s
  else
    let e := (x.table[x.pos]?).getD (0, 1, 0)
    let s := s.wr (monKey m e.1) (x.correct 0 raw)
    if x.pos + 1 < x.table.length then s.setConv m { x with pos := x.pos + 1 }
    else s.setConv m { x with pos := 0, table := x.next.getD x.table, next := none }

def execMonitorTableEntry (m : Nat) (raw : Int) (s : State) : Host.Outcome State Fault Refusal := s.done (s.tableEntry m raw)

/-- Start the sequence at the converter's next entry boundary, at most 15 µs away; it lasts 112 µs. -/
def State.startSequence (m : Nat) (s : State) : State :=
  let x := s.conv m
  if x.inSequence then s
  else s.adv.setConv m { x with seqUntil := some (s.clk.now + s.fv (us 15 + 1) + us 112) }

/-- Offsets and gain correction from entries 0 to 5 (R364): input 22 reads 31,457 at gain 1. -/
def MonConv.calibrate (codes : List Int) (x : MonConv) : MonConv :=
  let off := (codes.take 4).map (clampI (-128) 127)
  let ref := (codes[4]?).getD 31457 - (off[0]?).getD 0
  { x with offsets := off, corr := if ref ≤ 0 then x.corr else roundDiv ((31457 - ref) * 1000000) ref,
           codes := codes.map (fun c => (clampI 0 65535 c).toNat), seqUntil := none, woken := false }

/-- MONITOR_SEQUENCE_END (R364): the raw codes of the 16 entries. -/
def State.sequenceEnd (m : Nat) (codes : List Int) (s : State) : State :=
  let x := s.conv m
  match x.seqUntil with
  | some t => if 2 ≤ m || codes.length != 16 || !s.monOn || !s.due t then s else s.setConv m (x.calibrate codes)
  | none => s

def execMonitorSequenceEnd (m : Nat) (codes : List Int) (s : State) : Host.Outcome State Fault Refusal := s.done (s.sequenceEnd m codes)

/-- MON_TEST: the sequence on the named converters. -/
def writeMonTest (v : Int) (s : State) : WRes :=
  .ok ((onesBelow v.toNat 2).foldl (fun s m => s.startSequence m) s)

def execMonTest (p : Path) (v : Int) (s : State) : Host.Outcome State Fault Refusal :=
  s.done (s.write p O.MON_TEST v (writeMonTest v))

/-- CROSS_CHECK (R365): the raw codes of inputs 22 and 23 of M0 and M1. -/
def State.crossCheck (a22 b22 a23 b23 : Int) (s : State) : State :=
  let m0 := s.conv 0
  let m1 := s.conv 1
  if !s.monOn || !s.due s.mon.crossAt || m0.inSequence || m1.inSequence then s
  else
    let d22 : Int := (m0.correct 0 a22 : Int) - m1.correct 0 b22
    let d23 : Int := (m0.correct 0 a23 : Int) - m1.correct 0 b23
    let s := (s.wr O.CROSS_DIFF_22 (clampI (-32768) 32767 d22)).wr O.CROSS_DIFF_23 (clampI (-32768) 32767 d23)
    if d22.natAbs ≤ 131 && d23.natAbs ≤ 131 then
      { s with mon := { s.mon with distrust := none, crossAt := s.clk.now + ms 1 } }
    else
      let s := (s.sat O.CROSS_FAILS).bump 469
      match s.mon.distrust with
      | some _ => { s with mon := { s.mon with crossAt := s.clk.now + ms 1 } }
      | none =>
        let (i, d) := if 131 < d22.natAbs then (22, d22) else (23, d23)
        let s := s.covered 0x13 0x09FF 0xFFFF 0 (i + wrapU 16 d * 2 ^ 16) 0
        let s := { s with mon := { s.mon with distrust := some s.clk.now, crossAt := s.clk.now } }
        (s.startSequence 0).startSequence 1

def execCrossCheck (a22 b22 a23 b23 : Int) (s : State) : Host.Outcome State Fault Refusal := s.done (s.crossCheck a22 b22 a23 b23)

/-- INJ_REQUEST (R366): bit 8 the converter, bits [4:0] the input. -/
def writeInject (v : Int) (s : State) : WRes :=
  let w := v.toNat
  let m := bits w 8 8
  let i := bits w 4 0
  let x := s.conv m
  if 23 < i then bad Why.VALUE_RANGE
  else if x.inj.isSome then notNow Why.MON_INJECT_BUSY
  else .ok (s.setConv m { x with inj := some (i, s.clk.now), result := 2 ^ 30 + i * 2 ^ 16 })

def execInjRequest (p : Path) (v : Int) (s : State) : Host.Outcome State Fault Refusal :=
  s.done (s.write p O.INJ_REQUEST v (writeInject v))

/-- INJECTED_CONVERSION (R366): its result is posted, marked if taken under DISTRUST. After wake it waits for the sequence. -/
def State.injected (m : Nat) (raw : Int) (s : State) : State :=
  let x := s.conv m
  match x.inj with
  | some (i, _) =>
    if 2 ≤ m || !s.monOn || (x.inSequence && x.woken) then s
    else s.setConv m { x with inj := none, result := (if s.mon.distrust.isSome then 3 else 2) * 2 ^ 30 + i * 2 ^ 16 + x.correct 0 raw }
  | none => s

def execInjectedConversion (m : Nat) (raw : Int) (s : State) : Host.Outcome State Fault Refusal := s.done (s.injected m raw)

/-- Inputs that a converter's table must include (R363). -/
def neededInputs (m : Nat) : List Nat := List.range (if m == 0 then 20 else 6)

/-- MT_APPLY (R363): the shadow of the converter selected starts at the end of the loop in progress. -/
def writeMtApply (s : State) : WRes :=
  let m := s.rdN O.MT_CONVERTER
  let x := s.conv m
  let t := x.shadow.take x.shadowLen
  if (neededInputs m).all (fun i => t.any (fun e => e.1 == i)) then .ok (s.setConv m { x with next := some t })
  else bad Why.MON_TABLE_INCOMPLETE

def execMtApply (p : Path) (v : Int) (s : State) : Host.Outcome State Fault Refusal :=
  s.done (s.write p O.MT_APPLY v writeMtApply)

/-- MT_ROW selects an entry of the shadow of the converter then selected; MT_INPUT, MT_REPEAT and MT_DELAY change that entry,
MT_LENGTH the shadow's length (R374, R416). -/
def writeMtRow (v : Int) (s : State) : WRes :=
  let s := s.wr O.MT_ROW v
  .ok { s with mon := { s.mon with sel := (s.rdN O.MT_CONVERTER, v.toNat) } }

def writeMtField (k : Nat) (v : Int) (s : State) : WRes :=
  let (m, r) := s.mon.sel
  let x := s.conv m
  let e := (x.shadow[r]?).getD (0, 1, 0)
  let n := v.toNat
  let e := if k == O.MT_INPUT then (n, e.2) else if k == O.MT_REPEAT then (e.1, n, e.2.2) else (e.1, e.2.1, n)
  .ok (s.setConv m { x with shadow := x.shadow.set r e })

def writeMtLength (v : Int) (s : State) : WRes :=
  let m := s.rdN O.MT_CONVERTER
  .ok (s.setConv m { s.conv m with shadowLen := v.toNat })

/-- Entry `r` of the fixed sequence: input (255: the internal zero), gain, sampling time in 0.1 µs (R364). -/
def sequenceRow (r : Nat) : Nat × Nat × Nat :=
  if r < 4 then (255, 2 ^ r, 40) else if r < 6 then (22, r - 3, 40) else (r - 6, 1, 80)

/-- SQ_ROW (R374): latch a sequence entry of the converter selected. -/
def writeSqRow (p : Path) (v : Int) (s : State) : WRes :=
  let m := s.rdN (win p O.SQ_CONVERTER)
  let s := s.wr (win p O.SQ_ROW) v
  .ok { s with mon := { s.mon with win := tset (side p) (m, v.toNat, ((s.conv m).codes[v.toNat]?).getD 0) s.mon.win } }

def execSqRowLatch (p : Path) (v : Int) (s : State) : Host.Outcome State Fault Refusal :=
  s.done (s.write p O.SQ_ROW v (writeSqRow p v))

end Sys2Proof.Machine
end

