-- ==== Sys2Proof/Machine/Dress.lean ====
section
/-!
DEFINITION. Dressing (chapter 10): units and trims (R284, R285), the pass and its stages (R286 to R290), bringing corrections into
force (R291), natural gaps (R292, R293), commits (R296), and the end of every pass and plan when the device enters Faulted
(R154, R289).
-/

namespace Sys2Proof.Machine

/-! ### Units and trims (R284) -/

/-- A quad, a whole channel, a unit that DRESS may name. -/
def isQuad (u : Nat) : Bool := 1 ≤ u / 256 && u / 256 ≤ 4 && u % 256 ≤ 3
def isChannel (u : Nat) : Bool := 1 ≤ u / 256 && u / 256 ≤ 4 && u % 256 == 255
def isChanUnit (u : Nat) : Bool := isQuad u || isChannel u
def isGroup (u : Nat) : Bool := u / 256 == 10 && u % 256 ≤ 3
def isPair (u : Nat) : Bool := u == 0x0B00 || u == 0x0B01
def dressable (u : Nat) : Bool := isChanUnit u || u == 0x0500 || isGroup u || isPair u

/-- The quads of a channel unit, as numbers 0 to 15. -/
def quadsOf (u : Nat) : List Nat :=
  if isQuad u then [4 * (u / 256 - 1) + u % 256] else if isChannel u then (List.range 4).map (fun q => 4 * (u / 256 - 1) + q) else []

/-- Do two units share slices (R287)? -/
def sharesSlices (a b : Nat) : Bool := a == b || (quadsOf a).any (fun q => (quadsOf b).contains q)

/-- The slice that serves position j of a quad. -/
def Quad.serving (q : Quad) (j : Nat) : Nat := tget (fun j => j) q.map j

/-- A slice's trims for a position: skew and threshold (R47). -/
def Quad.trim (q : Quad) (j : Nat) : Int × Int := tget (fun _ => (0, 0)) q.trims (16 * q.serving j + j)

/-- How many trims a unit has, in the order: per quad 16 skews and 16 thresholds; a whole channel then its six gains; the Sluice's
frame, line, four EXT_TRIG delays and pad; a lane's phase and equaliser code. -/
def trimCount (u : Nat) : Nat :=
  if isQuad u then 32 else if isChannel u then 134 else if u == 0x0500 then 7 else if isGroup u then 8 else 4

/-- What kind of trim the n-th is: 0 skew, 1 threshold, 2 gain, 3 capture delay, 4 pad, 5 phase, 6 equaliser. -/
def trimKind (u n : Nat) : Nat :=
  if isChanUnit u then (if 128 ≤ n then 2 else n % 32 / 16) else if u == 0x0500 then (if n == 6 then 4 else 3) else 5 + n % 2

/-- Range (R284) and tolerance (R288) of a kind. -/
def trimRange (k : Nat) : Int × Int :=
  match k with
  | 0 => (-127, 127)
  | 1 => (-63, 63)
  | 2 => (-255, 255)
  | 3 => (-15, 15)
  | 4 => (0, 63)
  | 5 => (-31, 31)
  | _ => (0, 15)

/-- A trim held to its range (R47). -/
def clampTrim (k : Nat) (v : Int) : Int := max (trimRange k).1 (min (trimRange k).2 v)

def trimTolerance (k : Nat) : Nat :=
  match k with
  | 3 | 4 | 6 => 1
  | _ => 2

/-- Key of a trim other than a slice's. -/
def trimKey (u n : Nat) : Nat := u * 256 + n

/-- The trim in force. -/
def State.trimNow (s : State) (u n : Nat) : Int :=
  if isChanUnit u && n < 128 then
    let q := s.quad ((quadsOf u)[n / 32]?.getD 0)
    let t := q.trim (n % 16)
    if n % 32 < 16 then t.1 else t.2
  else tget (fun _ => 0) s.dress.trims (trimKey u n)

def State.setTrim (u n : Nat) (v : Int) (s : State) : State :=
  if isChanUnit u && n < 128 then
    let qn := (quadsOf u)[n / 32]?.getD 0
    let q := s.quad qn
    let j := n % 16
    let t := q.trim j
    s.setQuad qn { q with trims := tset (16 * q.serving j + j) (if n % 32 < 16 then (v, t.2) else (t.1, v)) q.trims }
  else { s with dress := { s.dress with trims := tset (trimKey u n) v s.dress.trims } }

/-! ### Passes -/

def State.passOf (s : State) (u : Nat) : Option Pass := s.dress.passes.find? (fun p => p.unit == u)
def State.setPass (p : Pass) (s : State) : State :=
  { s with dress := { s.dress with passes := s.dress.passes.map (fun x => if x.unit == p.unit then p else x) } }
def State.unitDress (s : State) (u : Nat) : UnitDress := tget (fun _ => {}) s.dress.units u
def State.setUnitDress (u : Nat) (x : UnitDress) (s : State) : State := { s with dress := { s.dress with units := tset u x s.dress.units } }

/-- The group of a lane unit, or side of a Hedge pair, as a link. -/
def linkOf (u : Nat) : Nat := if isGroup u then u % 256 else 4 + u % 2

/-- What DRESS refuses (R285), in the table's order. -/
def State.dressRefusal (s : State) (u : Nat) : Option Rej :=
  if !dressable u then some { abort := Why.badValue, reason := Why.DRESS_UNIT }
  else if s.dress.active.any (fun a => a == u || (isChanUnit u && isChanUnit a && a / 256 == u / 256)) then
    some { abort := Why.badState, reason := Why.DRESS_IN_PROGRESS }
  else if isChanUnit u && (!(s.chan (u / 256 - 1)).ready || s.asleep) then some { abort := Why.badState, reason := Why.CHANNEL_NOT_READY }
  else if u == 0x0500 && slotNos.any (fun n => (s.boundTo n).isSome) then some { abort := Why.badState, reason := Why.SLUICE_ARMED }
  else if (isGroup u || isPair u) && ((s.link (linkOf u)).degraded || (s.link (linkOf u)).out) then
    some { abort := Why.badState, reason := Why.DRESS_GROUP_DEGRADED }
  else none

/-- DRESS: the pass is in progress from its acceptance (R285). -/
def cmdDress (u : Nat) (s : State) : WRes :=
  match s.dressRefusal u with
  | some r => .error r
  | none => .ok ({ s with dress := { s.dress with passes := s.dress.passes ++ [({ unit := u, asked := s.clk.now } : Pass)] } }.bump 320)

/-- A wait on the monitor converters (R287): since when, if there is one. -/
def State.monitorWait (s : State) : Option Time :=
  let inj := ([0, 1].filterMap (fun k => (tget (fun _ => ({} : MonConv)) s.mon.conv k).inj.map (fun e => e.2)))
  match s.mon.distrust with
  | some t => some t
  | none => inj.head?

/-- Is a layering in progress on the unit? -/
def State.layeringOn (s : State) (u : Nat) : Bool :=
  s.layer.busy.any (fun b => sharesSlices u b) || s.layer.decided.any (fun d => sharesSlices u d.1)
    || (quadsOf u).any (fun q => (s.quad q).pending.isSome)
    || isGroup u && (s.members (linkOf u)).any (fun l => (s.lane l).lost.isSome && (s.lane l).repl.isSome)

/-- May a waiting pass begin (R287)? -/
def State.passReady (s : State) (u : Nat) : Bool :=
  s.monitorWait.isNone && !s.layeringOn u && !s.dress.applying.any (fun a => sharesSlices u a.unit)

/-- The lanes under test leave the stripe; a Hedge pair's traffic moves to a ready spare pair (R286). -/
def State.isolate (p : Pass) (s : State) : State :=
  if isGroup p.unit then
    ((s.stripe (linkOf p.unit)).filter (fun l => (s.lane l).slot == p.lane)).foldl (fun s l => s.modLane l (fun y => { y with st := 6 })) s
  else if isPair p.unit then
    let g := linkOf p.unit
    let spare := pairLanes g true
    let ready := !(s.link g).spareIn && spare.all (fun l => (s.lane l).st == 4)
    let s := (pairLanes g (s.link g).spareIn).foldl (fun s l => if (s.lane l).st == 3 then s.modLane l (fun y => { y with st := 6 }) else s) s
    if ready then spare.foldl (fun s l => s.modLane l (fun y => { y with st := 3 })) s else s
  else s

/-- The lanes under test rejoin. -/
def State.rejoinLanes (u : Nat) (s : State) : State :=
  if isGroup u || isPair u then
    let g := linkOf u
    let back := (s.members g).filter (fun l => (s.lane l).st == 6)
    let s := back.foldl (fun s l => s.modLane l (fun y => { y with st := if y.usable then 3 else 1 })) s
    if isPair u && !(s.link g).spareIn then
      (pairLanes g true).foldl (fun s l => if (s.lane l).st == 3 then s.modLane l (fun y => { y with st := 4 }) else s) s
    else s
  else s

/-- PASS_BEGIN (R286, R287, R290): isolation begins, at a raw-grain boundary. -/
def State.passBegin (u : Nat) (s : State) : State :=
  match s.passOf u with
  | some p =>
    if p.stage == 1 && s.passReady u && s.grainAt s.clk.now == s.clk.now then
      let s := if u == 0x0500 then s.quietTrig else s
      (s.setPass { p with stage := 2, until_ := s.clk.now + us 10 }).isolate p
    else s
  | none => s

def execPassBegin (u : Nat) (s : State) : Host.Outcome State Fault Refusal := s.done (s.passBegin u)

/-- The pass ends with an outcome: it leaves the list, its unit's record and the trace say so (R288 to R290, R472). -/
def State.endPass (p : Pass) (outcome : Nat) (s : State) : State :=
  let x := s.unitDress p.unit
  let s := s.setUnitDress p.unit { x with outcome := outcome, disagree := p.disagree, passes := min (x.passes + 1) 4294967295 }
  let s := { s with dress := { s.dress with passes := s.dress.passes.filter (fun q => q.unit != p.unit) } }
  s.trace_ 7 p.unit 0xFFFF (outcome + p.disagree % 65536 * 2 ^ 16)

/-- A channel's first grain after Stale grains is in the Normal row with SETTLING (R290). -/
def State.unblind (p : Pass) (s : State) : State :=
  if isChanUnit p.unit && 2 ≤ p.stage then s.modChan (p.unit / 256 - 1) (fun c => { c with settleNext := true }) else s

/-- PASS_WAIT_TIMEOUT (R287): 100 ms on the monitor converters. -/
def State.passWaitTimeout (u : Nat) (s : State) : State :=
  match s.passOf u, s.monitorWait with
  | some p, some t =>
    if p.stage == 1 && s.due (max p.asked t + ms 100) then ((s.endPass p 5).sat O.PASSES_ABORTED).bump 324 else s
  | _, _ => s

def execPassWaitTimeout (u : Nat) (s : State) : Host.Outcome State Fault Refusal := s.done (s.passWaitTimeout u)

/-- Length of a measurement (R286). -/
def measureTime (u : Nat) : Nat :=
  if isQuad u then ms 4 else if isChannel u then ms 6 else if u == 0x0500 then ms 1 else us 800

/-- PASS_STAGE_END: ISOLATING, the measurements with the corrections `m` they give, and COMPUTE. -/
def State.passStageEnd (u : Nat) (m : List Int) (s : State) : State :=
  match s.passOf u with
  | some p =>
    if p.restart || !s.due p.until_ then s
    else
      match p.stage with
      | 2 => s.setPass { p with stage := 3, until_ := p.until_ + measureTime u }
      | 3 => s.setPass { p with stage := 4, m1 := p.m1 ++ m, until_ := p.until_ + us 200 }
      | 4 => s.setPass { p with stage := 5, until_ := p.until_ + measureTime u }
      | 5 => s.setPass { p with stage := 6, m2 := p.m2 ++ m, until_ := p.until_ + us 50 }
      | _ => s
  | none => s

def execPassStageEnd (u : Nat) (m : List Int) (s : State) : Host.Outcome State Fault Refusal := s.done (s.passStageEnd u m)

/-- The accepted correction: the mean of the two, rounded to a whole tap, a half toward zero (R288). -/
def meanTap (a b : Int) : Int := (a + b).tdiv 2

/-- The trim that the n-th correction concerns: a lane unit's are those of the lanes in turn. -/
def State.trimAt (s : State) (u n : Nat) : Int := s.trimNow u n

/-- The last lane of a lane group's pass is under test, or the unit is no lane group. -/
def Pass.lastTurn (p : Pass) : Bool := !isGroup p.unit || p.lane == 3

/-- The position, as a trim's number, of the largest disagreement. -/
def worstTrim (p : Pass) : Nat :=
  ((List.range (trimCount p.unit)).foldl (fun (acc : Nat × Nat) n =>
    let d := ((p.m1[n]?).getD 0 - (p.m2[n]?).getD 0).natAbs
    if acc.2 < d then (n, d) else acc) (0, 0)).1

/-- The slice charged with a rejection (R303): that with the largest disagreement. -/
def State.charge (p : Pass) (s : State) : State :=
  let n := worstTrim p
  if isChanUnit p.unit then
    if 128 ≤ n then s
    else
      let q := (quadsOf p.unit)[n / 32]?.getD 0
      s.wearEvent (256 * (q / 4 + 1) + q % 4) ((s.quad q).serving (n % 16)) 2 0 0
  else if isGroup p.unit then
    match (s.members (linkOf p.unit)).find? (fun l => (s.lane l).slot == n / 2) with
    | some l => s.wearEvent p.unit l 2 0 0
    | none => s
  else if isPair p.unit then s.wearEvent p.unit (n / 2 + if (s.link (linkOf p.unit)).spareIn then 2 else 0) 2 0 0
  else s

/-- PASS_COMPARE (R288): `q` gives the quality figures of the second measurement, less the effect of the accepted correction; for
lanes the eye widths in UI x 1,000. -/
def State.passCompare (u : Nat) (q : List Nat) (s : State) : State :=
  match s.passOf u with
  | some p =>
    if p.stage != 6 || p.restart || !s.due p.until_ then s
    else
      let p := { p with stage := 7, until_ := p.until_ + us 10, quality := p.quality ++ q }
      if !p.lastTurn then s.setPass p
      else
        let ns := List.range (trimCount u)
        let a := fun (n : Nat) => (p.m1[n]?).getD 0
        let b := fun (n : Nat) => (p.m2[n]?).getD 0
        let worst := ns.foldl (fun m n => max m (a n - b n).natAbs) 0
        let agree := ns.all (fun n => (a n - b n).natAbs ≤ trimTolerance (trimKind u n))
        let target := fun n => s.trimAt u n + meanTap (a n) (b n)
        let inside := ns.all (fun n => let r := trimRange (trimKind u n); r.1 ≤ target n && target n ≤ r.2)
        let p := { p with disagree := worst }
        if agree && inside then
          s.setPass { p with outcome := 1, targets := (ns.filter (fun n => meanTap (a n) (b n) != 0)).map (fun n => (n, target n)) }
        else s.setPass { p with outcome := if agree then 3 else 2 }
  | none => s

def execPassCompare (u : Nat) (q : List Nat) (s : State) : Host.Outcome State Fault Refusal := s.done (s.passCompare u q)

/-- Values were accepted: UNCOMMITTED (R291, R293, R296). -/
def State.uncommit (s : State) : State := { s with dress := { s.dress with uncommitted := true, acceptedSince := true } }

/-- MIXED_CAL in every plane with a contribution from the channel since its last clear (R247). -/
def State.mixedCal (c : Nat) (s : State) : State :=
  { s with farm := { s.farm with planes := s.farm.planes.map (fun e =>
      (e.1, { e.2 with mixed := e.2.mixed || bit e.2.chans c,
                       shadow := e.2.shadow.map (fun k => if k.chan == c && !k.nothing then { k with mixed := true } else k) })) } }

/-- The figures of R300 that an accepted pass leaves; a lane unit's are the smallest and largest of its eye widths. -/
def passFigures (p : Pass) : Nat × Nat × Nat :=
  let q := fun (i : Nat) => (p.quality[i]?).getD 0
  if isGroup p.unit || isPair p.unit then
    let ws := p.quality
    ((F64.ofNat' (ws.foldl min (q 0))).r32, (F64.ofNat' (ws.foldl max 0)).r32, 0)
  else if p.unit == 0x0500 then (q 0, q 1, 0)
  else (q 0, q 1, q 2)

/-- Take the results of an accepted pass. -/
def State.acceptPass (p : Pass) (ge : Time) (s : State) : State :=
  let u := p.unit
  let x := s.unitDress u
  let f := passFigures p
  let s := s.setUnitDress u { x with q1 := f.1, q2 := f.2.1, q3 := f.2.2, qFlash := false, index := s.idxAt ge, epoch := s.dir.epochs % 256 }
  let s := ((s.sat O.PASSES_ACCEPTED).bump 321).uncommit
  if isChanUnit u then
    let n := p.targets.foldl (fun m t => max m (t.2 - s.trimNow u t.1).natAbs) 0
    let s := s.mixedCal (u / 256 - 1)
    if n == 0 then s
    else { s with dress := { s.dress with applying := s.dress.applying ++ [({ unit := u, targets := p.targets, next := ge, left := n } : Applying)] } }
  else
    let s := p.targets.foldl (fun s t => s.setTrim u t.1 t.2) s
    if u == 0x0500 then s
    else
      let lanes := (s.members (linkOf u)).filter (fun l => l < 18 || (pairLanes (linkOf u) (s.link (linkOf u)).spareIn).contains l)
      { s with dress := { s.dress with eyes := lanes.foldl (fun t l => tset l ((p.quality[(s.lane l).slot]?).getD 0) t) s.dress.eyes } }

/-- PASS_END (R286, R290, R291): a channel or Sluice pass at the first raw-grain boundary at or after the end of RESTORING, a lane
pass when its lanes rejoin; a lane group goes on to its next lane. -/
def State.passEnd (u : Nat) (s : State) : State :=
  match s.passOf u with
  | some p =>
    let ge := if isChanUnit u || u == 0x0500 then s.grainAt p.until_ else p.until_
    if p.stage != 7 || !s.due ge then s
    else if !p.lastTurn then
      let s := s.rejoinLanes u
      let p := { p with stage := 2, lane := p.lane + 1, until_ := p.until_ + us 10 }
      (s.setPass p).isolate p
    else
      let s := (s.rejoinLanes u).unblind p
      let s := s.endPass p p.outcome
      if p.outcome == 1 then s.acceptPass p ge else ((s.charge p).sat O.PASSES_REJECTED).bump 322
  | none => s

def execPassEnd (u : Nat) (s : State) : Host.Outcome State Fault Refusal := s.done (s.passEnd u)


/-- PASS_RESTART: once the layering, or the failover, is over, the pass goes back to ISOLATING with nothing measured, a lane group's to its
first lane (R39; DEDUCED, log entry 96). -/
def State.passRestart (u : Nat) (s : State) : State :=
  match s.passOf u with
  | some p =>
    if p.restart && !s.layeringOn u && s.fan.failUntil.isNone then
      let p : Pass := { p with restart := false, stage := 2, until_ := s.clk.now + us 10, lane := 0, m1 := [], m2 := [], quality := [] }
      (((s.rejoinLanes u).setPass p).isolate p |>.sat O.PASSES_RESTARTED).bump 323
    else s
  | none => s

def execPassRestart (u : Nat) (s : State) : Host.Outcome State Fault Refusal := s.done (s.passRestart u)

/-- APPLY_STEP (R291): every trim of the unit that has not reached its target moves one tap. A layering in progress on the unit passes the
step over, to the next raw grain, and with it every later one; after four such layerings it goes before a fifth (R37, R38). -/
def State.applyStep (u : Nat) (s : State) : State :=
  match s.dress.applying.find? (fun a => a.unit == u) with
  | some a =>
    if !s.due a.next then s
    else
      let ts := (quadsOf u).filterMap (fun q => (s.quad q).pending.map (fun e => e.1))
      let passed := (a.passed ++ ts).eraseDups
      let rest := s.dress.applying.filter (fun x => x.unit != u)
      if !ts.isEmpty && decide (passed.length ≤ 4) then
        { s with dress := { s.dress with applying := rest ++ [{ a with passed := passed, next := s.grainAt (s.clk.now + 1) }] } }
      else
      let s := a.targets.foldl (fun s t =>
        let v := s.trimNow u t.1
        if v == t.2 then s else s.setTrim u t.1 (if v < t.2 then v + 1 else v - 1)) s
      let next := if a.left ≤ 1 then rest else rest ++ [{ a with left := a.left - 1, next := a.next + 65536, passed := [] }]
      { s with dress := { s.dress with applying := next } }
  | none => s

def execApplyStep (u : Nat) (s : State) : Host.Outcome State Fault Refusal := s.done (s.applyStep u)

/-- A slice that is retired leaves the application: its position's targets are dropped (R291). -/
def State.dropTargets (q j : Nat) (s : State) : State :=
  let gone := fun (u n : Nat) => (quadsOf u)[n / 32]? == some q && decide (n < 128) && n % 16 == j
  let drop := fun (a : Applying) => { a with targets := a.targets.filter (fun t => !gone a.unit t.1) }
  { s with dress := { s.dress with applying := s.dress.applying.map drop } }

/-! ### An uncovered fault (R154, R289) -/

/-- Every pass ends with ABORTED_FAULT; inputs are reconnected at once. -/
def State.abortPasses (s : State) : State :=
  s.dress.passes.foldl (fun s p => ((((s.rejoinLanes p.unit).unblind p).endPass p 4).sat O.PASSES_ABORTED).bump 324) s

/-- What a step in which an uncovered fault came about ends with. -/
def State.protect (s : State) : State :=
  if s.fault.stop then { s with fault := { s.fault with stop := false } }.faultStop.abortPasses else s

/-- The outcome of a step within which an uncovered fault may come about. -/
def State.finish (s0 s : State) : Host.Outcome State Fault Refusal := s0.done s.protect

/-! ### Natural gaps (R292, R293) -/

/-- Tolerance of an item: 0 to 3 interpolator references, 4 the event timer, 5 + 16 q + j spare slice of quad q for position j. -/
def gapTolerance (item : Nat) : Nat := if item < 4 then 64 else if item == 4 then 300 else 2

/-- The present sample of channel c lies in a natural gap (R292): its raw grain is Normal with neither SETTLING nor OVERRANGE, the channel is
not blind, and no plan takes the grain, or it is blanking, or it lies in the time holdoff of a bound TRIGGER slot. -/
def State.naturalGap (s : State) (c : Nat) : Bool :=
  let normal := match (s.chan c).hist with | g :: _ => !g.gap && !g.stale && !g.settle && !g.aff.contains true | [] => false
  let unused := planNos.all (fun q => !(armedSt (s.plan q).st && (s.plan q).cfg.chans.contains c))
  let held := slotNos.any (fun n => let x := s.slot n
    x.cfg.role == 0 && x.cfg.hmode == 1 && (s.boundTo n).isSome && (match x.holdTo with | some h => decide (s.idx ≤ h) | none => false))
  normal && !s.blindNow c && (unused || s.blanking s.idx (s.idx + 1) || held)

/-- The present EVT cycle lies in a natural gap of the event timer (R292): neither input has had an edge within 100 ns. -/
def State.timerGap (s : State) : Bool :=
  !s.stopped 6 && (match s.timer.edgeAt with | some t => decide (t + 8000 < s.clk.now) | none => true)

/-- Does the item gather now: in a natural gap, its quad's spare unused? -/
def State.gapOpen (s : State) (item : Nat) : Bool :=
  if item < 4 then s.naturalGap item
  else if item == 4 then s.timerGap
  else
    let q := (item - 5) / 16
    item < 261 && s.naturalGap (q / 4) && (s.quad q).pending.isNone && !(s.quad q).layered && !(s.quad q).failed && !(s.quad q).retired.contains (s.quad q).spare

/-- How many values an item's window gives: 64 corrections; two tables of 65 constants, and the residual integral nonlinearity in fs; skew
and threshold. A window that gives fewer, such as one without slope, is discarded. -/
def gapLength (item : Nat) : Nat := if item < 4 then 64 else if item == 4 then 131 else 2

/-- Two windows agree. -/
def agreeAll (tol : Nat) (a b : List Int) : Bool :=
  a.length == b.length && (a.zip b).all (fun e => (e.1 - e.2).natAbs ≤ tol)

/-- An accepted window comes into force. -/
def State.acceptWindow (item : Nat) (w : List Int) (s : State) : State :=
  let s := ((s.sat O.GAP_WINDOWS_ACCEPTED).bump 325).uncommit
  let s := { s with dress := { s.dress with ages := tset item s.runTime s.dress.ages } }
  if item < 4 then { s with dress := { s.dress with interp := tset item w s.dress.interp } }
  else if item == 4 then
    let n := w.map Int.toNat
    let s := s.setUnitDress 0x0803 { s.unitDress 0x0803 with q1 := ((F64.ofNat' ((n[130]?).getD 0)).div (F64.ofNat' 1000)).r32, qFlash := false }
    { s with timer := { s.timer with nextGen := some (n.take 65, (n.drop 65).take 65) } }.adoptGen
  else
    let qn := (item - 5) / 16
    let j := (item - 5) % 16
    let q := s.quad qn
    let done := let l := tget (fun _ => []) s.dress.sparePos qn; if l.contains j then l else j :: l
    let q := { q with trims := tset (16 * q.spare + j) (clampTrim 0 ((w[0]?).getD 0), clampTrim 1 ((w[1]?).getD 0)) q.trims, spareReady := q.spareReady || done.length == 16 }
    { s.setQuad qn q with dress := { s.dress with sparePos := tset qn done s.dress.sparePos } }

/-- GAP_WINDOW_COMPLETE: a window's result `w` (R293). -/
def State.gapWindow (item : Nat) (w : List Int) (s : State) : State :=
  if s.rd O.GAP_DRESS_ENABLE != 1 || !s.gapOpen item || w.length != gapLength item || s.asleep || (s.dev != .run && s.dev != .faulted) then s
  else
    let first := fun (l : Option (List Int)) (s : State) =>
      { s with dress := { s.dress with firsts := match l with | some l => tset item l s.dress.firsts | none => tdel item s.dress.firsts } }
    match tfind s.dress.firsts item with
    | none => first (some w) s
    | some f =>
      if agreeAll (gapTolerance item) (f.take 130) (w.take 130) then (first (some w) s).acceptWindow item w
      else ((first none s).sat O.GAP_WINDOWS_REJECTED).bump 326

def execGapWindowComplete (item : Nat) (w : List Int) (s : State) : Host.Outcome State Fault Refusal := s.done (s.gapWindow item w)

/-- GAP_DRESS_ENABLE written: 0 discards windows in progress. -/
def writeGapEnable (v : Int) (s : State) : WRes :=
  let s := s.wr O.GAP_DRESS_ENABLE v
  .ok (if v = 0 then { s with dress := { s.dress with firsts := [] } } else s)

def execGapDressEnableWrite (p : Path) (v : Int) (s : State) : Host.Outcome State Fault Refusal :=
  s.done (s.write p O.GAP_DRESS_ENABLE v (writeGapEnable v))

/-! ### Commits (R294 to R297) -/

/-- The calibration in force, with the targets of units in APPLYING (R296). -/
def State.calBody (s : State) : CalBody :=
  let t := s.dress.applying.foldl (fun s a => a.targets.foldl (fun s e => s.setTrim a.unit e.1 e.2) s) s
  { quads := t.quads.map (fun e => (e.1, e.2.trims)), trims := t.dress.trims, interp := t.dress.interp,
    timer := s.timer.gens.head?,
    quality := (s.dress.units.filter (fun e => !e.2.qFlash)).map (fun e => (e.1, e.2.q1, e.2.q2, e.2.q3)),
    index := s.idx, epoch := s.dir.epochs }

/-- COMMIT_DRESS: within 350 ms. -/
def cmdCommit (s : State) : WRes :=
  if s.dress.commit.isSome then notNow Why.DRESS_COMMIT_BUSY
  else
    let due := s.clk.now + s.fv (ms 350)
    .ok { s.adv with dress := { s.dress with commit := some (due, s.calBody), acceptedSince := false } }

/-- The calibration of the flash copy in force; of the factory record the model's own (R294, R297). -/
def DressSt.bodyInForce (d : DressSt) : CalBody :=
  match (match d.inForce with | 0 => d.copyA | 1 => d.copyB | _ => none) with
  | some (_, b) => b
  | none => {}

/-- Generation of the copy in force; 0 for the factory record. -/
def DressSt.generation (d : DressSt) : Nat :=
  match (match d.inForce with | 0 => d.copyA | 1 => d.copyB | _ => none) with
  | some (g, _) => g
  | none => 0

/-- COMMIT_COMPLETE: did the check pass, and did the second one (R296)? -/
def State.commitComplete (first second : Bool) (s : State) : State :=
  match s.dress.commit with
  | none => s
  | some (_, body) =>
    let d := s.dress
    let toB := d.inForce == 0
    let g := if d.inForce == 2 then 1 else (d.generation + 1) % 2 ^ 32
    let d := { d with commit := none }
    if first || second then
      let r := if first then 1 else 2
      let d := { d with commitResult := r, inForce := if toB then 1 else 0, fallback := false, uncommitted := d.acceptedSince,
                        copyA := if toB then d.copyA else some (g, body), copyB := if toB then some (g, body) else d.copyB }
      ({ s with dress := d, pond := { s.pond with shadow := body } }.bump 327).trace_ 8 0x0000 0xFFFF (g + r * 2 ^ 32)
    else
      let d := { d with commitResult := 3, copyA := if toB then d.copyA else none, copyB := if toB then none else d.copyB }
      ({ s with dress := d }.covered 0x14 0x00FF 0xFFFF 0 0 0).trace_ 8 0x0000 0xFFFF (g + 3 * 2 ^ 32)

def execCommitComplete (first second : Bool) (s : State) : Host.Outcome State Fault Refusal := s.done (s.commitComplete first second)

/-! ### The unit window (R300) -/

/-- Stage of a unit as PASS_STATE shows it. -/
def State.passState (s : State) (u : Nat) : Nat :=
  match s.passOf u with
  | some p => p.stage
  | none => if s.dress.applying.any (fun a => a.unit == u) then 8 else 0

def writeDressUnit (p : Path) (v : Int) (s : State) : WRes :=
  let u := v.toNat
  if !dressable u && u != 0x0803 then bad Why.DRESS_UNIT
  else
    let left := ((s.dress.applying.find? (fun a => a.unit == u)).map (fun a => a.left)).getD 0
    .ok { s.wr (win p O.DRESS_UNIT) v with dress := { s.dress with win := tset (side p) (u, s.passState u, s.unitDress u, left) s.dress.win } }

def execDressUnitLatch (p : Path) (v : Int) (s : State) : Host.Outcome State Fault Refusal :=
  s.done (s.write p O.DRESS_UNIT v (writeDressUnit p v))

end Sys2Proof.Machine
end

