-- ==== Sys2Proof/Machine/Fantail.lean ====
section
/-!
DEFINITION. The Fantail (chapter 09): the timebase and REF_IN (R257 to R262), loops and gates (R263 to R271), the twins and
failover (R273 to R276), and the registration of SYNC_IN (R277, R279).
-/

namespace Sys2Proof.Machine

/-! ### Timebase (R258, R259, R261) -/

/-- An entry into a state other than DISCIPLINED (R261). -/
def State.unrefEntry (boot : Bool) (s : State) : State :=
  let silent := boot || (s.fan.tb == 0 && s.rd O.REF_SELECT == 3)
  ((s.sat O.UNREF_INTERVALS).bump 456).record 0x1B 0x08FF 0xFFFF 0 0 0 s.tbIdx false (!silent)

/-- The longest that ACQUIRING takes to remove an offset of `e`, in 10^-6 ppm: 2 s for each ppm, and 5 s (R513). -/
def acquireTime (e : Int) : Time := 160000 * e.natAbs + sec 5

/-- The timebase enters a state. The correction in force stays where it is, and slews from there: to 0 in FREE (R259, R260). -/
def State.setTb (st : Nat) (s : State) : State :=
  if s.fan.tb == st then s
  else
    let c := s.correctionNow
    let s := { s with fan := { s.fan with
      tb := st, changes := s.fan.changes + 1, gridKnown := s.fan.gridKnown && st == 2,
      correction := c, corrTo := if st == 0 then 0 else if st == 1 then c else s.fan.corrTo, corrAt := s.clk.now, goodSince := none,
      acqBy := if st == 1 then s.clk.now + acquireTime s.fan.freqError else s.fan.acqBy } }
    let s := s.trace_ 0xA 0 0xFFFF st
    if st == 2 then s else s.unrefEntry false

/-- Is frequency `k` (1 10 MHz, 2 100 MHz) valid under a selection (R258)? -/
def validRef (sel k : Nat) : Bool :=
  match sel with
  | 0 => k == 1 || k == 2
  | 1 => k == 1
  | 2 => k == 2
  | _ => false

/-- The frequency present under a selection by the last two measurements. -/
def State.refByMeas (s : State) (sel : Nat) : Option Nat :=
  match s.fan.meas with
  | a :: b :: _ => if a == b && validRef sel a then some a else none
  | _ => none

/-- Correction that HOLDOVER holds (R259): the mean over the last 10 s, or since REF_IN became present; under 1 ms the one in force. -/
def State.heldCorrection (s : State) : Int :=
  let since := s.fan.presentSince.getD s.clk.now
  let log := s.fan.corrLog.filter (fun e => decide (since ≤ e.1) && decide (s.clk.now ≤ e.1 + sec 10))
  if s.clk.now < since + ms 1 || log.isEmpty then s.correctionNow
  else roundDiv ((log.map (fun e => e.2)).foldl (· + ·) 0) log.length

/-- REF_IN becomes absent. `d`: what REF_DETECTED then reports. -/
def State.refAbsent (d : Nat) (s : State) : State :=
  let held := s.heldCorrection
  let was := s.fan.tb
  let s := { s with fan := { s.fan with presentSince := none, inUse := 0, phaseError := 0, detected := d } }
  if was == 1 || was == 2 then ({ s with fan := { s.fan with correction := s.correctionNow, corrAt := s.clk.now, corrTo := held } }).setTb 3
  else s

/-- REF_IN becomes present at frequency `k`. -/
def State.refPresent (k : Nat) (s : State) : State :=
  let s := { s with fan := { s.fan with presentSince := some s.clk.now, inUse := k, detected := k } }
  s.setTb 1

/-- What REF_DETECTED reports of an input that is not present: 0 absent, 3 out of range. -/
def odRef (sel kind : Nat) : Nat := if sel == 3 || kind == 0 || validRef sel kind then 0 else 3

/-- The discipline loop at a measurement (R259, R260, R513): the correction it arrives at, within what may have slewed since the last
one, and the phase error; under ACQUIRING, since when frequency and phase error have met the bounds. -/
def State.discipline (freq corr phase : Int) (s : State) : State :=
  let f := s.fan
  let c := slewTo f.correction corr (s.clk.now - f.corrAt)
  let good := decide (freq.natAbs < 2000) && decide (phase.natAbs < 50)
  { s with fan := { f with
      correction := c, corrTo := c, corrAt := s.clk.now, phaseError := clampI (-5000) 5000 phase,
      corrLog := ((s.clk.now, c) :: f.corrLog).filter (fun e => decide (s.clk.now ≤ e.1 + sec 10)),
      goodSince := if f.tb == 1 && good then some (f.goodSince.getD s.clk.now) else none } }

/-- ACQUIRING has met the bounds of R259 for 1 s, or has lasted as long as R513 lets it. -/
def State.acquired (s : State) : Bool :=
  s.fan.tb == 1 && s.fan.presentSince.isSome &&
    ((match s.fan.goodSince with | some t => s.due (t + sec 1) | none => false) || s.due s.fan.acqBy)

/-- REF_MEASUREMENT (R258): 0 below the amplitude threshold or no edges, 1 or 2 within 20 ppm of 10 or 100 MHz, 3 another
frequency; `far`: more than 25 ppm from the frequency detected; the frequency measured, and its phase error in ps. In Off neither timebase nor loop runs (R257). -/
def State.refMeasurement (kind : Nat) (far : Bool) (freq : RefFreq) (phase : Int) (s : State) : State :=
  let f := s.fan
  let sel := s.rdN O.REF_SELECT
  if f.tb == 4 || s.gov.off then s
  else
    let s := { s with fan := { f with meas := (min kind 3 :: f.meas).take 2, freqError := freq.error } }
    if f.presentSince.isSome then
      if far || (kind != f.inUse && (kind == 1 || kind == 2)) then s.refAbsent (odRef sel kind)
      else
        let s := if f.tb == 1 || f.tb == 2 then s.discipline freq.error freq.corr phase else s
        if f.tb == 1 && s.due s.fan.acqBy then s.setTb 2 else s
    else match s.refByMeas sel with
      | some k => s.refPresent k
      | none => { s with fan := { s.fan with detected := odRef sel kind } }

def execRefMeasurement (kind : Nat) (far : Bool) (corr : RefFreq) (phase : Int) (s : State) : Host.Outcome State Fault Refusal :=
  s.done (s.refMeasurement kind far corr phase)

/-- REF_EDGE_TIMEOUT (R258): no edge for 1 µs. -/
def State.refTimeout (s : State) : State :=
  if s.fan.tb == 4 || s.gov.off then s
  else
    let s := if s.fan.presentSince.isSome then s.refAbsent 0 else s
    { s with fan := { s.fan with detected := 0, meas := (0 :: s.fan.meas).take 2 } }

def execRefEdgeTimeout (s : State) : Host.Outcome State Fault Refusal := s.done s.refTimeout

/-- TIMEBASE_DISCIPLINED (R259): 1 s within the error bounds without interruption. -/
def State.disciplined (s : State) : State := if s.acquired then s.setTb 2 else s

def execTimebaseDisciplined (s : State) : Host.Outcome State Fault Refusal := s.done s.disciplined

/-- REF_SELECT written (R259): a REF_IN that stays present at a frequency that the new selection allows is kept, even between 20 and
25 ppm off it. -/
def writeRefSelect (v : Int) (s : State) : WRes :=
  let old := s.rd O.REF_SELECT
  let s := s.wr O.REF_SELECT v
  if v = old ∨ s.fan.tb = 4 then .ok s
  else if v = 3 then .ok ({ s with fan := { s.fan with presentSince := none, inUse := 0, detected := 0, phaseError := 0 } }.setTb 0)
  else if s.fan.presentSince.isSome && validRef v.toNat s.fan.inUse && (s.fan.tb == 1 || s.fan.tb == 2) then .ok s
  else
    match s.refByMeas v.toNat with
    | some k => .ok (s.refPresent k)
    | none =>
      let d := odRef v.toNat ((s.fan.meas.head?).getD 0)
      .ok (if s.fan.presentSince.isSome then s.refAbsent d else { s with fan := { s.fan with detected := d } })

def execRefSelectWrite (p : Path) (v : Int) (s : State) : Host.Outcome State Fault Refusal :=
  s.done (s.write p O.REF_SELECT v (writeRefSelect v))

/-! ### Loops (R263 to R268) -/

def loopNos : List Nat := List.range 7

/-- Unit and lock time of a loop (R263). -/
def loopUnit (l : Nat) : Nat := if l < 2 then 0x0800 else if l < 5 then 0x0801 else if l == 5 then 0x0802 else 0x0803
def lockTime (l : Nat) : Nat := if l < 2 then us 120 else if l == 5 then us 80 else us 40

/-- Settle time: 2,048 timebase cycles. -/
def settleTime : Nat := 2048 * tbCycle

/-- What the closing of a gate does to the domains around it (R266, R267, R361, R436). -/
def State.gateCloses (l : Nat) (s : State) : State :=
  match l with
  | 2 => s.storePause
  | 5 => s.retrain linkNos true
  | 6 => { s.cutPair with timer := { s.cutPair.timer with rearm := none } }
  | _ => s

/-- A loop loses lock, or is put into a planned re-lock: its gate closes (R265). A standby twin's gate closes on no domain. -/
def State.loopLost (l : Nat) (planned : Bool) (s : State) : State :=
  let x := s.loop l
  let y := { x with lock := false, gate := false, began := s.clk.now, openAt := none,
                    fails := if x.lock then 0 else x.fails,
                    lostAt := if planned then x.lostAt else some (x.lostAt.getD s.clk.now),
                    lostIdx := if planned || x.lostAt.isSome then x.lostIdx else s.tbIdx,
                    merges := if x.gate then 0 else x.merges, planned := planned && (x.planned || x.gate) }
  let s := s.setLoop l y
  if x.gate && 2 ≤ l then s.gateCloses l else s

/-! ### Failover (R273 to R276, R154) -/

/-- A grain that spans a failover (R55, R58). -/
def Grain.failed (g : Grain) : Grain :=
  let x := g.gapOf
  { x with flags := { x.flags with layer := true } }

/-- A plan's open segment closes at the first grain that carries GAP, or at its trigger grain, and the plan re-arms from sample b
(R154). -/
def State.failoverPlan (q : Nat) (b : Int) (s : State) : State :=
  let p := s.plan q
  if !armedSt p.st then s
  else
    let last := s.lastFormed p
    let first := (p.cfg.chans.map (fun c => tget (fun _ => -1) p.lastNum c)).foldl min last + 1
    match p.seg with
    | some (id, _) =>
      match tfind s.dir.segs id with
      | some g =>
        let s := (s.endSeg id (g.close (first + 1) [4, 5, 8])).bump 163
        s.rearm q s.origin.o b last true true
      | none => s.rearm q s.origin.o b last false true
    | none => s.rearm q s.origin.o b last false true

/-- TWIN_LOSS_OF_LOCK (R274 to R276): the active twin, detected while the grain that begins now is formed. The 16 grains before it are
in the delay still; what is older has left it. Without a standby the delay is lost (DEDUCED, log entry 97). -/
def State.twinLoss (s : State) : State :=
  let old := s.fan.active
  if !s.fan.sampling || s.asleep then s
  else
    let d := s.grainAt s.clk.now
    let s := chanNos.foldl (fun s c => s.headrace c) s
    let s := chanNos.foldl (fun s c => s.modChan c (fun x => { x with delay := x.delay.map (fun e => { e with grain := e.grain.failed }) })) s
    let s := (s.loopLost old true).supersede 0x0800
    if !s.fan.standbyReady then
      let s := { s with fan := { s.fan with sampling := false } }
      let s := chanNos.foldl (fun s c => s.modChan c (fun x => { x with delay := [] })) s
      s.uncovered 0x0C 0x0800 old 0 0
    else
      let u := d + 2500 * 64
      let s := { s with fan := { s.fan with active := 1 - old, standbyReady := false, failUntil := some u } }
      let s := planNos.foldl (fun s q => s.failoverPlan q (s.idxAt u)) s
      let s := ((s.sat O.FAILOVER_COUNT).bump 455).markRestart (fun p => isChanUnit p.unit)
      (s.countLayering true 6 0x0800).covered 0x0B 0x0800 old 1 0 2013

def execTwinLossOfLock (s : State) : Host.Outcome State Fault Refusal := s.finish s.twinLoss

/-- LOOP_LOSS_OF_LOCK (R264 to R266). A standby twin's loss clears STANDBY_READY and nothing else. -/
def State.loopLoss (l : Nat) (s : State) : State :=
  if 7 ≤ l || (s.loop l).dead || s.fan.tb == 4 || s.gov.off || s.gov.power == 3 || (decide (l < 2) && s.asleep) then s
  else if l < 2 then
    if l == s.fan.active then s.twinLoss
    else { s.loopLost l false with fan := { (s.loopLost l false).fan with standbyReady := false } }
  else if !(s.loop l).lock then s
  else s.loopLost l false

def execLoopLossOfLock (l : Nat) (s : State) : Host.Outcome State Fault Refusal := s.finish (s.loopLoss l)

/-- A lock attempt that is over, with a lock or without, is counted (R264, R266; the wear of a twin, R303). -/
def State.countRelock (l : Nat) (s : State) : State :=
  let s := (s.sat (O.RELOCK_COUNT l)).bump (448 + l)
  if l < 2 then s.wearEvent 0x0800 l 8 0 0 else s

/-- LOOP_LOCK_TIMEOUT (R264): the search restarts; a third failure in a row is the loop's failure (of a twin: DEDUCED, log entry
94). -/
def State.lockFailed (l : Nat) (s : State) : State :=
  let x := s.loop l
  if 7 ≤ l || x.lock || x.dead || !s.due (x.began + lockTime l) || s.gov.power == 3 || (decide (l < 2) && s.asleep) then s
  else
    let s := (s.setLoop l { x with fails := x.fails + 1, began := s.clk.now }).countRelock l
    if x.fails + 1 < 3 then s
    else
      let s := s.setLoop l { s.loop l with dead := true }
      if l < 2 then s.covered 0x0E 0x0800 0xFFFF 0 l 0
      else if l == 6 then (s.cutPair.unitDegraded 0x0803 true).covered 0x0E 0x0803 0xFFFF 2 6 0
      else (s.unitFailed (loopUnit l)).uncovered 0x0E (loopUnit l) 0xFFFF l 0

/-- A loop is in lock once its phase error has been small for 256 timebase cycles (R264). -/
def lockLeast : Nat := 256 * tbCycle

/-- LOOP_LOCKED (R264, R265): the settle time begins. -/
def State.loopLocked (l : Nat) (s : State) : State :=
  let x := s.loop l
  if 7 ≤ l || x.lock || x.dead || (s.fan.tb == 4 && l != 4) || s.gov.power == 3 || (decide (l < 2) && s.asleep)
      || !s.due (x.began + lockLeast) then s
  else s.setLoop l { x with lock := true, fails := 0, openAt := some (s.clk.now + settleTime) }

def execLoopLocked (l : Nat) (s : State) : Host.Outcome State Fault Refusal := s.done (s.loopLocked l)

/-- Nanoseconds of a span of sample periods, rounded up. -/
def nsOf (t : Nat) : Nat := ceilDiv t 80

/-- The trace entry of a re-lock without a fault record (R266): R472 lists no event code for it, so code and DATA are free. -/
def State.traceRelock (l : Nat) (s : State) : State :=
  (s.trace_ (Config.freeNat s.free % 65536) (loopUnit l) 0xFFFF (Config.freeNat (s.free + 1) % 2 ^ 64)).adv.adv

/-- What a gate's reopening does to its domain, and the record of an unplanned loss (R25, R265 to R269; its trace entry: log entry 94). -/
def State.gateOpens (l : Nat) (s : State) : State :=
  let x := s.loop l
  let s := s.setLoop l { x with gate := true, openAt := none, lostAt := none, planned := false, newN := none, newSsc := none, merges := 0 }
  let s := (s.countRelock l)
  let s := if x.lostAt.isSome then s else s.traceRelock l
  let s := match x.newN with | some n => { s with fan := { s.fan with runN := n } } | none => s
  let s := match x.newSsc with
    | some v =>
      let sh := if l == 2 then 0 else 8
      { s with fan := { s.fan with sscApplied := s.fan.sscApplied - bits s.fan.sscApplied (sh + 7) sh * 2 ^ sh + v * 2 ^ sh } }
    | none => s
  let s := match l with
    | 2 => s.storeResume
    | _ => s
  match x.lostAt with
  | some t =>
    let intr := if l < 2 then 0 else min (nsOf (s.clk.now - t)) 4294967295
    s.record 0x0F (loopUnit l) 0xFFFF 3 (l + x.merges % 65536 * 2 ^ 16) intr x.lostIdx false true
  | none => s

/-- GATE_REOPEN of a loop whose settle time has passed, but for what waits behind the gate. -/
def State.gateReopen (l : Nat) (s : State) : State :=
  match (s.loop l).openAt with
  | some t => if l < 7 && s.due t then s.gateOpens l else s
  | none => s

/-- LOOP_COMMIT (R268, R269): the RUN loop's pending N, all together, by a re-lock. -/
def State.loopCommit (s : State) : State :=
  match s.fan.pendN with
  | some n =>
    if (s.loop 3).dead || s.gov.power == 3 then s
    else
      let s := { s with fan := { s.fan with pendN := none } }.bump 297
      let s := s.loopLost 3 true
      s.setLoop 3 { s.loop 3 with newN := some n }
  | none => s

def execLoopCommit (s : State) : Host.Outcome State Fault Refusal := s.done s.loopCommit

/-- The window of the next evaluation contains a throttling step (R341). -/
def State.modStepped (s : State) : State := { s with gov := { s.gov with stepped := true } }

/-- SSC_COMMIT (R271): the RUN loop's re-lock counts as a Governor throttling step. -/
def writeSscCommit (v : Int) (s : State) : WRes :=
  let m := v.toNat
  if bit m 0 && planNos.any (fun q => armedSt (s.plan q).entering) then notNow Why.FANTAIL_DOMAIN_BUSY
  else
    let relock := fun (l k : Nat) (s : State) => let s := s.loopLost l true; s.setLoop l { s.loop l with newSsc := some (s.rdN k) }
    let s := if bit m 0 then relock 2 O.SSC_POND s else s
    let s := if bit m 1 then ((relock 3 O.SSC_RUN s).bump 297).modStepped else s
    .ok (if bit m 2 then { s with fan := { s.fan with sscStored := s.rdN O.SSC_CTL } } else s)

def execSscCommit (p : Path) (v : Int) (s : State) : Host.Outcome State Fault Refusal :=
  s.done (s.write p O.SSC_COMMIT v (writeSscCommit v))

/-- A spread setting written (R270, R283): CTL accepts 0.25 % only. -/
def writeSsc (k : Nat) (v : Int) (s : State) : WRes :=
  let w := v.toNat
  if bits w 1 0 == 3 then bad Why.RESERVED_VALUE
  else if k == O.SSC_CTL && bits w 1 0 != 0 && bits w 4 3 != 0 then bad Why.FANTAIL_SSC_RANGE
  else s.put k v

/-- STANDBY_READY (R273, R275, R315): the standby twin is locked, has settled and is aligned. -/
def State.standbyAligned (s : State) : State :=
  let x := s.loop (1 - s.fan.active)
  if x.lock && x.gate && !x.dead && s.fan.sampling && !s.asleep then { s with fan := { s.fan with standbyReady := true } } else s

def execStandbyReady (s : State) : Host.Outcome State Fault Refusal := s.done s.standbyAligned

/-- TIMEBASE_STOPPED (R262): every Fantail loses its reference; CTL is referred to the AON oscillator, on which it re-locks. -/
def State.timebaseStopped (s : State) : State :=
  if s.fan.tb == 4 || s.gov.off then s
  else
    let s := s.setTb 4
    let s := loopNos.foldl (fun s l => s.loopLost l (l != 4)) s
    let s := [0, 1, 2, 3, 5, 6].foldl (fun s l => s.setLoop l { s.loop l with dead := true, lostAt := none }) s
    let s := { s with fan := { s.fan with fallback := true, sampling := false, standbyReady := false, failUntil := none, sync := none } }
    let s := chanNos.foldl (fun s c => s.modChan c (fun x => { x with delay := [] })) s
    s.uncovered 0x0D 0x08FF 0xFFFF 0 0

def execTimebaseStopped (s : State) : Host.Outcome State Fault Refusal := s.finish s.timebaseStopped

/-! ### SYNC_IN (R276, R277, R279) -/

/-- The timebase edge that registers a SYNC_IN edge at the present time: every edge, or under DISCIPLINED only those that coincide
with REF_IN's. At 10 MHz their place is known from the first such registration on (R277); before it, it is free. -/
def State.syncEdge (s : State) : Time :=
  let next := alignUp s.clk.epochBase tbCycle s.clk.now
  if s.fan.tb == 2 && s.fan.inUse == 1 then
    if s.fan.gridKnown then alignUp (s.clk.epochBase + 3200) 8000 s.clk.now else next + 800 * s.fv 10
  else next

/-- SYNC_IN_EDGE (R277, R279): ignored, held until a failover ends, or registered: sample 0 comes 16 timebase cycles later. -/
def State.syncIn (s : State) : State :=
  let t := s.syncEdge
  let s := s.adv
  let f := s.fan
  let near := match f.syncDone with | some z => decide (t ≤ z + us 1) | none => false
  let before := match f.sync with | some z => decide (t < z) | none => false
  if s.rd O.SYNC_IN_ENABLE != 1 || s.dev == .boot || s.dev == .sleep || s.asleep || near || before || f.heldSync then
    (s.sat O.SYNC_IGNORED).bump 120
  else
    let s := s.bump 119
    match f.failUntil with
    | some u => { s with fan := { f with heldSync := true, sync := some (alignUp s.clk.epochBase tbCycle u + 12800) } }
    | none => { s.cutPair with fan := { f with sync := some (t + 12800) } }

/-- A SYNC_IN that a failover held is registered as the failover ends (R276, R361). -/
def State.heldRegistered (s : State) : State :=
  if s.fan.heldSync && s.fan.failUntil.isNone then { s.cutPair with fan := { s.fan with heldSync := false } } else s

def execSyncInEdge (s : State) : Host.Outcome State Fault Refusal := s.done s.syncIn

end Sys2Proof.Machine
end

