-- ==== Sys2Proof/Machine/GrainCycle.lean ====
section
/-!
DEFINITION. The GRAIN cycle (R92): what comes about at its boundary, the raw grains through the Bolters into the Headrace's delay
(R60 to R62, R79, R87), the Sluice's triggers with their placement (R106 to R110) and TRIG_OUT (R115 to R117), the decimation reset
(R88), and the start of an epoch (R278).
-/

namespace Sys2Proof.Machine

/-! ### Placement (R109, R110) -/

/-- One halving of a cubic in Bernstein form; the coefficients of the halves, scaled by 8. -/
def halfLow (b : Int × Int × Int × Int) : Int × Int × Int × Int :=
  (8 * b.1, 4 * (b.1 + b.2.1), 2 * (b.1 + 2 * b.2.1 + b.2.2.1), b.1 + 3 * b.2.1 + 3 * b.2.2.1 + b.2.2.2)
def halfHigh (b : Int × Int × Int × Int) : Int × Int × Int × Int :=
  (b.1 + 3 * b.2.1 + 3 * b.2.2.1 + b.2.2.2, 2 * (b.2.1 + 2 * b.2.2.1 + b.2.2.2), 4 * (b.2.2.1 + b.2.2.2), 8 * b.2.2.2)

/-- The smallest root in [0, 1], in steps of 2^-n from `lo`, found by halving: none where the coefficients have one sign. -/
def bezierRoot : Nat → Nat → Int × Int × Int × Int → Option Nat
  | n, lo, b =>
    let pos := 0 < b.1 && 0 < b.2.1 && 0 < b.2.2.1 && 0 < b.2.2.2
    let neg := b.1 < 0 && b.2.1 < 0 && b.2.2.1 < 0 && b.2.2.2 < 0
    if pos || neg then none
    else
      match n with
      | 0 =>
        if b.1 == 0 then some lo
        else if b.2.2.2 == 0 then some (lo + 1)
        else if (b.1 < 0 && 0 < b.2.2.2) || (0 < b.1 && b.2.2.2 < 0) then some lo
        else none
      | n + 1 =>
        match bezierRoot n lo (halfLow b) with
        | some r => some r
        | none => bezierRoot n (lo + 2 ^ n) (halfHigh b)

/-- 60 d(k) of R110, from v[k-3] to v[k+3] without v[k]. -/
def slope60 (a b c e f g : Int) : Int := -a + 9 * b - 45 * c + 45 * e - 9 * f + g

/-- The root of the cubic of R110 for v[s-4] to v[s+3] at level L, in 2^-40 of the interval. -/
def cubicRoot (v : Nat → Int) (l : Int) : Option Nat :=
  let n0 := slope60 (v 0) (v 1) (v 2) (v 4) (v 5) (v 6)
  let n1 := slope60 (v 1) (v 2) (v 3) (v 5) (v 6) (v 7)
  let b0 := 180 * (v 3 - l)
  let b3 := 180 * (v 4 - l)
  bezierRoot 40 0 (b0, b0 + n0, b3 - n1, b3)

/-- Entry j of an interpolator reference, 1/65,536 sample (R110, R293); beyond the 64 entries it is open. -/
def State.refEntry (s : State) (ref : Option (List Int)) (c j : Nat) : Int :=
  if j < 64 then
    match ref with
    | some w => (w[j]?).getD 0
    | none => Config.interpCorrection c j
  else Config.freeInt s.free

/-- q of R110 for u = a / b, b positive: the reference is linear between its entries. -/
def State.placeAt (s : State) (ref : Option (List Int)) (c : Nat) (a b : Int) : Int :=
  let j := (64 * a / b).toNat
  let f := 64 * a - (j : Nat) * b
  let x := s.refEntry ref c j
  roundDiv (65536 * a + x * b + (s.refEntry ref c (j + 1) - x) * f) b

/-- The raw grain of a channel that holds sample i, whatever the filter history begins with. -/
def Chan.rawAt (ch : Chan) (i : Int) : Option RawGrain := ch.hist.find? (fun g => g.index ≤ i && i < g.index + 64)

/-- The trigger as placed: index, fraction and quality (R109, R110). -/
def State.placed (ref : Option (List Int)) (t : Trig) (s : State) : Trig :=
  match t.place with
  | none => { t with index := t.s, fraction := 0, quality := 3 }
  | some (c, l) =>
    let ch := s.chan c
    let raw := fun (i : Nat) => ch.rawAt (t.s - 4 + (i : Nat))
    let code : Nat → Int := fun i =>
      match raw i with
      | some g => (g.codes[(t.s - 4 + (i : Nat) - g.index).toNat]?).getD 0
      | none => 0
    let v : Nat → Int := fun i => 64 * code i
    let bad := (List.range 8).any (fun i => match raw i with | some g => g.gap || g.blind || g.switched | none => true)
    let overR := (List.range 8).any (fun i => code i == 511 || code i == -512)
    let linear : Int × Int :=
      let d := v 4 - v 3
      if d == 0 then (0, 1) else if d < 0 then (v 3 - l, -d) else (l - v 3, d)
    let u : Int × Int :=
      if bad || overR then linear
      else match cubicRoot v l with
        | some r => ((r : Nat), 1099511627776)
        | none => linear
    let q := s.placeAt ref c u.1 u.2
    let ql := if bad then 2 else if overR then 1 else 0
    if 65536 ≤ q then { t with index := t.s, fraction := 0, quality := ql }
    else if q < 0 then { t with index := t.s - 1, fraction := 0, quality := ql }
    else { t with index := t.s - 1, fraction := q.toNat, quality := ql }

/-- A trigger whose assertion is on its way out has been placed: the output follows its sample index (R117). -/
def State.moveTrigOut (q : Nat) (t : Trig) (s : State) : State :=
  let d := (t.s - t.index).toNat
  { s with pins := { s.pins with pulses := s.pins.pulses.map (fun p =>
      if p.awaits == some (q, t.s) then { from_ := p.from_ - d, until_ := p.until_ - d, index := t.index } else p) } }

/-- A placement is finished: the segment's entry and LAST_TRIG_INDEX take it (R108, R123). -/
def State.finishPlacing (x : Placing) (s : State) : State :=
  let t := s.placed x.ref x.trig
  let s := s.adv.moveTrigOut x.plan t
  let s := { s with sluice := { s.sluice with last :=
    { index := t.index, fraction := t.fraction, slots := t.slots, info := x.plan * 4096 + t.cause * 256 + t.quality } } }
  let s := if t.quality == 1 then s.bump 115 else if t.quality == 2 then s.bump 116 else s
  match x.seg with
  | some id =>
    match tfind s.dir.segs id with
    | some g => s.setSeg id { g with trig := t }
    | none => s
  | none => s

/-- Insert by sample: triggers of one cycle are placed in the order of their samples. -/
def insertPlacing (x : Placing) : List Placing → List Placing
  | [] => [x]
  | y :: r => if x.trig.s < y.trig.s then x :: y :: r else y :: insertPlacing x r

/-- Place the triggers whose samples up to s + 3 lie before sample `top`. -/
def State.placeUpTo (top : Int) (s : State) : State :=
  let all := s.sluice.placing.foldl (fun l x => insertPlacing x l) []
  let ready := all.takeWhile (fun x => x.trig.place.isNone || decide (x.trig.s + 3 < top))
  let s := { s with sluice := { s.sluice with placing := all.drop ready.length } }
  ready.foldl (fun s x => s.finishPlacing x) s

/-- Place every trigger with what is at hand: the samples after it belong to no grain of its epoch. -/
def State.placeAll (s : State) : State := s.placeUpTo (s.sluice.placing.foldl (fun m x => max m (x.trig.s + 4)) 0)

/-! ### TRIG_OUT (R115 to R118, R122) -/

/-- An assertion for sample x of the grain that began at time t. In constant-latency mode the output follows the trigger's sample
index, which a plan's trigger has from its placement (R108, R117). -/
def State.assertTrigOut (t : Time) (x : Int) (plan : Option Nat) (s : State) : State :=
  let s := (s.sat O.TRIG_OUT_COUNT).bump 112
  let s := { s with sluice := { s.sluice with ctbPending := true } }
  let mode := s.rdN O.TRIG_OUT_MODE
  if mode == 0 then s
  else
    let at_ := t + (x - s.idxAt t).toNat
    let from_ := if mode == 1 then t + 1080 else at_ + 1087 + s.fv 3
    let s := if mode == 1 then s else s.adv
    let width := s.rdN O.TRIG_OUT_WIDTH * 64
    let awaits := match plan with | some q => if mode == 2 then some (q, x) else none | none => none
    { s with pins := { s.pins with pulses := { from_ := from_, until_ := from_ + width, index := x, awaits := awaits } :: s.pins.pulses } }

/-- The one assertion of a grain, at the earliest qualifying sample (R115); a plan's trigger before a slot event of its sample. -/
def State.trigOut (t : Time) (xs : List (Int × Option Nat)) (s : State) : State :=
  match xs with
  | [] => s
  | x :: r =>
    if s.sluiceIsolated then s
    else
      let e := r.foldl (fun m y => if y.1 < m.1 then y else m) x
      s.assertTrigOut t e.1 e.2

/-- TRIG_OUT_PULSE_END (R115): assertions whose TRIG_OUT_WIDTH cycles have passed are over. -/
def State.pulseEnd (s : State) : State :=
  { s with pins := { s.pins with pulses := s.pins.pulses.filter (fun p => !s.due p.until_) } }

def execTrigOutPulseEnd (s : State) : Host.Outcome State Fault Refusal := s.done s.pulseEnd

/-! ### Through the Bolter (R54 to R57, R76, R79, R87) -/

/-- An output grain is counted by its flags and enters the Headrace's delay. -/
def State.emit (c : Nat) (t : Time) (j : Int) (g : Grain) (s : State) : State :=
  let f := g.flags
  let s := if f.gap then s.bump (16 * c + 2) else s
  let s := if f.stale then s.bump (16 * c + 3) else s
  let s := if f.layer then s.bump (16 * c + 4) else s
  let s := if f.settling then s.bump (16 * c + 6) else s
  let s := if f.overR then
      ((s.bump (16 * c + 5)).sat (O.OVERRANGE_COUNT c)).modChan c (fun ch => { ch with sticky := true })
    else s
  let n := (s.chan c).formed + 1
  let d : Delayed := { at_ := t + 1088, ord := n, num := j, gen := s.origin.gen, grain := { g with gen := s.origin.gen }, takes := s.takesOf c j }
  s.modChan c (fun ch => { ch with formed := n, delay := ch.delay ++ [d] })

/-- A residue mismatch is counted and recorded (R87). -/
def State.residueMismatch (c : Nat) (i : Int) (s : State) : State :=
  ((s.sat (O.RESIDUE_ERRORS c)).bump (16 * c + 8)).recordAs 0 0x12 (256 * (c + 1) + 255) 0xFFFF 5 0 0 i false true

/-- A raw grain passes through the channel's Bolter; `hits`: its samples whose outputs residue mismatches affect (R87). A Gap or Stale
run completes a swap as it begins, and zeroes the histories once it is over (R79, R85), which is reckoned where raw grains enter the delay
line (DEDUCED, log entry 89). -/
def State.bolt (c : Nat) (t : Time) (r : RawGrain) (hits : List Nat) (s : State) : State :=
  let o := s.origin.o
  let old := s.chan c
  let bad := r.gap || r.stale
  let ch := if bad then old.swapNow o r.index t else if old.inRun then old.zero o r.index t else old
  let s := s.countSwap c old ch
  let hits := if 3 ≤ ch.cfg.mode then hits else []
  let s := hits.foldl (fun s i => s.residueMismatch c (r.index + (i : Nat))) s
  let f := { ch with inRun := bad || !hits.isEmpty }.feed c o r hits
  let s := s.setChan c f.ch
  let s := if f.clamps == 0 then s else (s.satBy (O.CLAMP_COUNT c) f.clamps).bumpBy (16 * c + 14) f.clamps
  f.grains.foldl (fun s e => s.emit c t e.1 e.2) s

/-- Form the raw grain of channel c and pass it through its Bolter. -/
def State.channelCycle (t : Time) (g : GrainIn) (acc : State × List (Option RawGrain)) (c : Nat) : State × List (Option RawGrain) :=
  let (s, raw) := acc.1.formRaw c t g
  let s := match raw with
    | some r =>
      let s := s.integrity c g.fails
      let s := if r.blind then s.bump (16 * c + 15) else s
      s.bolt c t r ((g.residue.filter (fun e => e.1 == c)).map (fun e => e.2))
    | none => s
  (s, acc.2 ++ [raw])

/-! ### Origins and epochs (R88, R121, R155, R278) -/

/-- Every Bolter zeroes its histories at sample b, at time t, and begins a new output grain. -/
def State.restartBolters (o b : Int) (t : Time) (s : State) : State :=
  chanNos.foldl (fun s c =>
    let ch := s.chan c
    let x := (ch.zero o b t).abandon o b
    (s.setChan c x).countSwap c ch x) s

/-- The plans' grain numbers start afresh with a new origin. -/
def State.renumber (s : State) : State :=
  planNos.foldl (fun s q => let p := s.plan q; if p.lastNum.isEmpty then s else s.setPlan q { p with lastNum := [] }) s

/-- Does a reset that reached the GRAIN domain at `r` act at the raw grain that begins next? Not between the registration of a SYNC_IN
edge, 16 timebase cycles before sample 0 of its epoch, and that sample (R89). -/
def State.resetActs (s : State) (r : Time) : Bool :=
  s.due r && match s.fan.sync with | some z => decide (r + 12800 ≤ z) | none => true

/-- DECIMATION_RESET (R88, R89): at the raw grain that begins next, the resets that have reached the GRAIN domain: O moves and the
histories are zeroed once, and each counts. -/
def State.decimReset (s : State) : State :=
  let n := (s.origin.resets.filter (fun r => s.resetActs r)).length
  let left := s.origin.resets.filter (fun r => !s.resetActs r)
  if n == 0 || !s.grainRuns then s
  else
    let t := s.grainAt s.clk.now
    let b := s.idxAt t
    let s :=
      if s.origin.o == b then { s with origin := { s.origin with resets := left } }
      else { (s.cutAll b b).renumber with origin := { o := b, resets := left, gen := s.origin.gen + 1 } }
    (s.restartBolters b b t).satBy (O.DECIM_SYNC_COUNT 0) n

def execDecimationReset (s : State) : Host.Outcome State Fault Refusal := s.done s.decimReset

/-- SYNC_IN's effects on the Sluice (R112, R121). -/
def State.sluiceEpoch (s : State) : State :=
  let s := slotNos.foldl (fun s n =>
    let x := s.slot n
    s.setSlot n { x with armUp := false, armDown := false, seqOpen := none, holdTo := none, skip := 0 }) s
  let r := s.sluice.raster
  { s with sluice := { s.sluice with lastV := [], raster :=
    { r with now := {}, past := [], frameEdge := none, lineEdge := none } } }

/-- Sample 0 of a new epoch, at absolute time z (R155, R276 to R278). What is to come about at a raw-grain boundary comes about at one of
the new epoch's, a recovery interval goes on (R57), a swap in progress completes at once (log entry 80), and an open gap range ends:
a range lies in one epoch (log entry 81). -/
def State.newEpoch (z : Time) (s : State) : State :=
  let shift : Int := (z : Int) - s.clk.epochBase
  let s := s.placeAll.cutAll 0 0
  let s := s.renumber.sluiceEpoch
  let s := { s with clk := { s.clk with epochBase := z, now := max z s.clk.now },
                    dir := { s.dir with epochs := s.dir.epochs + 1 },
                    origin := { s.origin with o := 0, gen := s.origin.gen + 1 },
                    timer := { s.timer with rearm := none } }
  let s := { s with fan := { s.fan with sync := none, syncDone := some z, heldSync := false,
                                        gridKnown := s.fan.tb == 2 && s.fan.inUse == 1 } }
  let s := chanNos.foldl (fun s c => s.modChan c (fun ch =>
    { ch with hist := [], recoverTo := ch.recoverTo - shift, dropping := false,
              prep := ch.prep.map (fun (p : Prep) => { p with at_ := alignUp z 64 p.at_ }) })) s
  let s := { s with
    quads := s.quads.map (fun (e : Nat × Quad) => (e.1, { e.2 with pending := e.2.pending.map (fun (p : Time × Nat) => (alignUp z 64 p.1, p.2)) })) }
  (s.restartBolters 0 0 z).traceAt 0 9 0 0xFFFF s.dir.epochs

/-- EPOCH_START: once sample 0 of the registered edge has come. -/
def State.epochStart (s : State) : State :=
  match s.fan.sync with
  | some z => if s.due z then s.newEpoch z else s
  | none => s

def execEpochStart (s : State) : Host.Outcome State Fault Refusal := s.done s.epochStart

/-! ### The cycle -/

/-- What comes about at the raw-grain boundary before the grain is formed. -/
def State.boundary (s : State) : State :=
  let s := s.pulseEnd
  let s := s.decimReset
  let s := chanNos.foldl (fun s c => (((((s.rangeSwitch c).channelReady c).bolterChange c).swapComplete c).swapBegin c)) s
  let s := s.sluiceChanges
  let s := planNos.foldl (fun s q => s.planUpTo q s.idx) s
  let s := s.dress.active.foldl (fun s u => (s.passEnd u).passBegin u) s
  let s := (s.dress.applying.map (fun a => a.unit)).foldl (fun s u => s.applyStep u) s
  chanNos.foldl (fun s c => s.headrace c) s.noteConditions

/-- After the grain at `t`: replacements of slices and a failover that it ended are over. -/
def State.coverEnds (t : Time) (s : State) : State :=
  let overR := fun (e : Nat × Quad) => match e.2.pending with
    | some (u, _) => if u ≤ t then (e.1, { e.2 with pending := none, layered := true }) else e
    | none => e
  { s with quads := s.quads.map overR,
           fan := { s.fan with failUntil := match s.fan.failUntil with | some u => if u ≤ t then none else some u | none => none } }.heldRegistered

/-- The grain that begins now, at absolute time t. -/
def State.grain (g : GrainIn) (t : Time) (s : State) : State :=
  let (s, raws) := chanNos.foldl (State.channelCycle t g) (s, [])
  let i0 := s.idxAt t
  let (s, evs) := s.evaluate raws g i0
  let a := s.triggers evs i0
  let s := a.s
  let slots := s.rdN O.TRIG_OUT_SLOTS
  let s := s.trigOut t (a.outs ++ (evs.filter (fun e => bit slots e.slot)).map (fun e => (e.s, none)))
  let s := (s.placeUpTo (i0 + 64)).coverEnds t
  { s with clk := { s.clk with now := t + 64 } }

/-- GRAIN_CYCLE (R92). A registered SYNC_IN whose sample 0 would fall within the grain begins its epoch, and its first grain,
there (R278). -/
def State.grainCycle (g : GrainIn) (s : State) : State :=
  if !s.grainRuns then s
  else
    let s := match s.fan.sync with
      | some z => if z < s.grainAt s.clk.now + 64 then s.newEpoch z else s
      | none => s
    let t := s.grainAt s.clk.now
    let s := { s with clk := { s.clk with now := t } }
    s.boundary.grain g t

def execGrainCycle (g : GrainIn) (s : State) : Host.Outcome State Fault Refusal := s.finish (s.grainCycle g)

/-! ### Gap ranges (R25) -/

/-- One held range goes to the gap list, with its trace entry. -/
def State.writeRangeRec (c : Nat) (s : State) (g : GapReg) : State :=
  let row := s.gapRow
  let a := g.addrs.headD 0
  let s := s.addGap { kind := 1, ch := c, first := g.first, grains := g.count, addr := a, pc := pcNo a, epoch := g.epoch }
  let s := (g.addrs.foldl (fun s a => s.coverLost row a) s).retire row
  s.traceAt g.first 3 (256 * (c + 1) + 255) 0xFFFF g.count

/-- GAP_RANGE_WRITE: the POND domain runs, and the channel's ranges leave their registers, oldest first. -/
def State.gapRangeWrite (c : Nat) (s : State) : State :=
  if s.stopped 2 then s
  else
    let gs := (s.chan c).gaps.reverse
    gs.foldl (State.writeRangeRec c) (s.modChan c (fun ch => { ch with gaps := [], dropping := false }))

def execGapRangeWrite (c : Nat) (s : State) : Host.Outcome State Fault Refusal := s.finish (s.gapRangeWrite c)

end Sys2Proof.Machine
end

