-- ==== Sys2Proof/Machine/Store.lean ====
section
/-!
DEFINITION. The segment directory (R150 to R153, R157, R160 to R162) and the Millpond's own steps (chapter 06): shares (R169),
reads, corrected and uncorrectable bursts (R174, R175, R178 to R185), the scrub (R181), and layering a pseudo-channel (R187, R188).
-/

namespace Sys2Proof.Machine

/-! ### Entries (R153, R161, R162) -/

/-- ENTRY_INFO (R161). -/
def Seg.info (g : Seg) : Nat :=
  g.plan % 16 * 4096 + g.chset % 16 * 256 + g.trig.cause % 8 * 32 + g.trig.quality % 4 * 8 + g.policy % 4 * 2

/-- Bytes 0 to 43 of an entry, and all 48 (R153). -/
def Entry.body (e : Entry) : List Nat :=
  leBytes 4 e.seq ++ leBytes 2 e.seg.info ++ leBytes 1 e.seg.trig.slots ++ leBytes 1 e.seg.epoch ++ leBytes 2 e.seg.flags
    ++ leBytes 2 e.seg.trig.fraction ++ leBytes 4 e.seg.segNo ++ leBytes 8 (wrapU 64 e.seg.trig.index)
    ++ leBytes 8 (wrapU 64 e.seg.startIdx) ++ leBytes 4 e.seg.startGrain ++ leBytes 4 e.count ++ leBytes 4 e.seg.trigOff

def Entry.bytes (e : Entry) : List Nat := e.body ++ leBytes 4 (crc32c e.body)

/-- The ring's rows. -/
def dirRows : Nat := 262144

/-- DIRECTORY_WRITE (R150, R152): the write port takes the trigger at the front of the queue, placed, at most one per 4 ns. -/
def State.directoryWrite (s : State) : State :=
  match s.dir.queue with
  | [] => s
  | id :: rest =>
    match tfind s.dir.segs id with
    | none => { s with dir := { s.dir with queue := rest } }
    | some g =>
      if s.stopped 2 || s.asleep || s.sluice.placing.any (fun (x : Placing) => x.seg == some id) || (s.dir.lastOpen != 0 && !s.due (s.dir.lastOpen + 320)) then s
      else
        let q := s.dir.nextSeq
        let g := { g with seq := some q }
        let e : Entry := { seq := q, seg := g, count := g.count, state := 1, hostRel := g.cfg.hostRel }
        let s := { s with dir := { s.dir with
          queue := rest, segs := tset id g s.dir.segs, rows := tset (q % dirRows) e s.dir.rows,
          nextSeq := (q + 1) % 2 ^ 32, lastOpen := s.clk.now } }
        let s := s.wr O.DIR_PEAK_USED (max (s.rd O.DIR_PEAK_USED) (s.rowsUsed : Nat))
        s.setPlan g.plan { s.plan g.plan with lastSeq := q }

def execDirectoryWrite (s : State) : Host.Outcome State Fault Refusal := s.done s.directoryWrite

/-- Has the last grain of a segment been written, or its place recorded as dropped, on every channel (R152)? -/
def State.segWritten (s : State) (g : Seg) : Bool :=
  (onesBelow g.chset 4).all (fun c =>
    let ch := s.chan c
    let waits := fun (d : Delayed) => d.gen == g.gen && decide (d.num < g.stop) && decide (g.first ≤ d.num) && d.takes.any (fun t => t.plan == g.plan)
    !(ch.delay.any waits) && !(ch.queue.any waits) &&
      (g.gen != s.origin.gen || decide (g.stop - 1 ≤ tget (fun _ => g.first - 1) (s.plan g.plan).lastNum c)))

/-- ENTRY_COMPLETE (R152, R168): the entry of a segment becomes COMPLETE, enters both directory copies, and its gates' work is
formed (R199). -/
def State.entryComplete (id : Nat) (s : State) : State :=
  match tfind s.dir.segs id with
  | some g =>
    match g.seq with
    | some q =>
      if s.stopped 2 || s.asleep || !s.segWritten g then s
      else
        let g := { g with flags := setBit g.flags 6 true }
        let e : Entry := { seq := q, seg := g, count := g.count, state := 2, hostRel := g.cfg.hostRel }
        let s := { s with dir := { s.dir with segs := tdel id s.dir.segs, rows := tset (q % dirRows) e s.dir.rows } }
        let p := s.plan g.plan
        let s := (s.setPlan g.plan { p with done := p.done + 1 }).bump (128 + g.plan)
        let s := [0, 1].foldl (fun s k => s.written 2 (k * copyLine1 + q % dirRows * 48 / 64)) s
        (s.formWork e).serve 5 96
    | none => s
  | none => s

def execEntryComplete (seg : Nat) (s : State) : Host.Outcome State Fault Refusal := s.done (s.entryComplete seg)

/-- ENTRY_RELEASED (R150, R157, R204). -/
def State.entryReleased (seq : Nat) (s : State) : State :=
  match tfind s.dir.rows (seq % dirRows) with
  | some e =>
    let acked := !e.hostRel || decide ((s.dir.hostAck + 2 ^ 32 - e.seq) % 2 ^ 32 < 2 ^ 31)
    if e.seq == seq && e.state == 2 && !s.workOpen seq && acked then
      ({ s with dir := { s.dir with rows := tset (seq % dirRows) { e with state := 3 } s.dir.rows } }).advanceOldest
    else s
  | none => s

def execEntryReleased (seq : Nat) (s : State) : Host.Outcome State Fault Refusal := s.done (s.entryReleased seq)

/-- Latch a table's row into a path's window copy: an empty row leaves none. -/
def latch {α : Type} (p : Path) (x : Option α) (t : Tbl α) : Tbl α :=
  match x with
  | some v => tset (side p) v t
  | none => tdel (side p) t

/-- DIR_ROW (R160, R412). -/
def writeDirRow (p : Path) (v : Int) (s : State) : WRes :=
  .ok { s.wr (win p O.DIR_ROW) v with dir := { s.dir with win := latch p (tfind s.dir.rows v.toNat) s.dir.win } }

def execDirRowLatch (p : Path) (v : Int) (s : State) : Host.Outcome State Fault Refusal :=
  s.done (s.write p O.DIR_ROW v (writeDirRow p v))

/-- GAP_ROW (R194). -/
def writeGapRow (p : Path) (v : Int) (s : State) : WRes :=
  .ok { s.wr (win p O.GAP_ROW) v with pond := { s.pond with gapWin := latch p (tfind s.pond.gaps v.toNat) s.pond.gapWin } }

def execGapRowLatch (p : Path) (v : Int) (s : State) : Host.Outcome State Fault Refusal :=
  s.done (s.write p O.GAP_ROW v (writeGapRow p v))

/-! ### Shares (R169) -/

/-- SHARE_WRITE: sub-index 3 to 6 a share, 11 PLANE_FRAMES. -/
def writeShare (sub : Nat) (v : Int) (s : State) : WRes :=
  let frames := if sub == 11 then v.toNat else s.rdN O.PLANE_FRAMES
  let shares := (chanNos.map (fun c => if sub == 3 + c then v.toNat else s.share c)).foldl (· + ·) 0
  if sub != 11 && regionGrains frames < v.toNat then bad Why.VALUE_RANGE
  else if planNos.any (fun q => (s.plan q).entering != 0) then notNow Why.STORE_IN_USE
  else if sub == 11 && s.planesInUse != 0 then notNow Why.PLANES_IN_USE
  else if regionGrains frames < shares then bad Why.STORE_SHARE_SUM
  else s.put (0x440000 + sub) v

/-- Is the sub-index one that SHARE_WRITE writes? -/
def shareSub (sub : Nat) : Bool := [3, 4, 5, 6, 11].contains sub

def execShareWrite (p : Path) (sub : Nat) (v : Int) (s : State) : Host.Outcome State Fault Refusal :=
  s.done (if shareSub sub then s.write p (0x440000 + sub) v (writeShare sub v) else s)

/-! ### Credits (R175) -/

/-- RUNNER_BW_LIMIT: in force from the next refill (R191). -/
def writeBwLimit (v : Int) (s : State) : WRes := s.refill.put O.RUNNER_BW_LIMIT v

/-! ### Corrected and uncorrectable bursts (R178 to R185) -/

/-- The store serves requests (R189, R265). -/
def State.storeServes (s : State) : Bool := !s.stopped 2 && !s.pond.selfRefresh && s.gov.power != 3 && s.dev != .boot && s.dev != .sleep

/-- DETAIL and DATA of a burst: physical pseudo-channel and row (R318, R472). -/
def State.burst (s : State) (l row : Nat) : Nat := (s.pc l).phys % 256 + row % 2 ^ 24 * 256

/-- A plane's frame line is uncorrectable: its bins count from zero again, the line rewritten (R243). -/
def State.loseFrameLine (n k : Nat) (s : State) : State :=
  let p := s.planeOf n
  if p.cfg.kind == 0 then s
  else ((s.setPlane n { p with bins := p.bins.filter (fun e => e.1 / 16 != k), lost := true, lostLines := min (p.lostLines + 1) 65535 }).written 1
    (planeLine0 + n * frameLines + k)).serve 3 64

/-- A record's line is uncorrectable: it reads LOST (R222). -/
def State.loseRecord (k : Nat) (s : State) : State :=
  { (s.setRec k { state := 4 }) with pond := { s.pond with lostLines := (2 ^ 32 + k) :: s.pond.lostLines.filter (· != 2 ^ 32 + k) } }

/-- A line of the results or system region is lost: what it held. A directory copy comes back from the other copy, the gap list from the
copy in the working space, the calibration shadow from the flash copy in force (R168, R183). -/
def State.loseLine (region l : Nat) (s : State) : State :=
  if region == 1 then
    if l < planeLine0 then s.loseRecord l else s.loseFrameLine ((l - planeLine0) / frameLines) ((l - planeLine0) % frameLines)
  else if l < traceLine0 then (s.written 2 l).serve 5 128
  else if l < traceLine0 + 32768 then
    let r := 2 * (l - traceLine0)
    { s with trace := { s.trace with lost := ([r, r + 1] ++ s.trace.lost).eraseDups } }
  else if gapLine0 ≤ l && l < gapLine0 + 524288 then (s.written 2 l).serve 5 128
  else if shadowLine0 ≤ l && l < shadowLine0 + 262144 then
    (({ s with pond := { s.pond with shadow := s.dress.bodyInForce } }).written 2 l).serve 5 16777216
  else if stagingLine0 ≤ l && l < workLine0 then { s with pond := { s.pond with stagingDamaged := true } }
  else s

/-- The plan whose allocation holds address r in its written part, with its channel and offset (R185). -/
def State.ownerOf (s : State) (r : Nat) : Option (Nat × Nat × Nat) :=
  (planNos.flatMap (fun q => chanNos.map (fun c => (q, c)))).findSome? (fun e =>
    match s.offsetOf e.1 e.2 r with
    | some o => if o < (s.plan e.1).extent then some (e.1, e.2, o) else none
    | none => none)

/-- The index that the write history gives a position whose trailer is lost (R184): that of the position most recently written in
its bay or ring, less P for each position it lies behind. -/
def State.historyIndex (s : State) (q c o : Nat) : Int :=
  let cfg := (s.plan q).cfg
  let w := max 1 (if cfg.policy == 2 then cfg.ring else cfg.size)
  let b := if cfg.policy == 1 then o / w * w else 0
  let bay := (List.range w).filterMap (fun i => (tfind s.pond.grains (s.address q c (b + i))).map (fun g => (i, g)))
  match bay with
  | [] => 0
  | e :: rest =>
    let m := rest.foldl (fun m x => if m.2.ord < x.2.ord then x else m) e
    m.2.index - (((m.1 + w - (o - b) % w) % w : Nat) : Int) * (s.plan q).p

/-- A grain of the written part is lost: a gap record covers its address, unless one does, and the entries that include it carry GAP
(R183). -/
def State.loseGrain (r : Nat) (trailer : Bool) (s : State) : State :=
  match s.ownerOf r, tfind s.pond.grains r with
  | some (q, c, o), some g =>
    if (tfind s.pond.lost r).isSome then s
    else
      let g := if trailer then g else { g with index := s.historyIndex q c o }
      let row := s.gapRow
      let s := s.addGap { kind := 2, ch := c, first := g.index, grains := 1, addr := r, pc := pcNo r, epoch := s.dir.epochs % 256 }
      ({ s with pond := { s.pond with grains := tset r g s.pond.grains } }).lose row r
  | _, _ => s

/-- Burst `b` of a location is uncorrectable, and its content was not known to be lost (R179, R182, R183): counted, traced, recorded with
its EMCY message, and what it means where it lies; a second one of a grain or line adds no gap record. -/
def State.uncorrectable (rd : StoreRead) (b : Nat) (s : State) : State :=
  let l := pcNo rd.addr
  if s.pond.poison.contains (burstKey rd.region rd.addr b) || s.goneWithPc rd.region rd.addr then s
  else
    let h := halfNo l
    let again := s.pond.poison.any (fun k => k / 4 == locKey rd.region rd.addr)
    let s := { s with pond := { s.pond with poison := burstKey rd.region rd.addr b :: s.pond.poison } }
    let s := (s.sat O.UNCORRECTABLE_COUNT).bump (196 + h)
    let s := s.trace_ 4 (0x0600 + h) (s.pc l).phys (s.burst l rd.row + rd.region * 2 ^ 32)
    let s := s.covered 0x10 (0x0600 + h) (s.pc l).phys 5 (s.burst l rd.row) 0
    if rd.region == 0 then s.loseGrain rd.addr (b != 2)
    else if again then s
    else
      let s := s.loseLine rd.region rd.addr
      if rd.region == 1 then s.addGap { kind := 4, addr := rd.addr, pc := l, epoch := s.dir.epochs % 256 } else s

/-- A corrected burst (R180, R182): counted, with its wear event, and its write-back is due. -/
def State.correctedBurst (rd : StoreRead) (b : Nat) (s : State) : State :=
  let l := pcNo rd.addr
  let h := halfNo l
  let s := ((s.sat O.CORRECTED_COUNT).bump (192 + h)).wearEvent (0x0600 + h) (s.pc l).phys 3 0 0
  let k := burstKey rd.region rd.addr b
  { s with pond := { s.pond with writeBacks := if s.pond.writeBacks.contains k then s.pond.writeBacks else s.pond.writeBacks ++ [k] } }

/-- What the code finds in each burst of a grain or line acts (R178, R180, R183). -/
def State.eccActs (rd : StoreRead) (s : State) : State :=
  rd.ecc.zipIdx.foldl (fun s e =>
    match e.1 with
    | .clean => s
    | .corrected => s.correctedBurst rd e.2
    | .lost => s.uncorrectable rd e.2) s

/-- A read is served: it returns what the location holds (R184, R185). -/
def State.answerRead (rd : StoreRead) (s : State) : State :=
  let s := (s.serve (max 3 (min 5 rd.cls)) (if rd.region == 0 then 96 else 64)).eccActs rd
  if rd.region == 0 then
    let g := match s.ownerOf rd.addr, tfind s.pond.grains rd.addr with
      | some _, some g => if s.pcGap (pcNo rd.addr) then g.gapOf else g
      | _, _ => Grain.beyond
    { s with pond := { s.pond with read := some g, readLost := false } }
  else
    let lost := rd.ecc.contains .lost || s.pcGap (pcNo rd.addr) || s.goneWithPc rd.region rd.addr
      || s.pond.lostLines.contains (rd.region * 2 ^ 32 + rd.addr)
    { s with pond := { s.pond with read := none, readLost := lost } }

/-- Is read `x` to be served before read `y` of another class: the one that has waited 2 µs before every younger, else the one of the
higher class (R174, R176)? -/
def State.readBefore (s : State) (x y : ReadReq) : Bool :=
  let aged := fun (z : ReadReq) => decide (z.at_ + us 2 ≤ s.clk.now)
  if aged x && decide (x.at_ ≤ y.at_) then true else if aged y && decide (y.at_ ≤ x.at_) then false else decide (x.rd.cls < y.rd.cls)

/-- The read to be served next: of the oldest of each class, those whose credits are there (R175). -/
def State.nextRead (s : State) : Option ReadReq :=
  let fronts := [3, 4, 5].filterMap (fun k => s.pond.reads.find? (fun x => x.rd.cls == k))
  (fronts.filter (fun x => (s.takeCredit x.rd.cls (if x.rd.region == 0 then 96 else 64)).2)).foldl
    (fun m x => match m with | none => some x | some y => some (if s.readBefore x y then x else y)) none

/-- Waiting reads are served, as far as credits go; `n` bounds their number. -/
def State.serveN : Nat → State → State
  | 0, s => s
  | n + 1, s =>
    match s.nextRead with
    | none => if s.pond.reads.any (fun x => x.rd.cls == 3) then { s with pond := { s.pond with ranDry := some s.clk.now } } else s
    | some x =>
      let s := (s.takeCredit x.rd.cls (if x.rd.region == 0 then 96 else 64)).1
      State.serveN n (({ s with pond := { s.pond with reads := s.pond.reads.erase x } }).answerRead x.rd)

/-- All reads that wait, while the store serves (when they are served: DESIGN CHOICE, log entry 93). -/
def State.serveReads (s : State) : State := if s.storeServes then s.serveN s.pond.reads.length else s

/-- STORE_READ (R174 to R176, R180, R184, R185): the request joins those that wait, and all are served whose turn and credits have come. -/
def State.storeRead (rd : StoreRead) (s : State) : State :=
  if s.dev == .boot || 3 ≤ rd.region || rd.cls < 3 || 5 < rd.cls then s
  else ({ s with pond := { s.pond with reads := s.pond.reads ++ [({ rd := rd, at_ := s.clk.now } : ReadReq)] } }).serveReads

def execStoreRead (rd : StoreRead) (s : State) : Host.Outcome State Fault Refusal := s.finish (s.storeRead rd)

/-- WRITE_BACK (R180): the read-modify-write of the oldest corrected burst; `ecc`: what its read finds. -/
def State.writeBack (ecc : Ecc) (s : State) : State :=
  match s.pond.writeBacks with
  | [] => s
  | k :: r =>
    if !s.storeServes then s
    else
      let s := (({ s with pond := { s.pond with writeBacks := r } }).serve 2 32).bump 200
      match ecc with
      | .lost => s.uncorrectable { region := k / 4 / 1099511627776, addr := k / 4 % 1099511627776 } (k % 4)
      | _ => s

def execWriteBack (ecc : Ecc) (s : State) : Host.Outcome State Fault Refusal := s.finish (s.writeBack ecc)

/-! ### Layering a pseudo-channel (R187, R188) -/

/-- Everything λ held is lost, but what a copy under way has put on the spare (R187, R188): grains read as Gap and `row` covers them; lines
read with a loss mark. -/
def State.loseAll (l row : Nat) (s : State) : State :=
  let gone := fun (region a : Nat) => pcNo a == l && s.goneWithPc region a
  let mine := (s.pond.grains.filter (fun e => gone 0 e.1)).map (fun e => e.1)
  let grains : Tbl Grain := s.pond.grains.map (fun e => if gone 0 e.1 then (e.1, e.2.gapOf) else e)
  let wbs := s.pond.writeBacks.filter (fun k => !gone (k / 4 / 1099511627776) (k / 4 % 1099511627776))
  let recs := (s.farm.recs.filter (fun e => gone 1 e.1)).map (fun e => e.1)
  let rows := (s.trace.ring.filter (fun e => gone 2 (traceLine0 + e.1 / 2))).map (fun e => e.1)
  let hit := s.upd.staging.any (fun e => gone 2 (stagingLine0 + e.1 / 64))
  let lines := fun (n : Nat) => (List.range frameLines).filter (fun k => gone 1 (planeLine0 + n * frameLines + k))
  let s := mine.foldl (fun s r => s.coverLost row r) { s with pond := { s.pond with grains := grains, writeBacks := wbs } }
  let s := recs.foldl (fun s k => s.loseRecord k) s
  let s := (s.farm.planes.filter (fun e => e.2.cfg.kind != 0)).foldl (fun s e =>
    let p := s.planeOf e.1
    let ks := lines e.1
    if ks.isEmpty then s
    else s.setPlane e.1 { p with bins := p.bins.filter (fun b => !ks.contains (b.1 / 16)), lost := true, lostLines := min (p.lostLines + ks.length) 65535 }) s
  { s with trace := { s.trace with lost := (rows ++ s.trace.lost).eraseDups },
           pond := { s.pond with stagingDamaged := s.pond.stagingDamaged || hit } }

/-- A wear-driven layering is decided: it begins at once, or when the spare is ready (R306, R308). -/
def State.decide_ (u sl : Nat) (s : State) : State :=
  { s with layer := { s.layer with decided := s.layer.decided ++ [(u, sl, s.clk.now)] } }

/-- A copy in progress of λ stops (R188). -/
def State.stopCopy (l : Nat) (s : State) : State :=
  if s.pond.copy == some l then
    let s := s.setPc l { s.pc l with copying := false, copied := 0, both := [] }
    { s with pond := { s.pond with copy := none }, layer := { s.layer with busy := s.layer.busy.filter (· != 0x0600 + halfNo l) } }
  else s

/-- The PC_LOSS record of λ, with the first lost location (R187, R194). -/
def State.pcLoss (l : Nat) (s : State) : State :=
  let row := s.gapRow
  let p := s.pc l
  let s := s.setPc l { p with lostFrom := some (if p.copying then p.copied * 1048576 else 0), fresh := if p.copying then p.both else [] }
  let a := ((s.pond.grains.filter (fun e => pcNo e.1 == l && s.goneWithPc 0 e.1)).map (fun e => e.1)).foldl
    (fun m r => match m with | none => some r | some x => some (min x r)) none
  let s := s.addGap { kind := 3, first := s.tbIdx, addr := a.getD l, pc := l, epoch := s.dir.epochs % 256 }
  let s := s.loseAll l row
  let s := s.setPc l { s.pc l with lossRow := some row }
  { s with pond := { s.pond with marking := l :: s.pond.marking.filter (· != l) } }

/-- Is the spare of the half free for λ? A copy in the half has not brought it into service: it gives way to a hard failure (R188, R312). -/
def State.spareFor (s : State) (l : Nat) : Bool :=
  let x := s.half (halfNo l)
  !x.layered && !x.failed && (x.spareReady || match s.pond.copy with | some m => halfNo m == halfNo l | none => false)

/-- The copy in λ's half gives way; another channel's layering is decided afresh (R312). -/
def State.copyGivesWay (l : Nat) (s : State) : State :=
  match s.pond.copy with
  | some m => if halfNo m == halfNo l then (if m == l then s.stopCopy l else (s.stopCopy m).decide_ (0x0600 + halfNo m) (s.pc m).phys) else s
  | none => s

/-- PC_HARD_FAILURE (R187, R188): λ fails an access and its retry; `row`: the array row. -/
def State.pcHardFailure (l row : Nat) (s : State) : State :=
  if 60 ≤ l || (s.pc l).dead || s.atRest then s
  else
    let h := halfNo l
    let u := 0x0600 + h
    let old := (s.pc l).phys
    let detail := s.burst l row
    let ok := s.spareFor l && s.mayLayer
    let s := (s.pcLoss l).copyGivesWay l
    let s := s.supersede u
    if ok then
      let intr := s.fv 500001
      let s := s.adv
      let s := s.setPc l { s.pc l with phys := (s.half h).spare, switching := some (s.clk.now + intr * 80), queued := [] }
      let s := (s.setHalf h { s.half h with layered := true, spareReady := false }).unitNoSpare u true
      ((s.countLayering true 1 u).bump 209).covered 0x03 u old 1 detail intr
    else
      let s := s.setPc l { s.pc l with dead := true }
      ((s.setHalf h { s.half h with failed := true }).unitFailed u).uncovered 0x04 u old detail 0

def execPcHardFailure (lam row : Nat) (s : State) : Host.Outcome State Fault Refusal := s.finish (s.pcHardFailure lam row)

/-! ### The scrub (R181) -/

/-- Bursts of 6 KiB in a pass, and the time between two. -/
def State.scrubBursts (s : State) : Nat := 60 * (s.runsOf 0 + s.runsOf 1 + s.runsOf 2)
def scrubGap : Nat := 576000

/-- Does a location lie in the burst that the scrub reads next? The sweep takes run after run, of one pseudo-channel after the other
(DESIGN CHOICE, log entry 84). -/
def State.inBurst (s : State) (region a : Nat) : Bool :=
  pcNo a == s.pond.scrubBurst % 60 && s.runOf region a == s.pond.scrubBurst / 60

/-- A copy of a pseudo-channel of the same half has the right of way over the scrub, until four of its steps have passed over it (R37,
R38). -/
def State.scrubWaits (s : State) : Bool :=
  match s.pond.copy with
  | some l => halfNo l == halfNo (s.pond.scrubBurst % 60) && s.pond.passedOver < 4
  | none => false

/-- The spare of half h is found not to hold what it should: not ready, an unexpected uncorrectable burst (R182, R187). While a copy is
layering it in, that layering becomes a hard failure with no spare (R312). -/
def State.spareUnfit (h : Nat) (row : Nat) (s : State) : State :=
  let x := s.half h
  let copies := match s.pond.copy with | some l => if halfNo l == h then some l else none | none => none
  if !x.spareReady then (match copies with | some l => (s.stopCopy l).pcHardFailure l row | none => s)
  else
    let s := (s.setHalf h { x with spareReady := false }).unitNoSpare (0x0600 + h) true
    let s := (s.sat O.UNCORRECTABLE_COUNT).bump (196 + h)
    (s.trace_ 4 (0x0600 + h) x.spare (x.spare % 256 + row % 2 ^ 24 * 256 + s.fv 3 * 2 ^ 32)).adv

/-- A pass ends (R181). -/
def State.scrubWrap (s : State) : State :=
  if s.pond.scrubBurst < s.scrubBursts then s
  else
    let p := s.pond
    ({ s with pond := { p with scrubBurst := 0, passes := p.passes + 1, passMs := (s.clk.now - p.passStart) / ms 1,
                               passStart := s.clk.now, behind := false } }).bump 201

/-- Errors that a stack half corrected on its dies join its counts (R178, R182). -/
def State.onDie (l n : Nat) (s : State) : State :=
  if n == 0 then s
  else
    let s := (s.satBy O.CORRECTED_COUNT n).bumpBy (192 + halfNo l) n
    (List.range n).foldl (fun s _ => s.wearEvent (0x0600 + halfNo l) (s.pc l).phys 3 0 0) s

/-- SCRUB_BURST: one burst every 7.2 µs; a late one is a step that R38 deferred. -/
def State.scrubStep (sc : ScrubIn) (s : State) : State :=
  if !s.storeServes || !s.due s.pond.scrubAt || s.scrubWaits then s
  else
    let l := s.pond.scrubBurst % 60
    let rd := { sc.rd with ecc := if s.inBurst sc.rd.region sc.rd.addr then sc.rd.ecc else [] }
    let late := (s.clk.now - s.pond.scrubAt) / scrubGap
    let p := s.pond
    let s := { s with pond := { p with scrubAt := s.clk.now + scrubGap, scrubBurst := p.scrubBurst + 1, deferred := p.deferred + late,
                                       passedOver := 0 } }
    let s := if late == 0 then s else s.bumpBy 202 late
    let left := (s.scrubBursts - s.pond.scrubBurst) * scrubGap
    let s := { s with pond := { s.pond with behind := decide (sec 60 < s.clk.now + left - s.pond.passStart) } }
    let s := ((s.serve 2 6144).eccActs rd).onDie l sc.onDie
    let s := if rd.ecc.contains .corrected then s.wearEvent (0x0600 + halfNo l) (s.pc l).phys 4 rd.row s.pond.passes else s
    let s := if sc.poison then s else s.spareUnfit (halfNo l) sc.rd.row
    s.scrubWrap

def execScrubBurst (sc : ScrubIn) (s : State) : Host.Outcome State Fault Refusal := s.finish (s.scrubStep sc)

/-! ### Copies and the map switch (R187) -/

/-- PC_LOSS_MARKING (R187): GAP on every entry with a grain on λ written before the switch. -/
def State.pcLossMarking (l : Nat) (s : State) : State :=
  if !s.pond.marking.contains l then s
  else
    let row := (s.pc l).lossRow
    let mine := s.pond.lost.filter (fun e => pcNo e.1 == l && match row with | some w => e.2.contains w | none => false)
    let s := mine.foldl (fun s e =>
      match tfind s.pond.grains e.1 with
      | some g => s.markSegs g.ch e.1 g.gen g.index 0x20
      | none => s) s
    { s with pond := { s.pond with marking := s.pond.marking.filter (· != l) } }

def execPcLossMarking (lam : Nat) (s : State) : Host.Outcome State Fault Refusal := s.done (s.pcLossMarking lam)

/-- Take a decided layering of a unit's slice off the list, if it is there. -/
def State.takeDecided (u sl : Nat) (s : State) : Option State :=
  if s.layer.decided.any (fun d => d.1 == u && d.2.1 == sl) then
    some { s with layer := { s.layer with decided := s.layer.decided.filter (fun d => !(d.1 == u && d.2.1 == sl)) } }
  else none

/-- PC_COPY_START (R187, R308): a decided layering of λ begins COPYING once the spare is ready. -/
def State.pcCopyStart (l : Nat) (s : State) : State :=
  let h := halfNo l
  let u := 0x0600 + h
  let x := s.half h
  if 60 ≤ l || !x.spareReady || x.layered || s.pond.copy.isSome || !s.mayLayer || !s.storeServes then s
  else
    match s.takeDecided u (s.pc l).phys with
    | some s =>
      let s := s.setPc l { s.pc l with copying := true, copied := 0, both := [] }
      let s := (s.setHalf h { x with spareReady := false }).unitNoSpare u true
      { s with pond := { s.pond with copy := some l }, layer := { s.layer with busy := u :: s.layer.busy } }
    | none => s

def execPcCopyStart (lam : Nat) (s : State) : Host.Outcome State Fault Refusal := s.done (s.pcCopyStart lam)

/-- A scrub step of the half has come due and four steps have passed over it: it is next (R38). -/
def State.scrubNext (s : State) (l : Nat) : Bool :=
  s.due s.pond.scrubAt && halfNo l == halfNo (s.pond.scrubBurst % 60) && 4 ≤ s.pond.passedOver

/-- PC_COPY_STEP (R308): a step of at most 500 µs at 12.8 GB/s copies 6 MiB of the 768. -/
def State.pcCopyStep (s : State) : State :=
  match s.pond.copy with
  | some l =>
    if !s.storeServes || s.scrubNext l then s
    else
      let skip := b2n (s.due s.pond.scrubAt && halfNo l == halfNo (s.pond.scrubBurst % 60))
      let s := { s with pond := { s.pond with passedOver := s.pond.passedOver + skip } }
      (s.setPc l { s.pc l with copied := min 768 ((s.pc l).copied + 6) }).serve 2 6291456
  | none => s

def execPcCopyStep (s : State) : Host.Outcome State Fault Refusal := s.done s.pcCopyStep

/-- PC_MAP_SWITCH (R187): once all is copied. -/
def State.pcMapSwitch (s : State) : State :=
  match s.pond.copy with
  | some l =>
    if (s.pc l).copied < 768 || !s.storeServes then s
    else
      let h := halfNo l
      let u := 0x0600 + h
      let old := (s.pc l).phys
      let s := s.setPc l { s.pc l with phys := (s.half h).spare, copying := false, copied := 0, both := [] }
      let s := s.setHalf h { s.half h with layered := true }
      let s := { s with pond := { s.pond with copy := none }, layer := { s.layer with busy := s.layer.busy.filter (· != u) } }
      ((s.countLayering false 1 u).bump 209).covered 0x18 u old 1 0 0
  | none => s

def execPcMapSwitch (s : State) : Host.Outcome State Fault Refusal := s.done s.pcMapSwitch

end Sys2Proof.Machine
end

