-- ==== Sys2Proof/Machine/Runners.lean ====
section
/-!
DEFINITION. The commands of the runner farm (chapter 07) and of accumulation (chapter 08): steps of instances, runners under fault,
write events, windows and their APPLY objects, planes, snapshots, display jobs.
-/

namespace Sys2Proof.Machine

/-! ### Steps (R203, R206, R224, R225) -/

/-- Runners and the store both run (R23, R226). -/
def State.farmRuns (s : State) : Bool := !s.stopped 3 && s.storeServes && s.gov.power != 3

def State.instOf (s : State) (id : Nat) : Option Inst := s.farm.insts.find? (fun x => x.id == id && x.ev.isNone)

/-- Has the instance been taken by a runner? -/
def Inst.started (x : Inst) : Bool := x.run.isSome || x.pos != 0

/-- May runner r of cluster k take instance x: it serves, is free, belongs to the cluster that is to run a step again (R224), and no
earlier entry's work waits for a runner (R203)? -/
def State.mayTake (s : State) (x : Inst) (k r : Nat) : Bool :=
  k < 16 && (s.cluster k).canRun r && (match x.home with | some h => h == k || (s.cluster h).parked || (s.cluster h).empty | none => true) &&
  !s.farm.insts.any (fun y => y.ev.isNone && y.run == some (32 * k + r)) &&
  !s.farm.insts.any (fun y => y.ev.isNone && !y.started && decide (y.ord < x.ord))

/-- The runner that works on the instance: the one that has it while its cluster is not parked, else the one offered (R198, R224). -/
def State.runnerFor (s : State) (x : Inst) (k r : Nat) : Option Nat :=
  let keeps := match x.run with | some a => (s.cluster (a / 32)).canRun (a % 32) | none => false
  if keeps then x.run else if s.mayTake x k r then some (32 * k + r) else none

/-- Samples that one step covers: 4,096 outputs of the densest channel (R224). -/
def Inst.stepSpan (x : Inst) (g : Seg) : Nat :=
  let ds := (onesBelow x.cfg.chans 4).map (fun c => (g.cfg.bolt c).d)
  4096 * ds.foldl min (ds.headD 1)

/-- Corrected SRAM words in a step (R224, R303). -/
def State.sramCorrected (run n : Nat) (s : State) : State :=
  if n == 0 then s
  else
    let s := (s.satBy O.SRAM_CORRECTED n).bumpBy 288 n
    (List.range n).foldl (fun s _ => s.wearEvent (0x0700 + run / 32) (run % 32) 6 0 0) s

/-- Read the next stretch of an instance's span (R204 to R206); a grain that fails its CRC is counted (R54). -/
def State.readStep (x : Inst) (crcBad : Bool) (s : State) : State :=
  match s.entryOf x.seq with
  | none => s.setInst { x with pos := x.len, gap := true, lastStep := s.clk.now, limit := s.rdN O.MEAS_TIMEOUT, home := none, retry := none }
  | some e =>
    let n := min (x.stepSpan e.seg) (x.len - x.pos)
    let a := x.start + (x.pos : Nat)
    let rs := (onesBelow x.cfg.chans 4).map (fun c => s.readSpan e.seg c a (a + (n : Nat)))
    let lsb := (List.range rs.length).map (fun i => ((x.lsb[i]?).getD {}).larger (((rs[i]?).map (fun r => r.lsb)).getD {}))
    let ow := (rs.map (fun r => r.overwritten)).foldl (· + ·) 0
    let s := if ow == 0 then s else (s.satBy O.WORK_OVERWRITTEN ow).bumpBy 292 ow
    let s := { s with farm := { s.farm with crcFails := s.farm.crcFails + b2n crcBad } }
    let s := s.serve 3 (96 * (rs.map (fun r => r.grains)).foldl (· + ·) 0)
    s.setInst
      { x with pos := x.pos + n, smps := joinLists x.smps (rs.map (fun r => r.smps)), lsb := lsb,
               gap := x.gap || crcBad || rs.any (fun r => r.gap), stale := x.stale || rs.any (fun r => r.stale),
               settle := x.settle || rs.any (fun r => r.settle), overR := x.overR || rs.any (fun r => r.overR),
               layer := x.layer || rs.any (fun r => r.layer), lastStep := s.clk.now, limit := s.rdN O.MEAS_TIMEOUT,
               home := none, retry := none }

/-- A runner ends a step now. -/
def State.stepEnds (run : Nat) (s : State) : State :=
  let cl := s.cluster (run / 32)
  s.setCluster (run / 32) { cl with stepAt := tset (run % 32) s.clk.now cl.stepAt }

/-- INSTANCE_STEP: a runner completes one step, the final one forming the values; it waits for class 3 credits (R175). -/
def State.instanceStep (st : StepIn) (s : State) : State :=
  if !s.farmRuns then s
  else
    match s.instOf st.inst with
    | none => s
    | some x =>
      match s.runnerFor x st.cluster st.runner with
      | none => s
      | some run =>
        let x := { x with run := some run }
        let s0 := s
        let s := (s.sramCorrected run st.sram).stepEnds run
        let s := { s with farm := { s.farm with busyAt := some s.clk.now } }
        s0.withCredit (if x.len ≤ x.pos then s.finishInst { x with retry := none } else s.readStep x st.crcBad)

def execInstanceStep (st : StepIn) (s : State) : Host.Outcome State Fault Refusal := s.done (s.instanceStep st)

/-- When a runner that has ended no step of an instance took it (DEDUCED, log entry 85): from the instance's last step, or its forming, and
the runner's own last step on. -/
def State.takenAt (s : State) (x : Inst) (run : Nat) : Time :=
  max x.lastStep (tget (fun _ => 0) (s.cluster (run / 32)).stepAt (run % 32))

/-- RUNNER_RESIDUE_ERROR (R224): steps 1, 3 and 4, on the instance's runner, or in its first step on the runner that took it; `lost` names
tiles of the runner, as plane and tile, that cannot be read. -/
def State.residueError (r : AtRunner) (lost : List (Nat × Nat)) (s : State) : State :=
  match s.instOf r.inst with
  | some x =>
    match s.runnerFor x r.cluster r.runner with
    | none => s
    | some run =>
      let x := if x.run == some run then x else { x with run := some run, lastStep := s.takenAt x run, limit := s.rdN O.MEAS_TIMEOUT }
      let k := run / 32
      let r := run % 32
      let s := ((s.sat O.RESIDUE_COUNT).bump (272 + k)).wearEvent (0x0700 + k) r 5 0 0
      let cl := s.cluster k
      let errs := s.clk.now :: (tget (fun _ => []) cl.errs r).filter (fun t => decide (s.clk.now < t + sec 1))
      let s := s.setCluster k { cl with errs := tset r errs cl.errs }
      if x.retry.isSome || 3 ≤ errs.length then s.retireRunner x lost
      else s.setInst { x with retry := some s.clk.now }
  | none => s

def execRunnerResidueError (id : AtRunner) (lost : List (Nat × Nat)) (s : State) : Host.Outcome State Fault Refusal :=
  s.done (s.residueError id lost)

/-- RETRY_WINDOW_EXPIRE (R224): the re-run has not completed within 20 µs. -/
def State.retryExpire (id : Nat) (lost : List (Nat × Nat)) (s : State) : State :=
  match s.instOf id with
  | some x => match x.retry with
    | some t => if s.due (t + us 20) then s.retireRunner x lost else s
    | none => s
  | none => s

def execRetryWindowExpire (id : Nat) (lost : List (Nat × Nat)) (s : State) : Host.Outcome State Fault Refusal :=
  s.done (s.retryExpire id lost)

/-- MEAS_TIMEOUT (R225): counted from the last completed step, or from when a runner took it, by the limit in force as the step began
(R228). -/
def State.measTimeout (r : AtRunner) (s : State) : State :=
  match s.instOf r.inst with
  | some x =>
    let due := match s.runnerFor x r.cluster r.runner with
      | some run => if x.started then s.due (x.lastStep + ms x.limit) else s.due (s.takenAt x run + ms (s.rdN O.MEAS_TIMEOUT))
      | none => x.started && s.due (x.lastStep + ms x.limit)
    if due && s.gov.power != 3 then
      let e : GateEv := { what := 1, seq := x.seq, index := x.start, fails := x.cfg.measures.map (fun m => (m, 7)) }
      (((s.setInst { x with ev := some e, run := none, retry := none }).sat O.WORK_TIMEOUTS).bump 290).promote x.gate
    else s
  | none => s

def execMeasTimeout (id : AtRunner) (s : State) : Host.Outcome State Fault Refusal := s.done (s.measTimeout id)

/-! ### Results (R219, R221) -/

/-- RESULT_WRITE_EVENT: a gate's waiting values are written. -/
def State.resultWrite (g : Nat) (s : State) : State := if s.storeServes then s.withCredit (s.writeEvent g) else s

def execResultWriteEvent (g : Nat) (s : State) : Host.Outcome State Fault Refusal := s.done (s.resultWrite g)

/-- RESULT_INTERVAL written (R219). -/
def writeInterval (v : Int) (s : State) : WRes :=
  let s := s.wr O.RESULT_INTERVAL v
  let due := s.clk.now + s.resultInterval
  let gates := s.farm.gates.map (fun e => if e.2.waiting.isEmpty then e else (e.1, { e.2 with due := min e.2.due due }))
  .ok { s with farm := { s.farm with gates := gates } }

def execResultIntervalWrite (p : Path) (v : Int) (s : State) : Host.Outcome State Fault Refusal :=
  s.done (s.write p O.RESULT_INTERVAL v (writeInterval v))

/-- DRESSING_SWEEP (R221): a pass on a unit of channel c has begun. -/
def State.dressingSweep (c : Nat) (s : State) : State :=
  if s.dress.passes.any (fun p => p.unit / 256 == c + 1 && 2 ≤ p.stage) && c < 4 then s.withCredit (s.sweep c) else s

def execDressingSweep (c : Nat) (s : State) : Host.Outcome State Fault Refusal := s.done (s.dressingSweep c)

/-- SPARE_SELF_TEST (R197): the spare of cluster k passes or fails its vectors (log entry 31). -/
def State.spareTest (k : Nat) (pass : Bool) (s : State) : State :=
  let cl := s.cluster k
  if 16 ≤ k || cl.layered || cl.retired.contains 16 || s.stopped 3 || s.gov.power == 3 then s
  else (s.setCluster k { cl with spareReady := pass }).unitNoSpare (0x0700 + k) (!pass)

def execSpareSelfTest (k : Nat) (pass : Bool) (s : State) : Host.Outcome State Fault Refusal := s.done (s.spareTest k pass)

/-! ### Windows of sets and gates (R230, R231, R233) -/

/-- What a path's window copies hold: the default row where nothing was latched (R413). -/
def State.crCopy (s : State) (p : Path) : CrSet := tget (fun _ => {}) s.farm.crWin (side p)
def State.paramCopy (s : State) (p : Path) : ParamSet := tget (fun _ => {}) s.farm.paramWin (side p)
def State.gateCopy (s : State) (p : Path) : Gate := tget (fun _ => {}) s.farm.gateWin (side p)
def State.planeCopy (s : State) (p : Path) : Plane := tget (fun _ => {}) s.farm.planeWin (side p)
def State.resCopy (s : State) (p : Path) : Rec := tget (fun _ => {}) s.farm.resWin (side p)

def State.setCrCopy (p : Path) (x : CrSet) (s : State) : State := { s with farm := { s.farm with crWin := tset (side p) x s.farm.crWin } }
def State.setParamCopy (p : Path) (x : ParamSet) (s : State) : State := { s with farm := { s.farm with paramWin := tset (side p) x s.farm.paramWin } }
def State.setGateCopy (p : Path) (x : Gate) (s : State) : State := { s with farm := { s.farm with gateWin := tset (side p) x s.farm.gateWin } }
def State.setPlaneCopy (p : Path) (x : Plane) (s : State) : State := { s with farm := { s.farm with planeWin := tset (side p) x s.farm.planeWin } }

def writeCrRow (p : Path) (v : Int) (s : State) : WRes :=
  .ok ((s.wr (win p O.CR_ROW) v).setCrCopy p (tget (fun _ => {}) s.farm.crs v.toNat))

def execCrRowLatch (p : Path) (v : Int) (s : State) : Host.Outcome State Fault Refusal := s.done (s.write p O.CR_ROW v (writeCrRow p v))

/-- The set replaces its row for instances of entries that become COMPLETE from now on. -/
def writeCrApply (p : Path) (s : State) : WRes :=
  .ok { s with farm := { s.farm with crs := tset (s.rdN (win p O.CR_ROW)) (s.crCopy p) s.farm.crs } }

def execCrApply (p : Path) (v : Int) (s : State) : Host.Outcome State Fault Refusal := s.done (s.write p O.CR_APPLY v (writeCrApply p))

/-- A field of the clock-recovery window, sub-index 2 to 7. -/
def writeCrField (p : Path) (sub : Nat) (v : Int) (s : State) : WRes :=
  let x := s.crCopy p
  let n := v.toNat
  .ok (s.setCrCopy p (match sub with
    | 2 => { x with order := n }
    | 3 => { x with ui := n }
    | 4 => { x with k1 := n }
    | 5 => { x with k2 := n }
    | 6 => { x with edges := n }
    | _ => { x with settle := n }))

def writeParamRow (p : Path) (v : Int) (s : State) : WRes :=
  .ok ((s.wr (win p O.PARAM_ROW) v).setParamCopy p (tget (fun _ => {}) s.farm.params v.toNat))

def execParamRowLatch (p : Path) (v : Int) (s : State) : Host.Outcome State Fault Refusal :=
  s.done (s.write p O.PARAM_ROW v (writeParamRow p v))

def writeParamApply (p : Path) (s : State) : WRes :=
  .ok { s with farm := { s.farm with params := tset (s.rdN (win p O.PARAM_ROW)) (s.paramCopy p) s.farm.params } }

def execParamApply (p : Path) (v : Int) (s : State) : Host.Outcome State Fault Refusal :=
  s.done (s.write p O.PARAM_APPLY v (writeParamApply p))

/-- Is the REAL32 pattern a value from -1.5 to +1.5? -/
def within15 (v : Int) : Bool := 2 * (r32Units v.toNat).natAbs ≤ 3 * 2 ^ 149

/-- A field of the parameter window, sub-index 2 to 8. -/
def writeParamField (p : Path) (sub : Nat) (v : Int) (s : State) : WRes :=
  let x := s.paramCopy p
  let n := v.toNat
  if sub == 6 && !within15 v then bad Why.VALUE_RANGE
  else .ok (s.setParamCopy p (match sub with
    | 2 => { x with method := n }
    | 3 => { x with histMin := n }
    | 4 => { x with midMode := n }
    | 5 => { x with midPct := n }
    | 6 => { x with midAbs := n }
    | 7 => { x with hyst := n }
    | _ => { x with sense := n }))

/-- GATE_ROW: the gate with its counters. -/
def writeGateRow (p : Path) (v : Int) (s : State) : WRes := .ok ((s.wr (win p O.GATE_ROW) v).setGateCopy p (s.gate v.toNat))

def execGateRowLatch (p : Path) (v : Int) (s : State) : Host.Outcome State Fault Refusal := s.done (s.write p O.GATE_ROW v (writeGateRow p v))

/-- GATE_APPLY (R223, R231). -/
def writeGateApply (p : Path) (s : State) : WRes :=
  let c := (s.gateCopy p).cfg
  match c.refused with
  | some r => bad r
  | none => .ok (s.applyGate (s.rdN (win p O.GATE_ROW)) c)

def execGateApply (p : Path) (v : Int) (s : State) : Host.Outcome State Fault Refusal := s.done (s.write p O.GATE_APPLY v (writeGateApply p))

/-- GATE_RESET (R223). -/
def writeGateReset (p : Path) (s : State) : WRes := .ok (s.resetGate (s.rdN (win p O.GATE_ROW)))

def execGateReset (p : Path) (v : Int) (s : State) : Host.Outcome State Fault Refusal := s.done (s.write p O.GATE_RESET v (writeGateReset p))

/-- A field of the gate window, sub-index 2 to 16. -/
def writeGateField (p : Path) (sub : Nat) (v : Int) (s : State) : WRes :=
  let x := s.gateCopy p
  let c := x.cfg
  let n := v.toNat
  if (sub == 13 && 255 < n && n != 65535) || (sub == 15 && 4095 < n && n != 65535) then bad Why.VALUE_RANGE
  else
    let c := match sub with
      | 2 => { c with enable := n == 1 }
      | 3 => { c with kind := n }
      | 4 => { c with slot := n }
      | 5 => { c with fmode := n }
      | 6 => { c with fval := n }
      | 7 => { c with fmod := n }
      | 8 => { c with line := n }
      | 9 => { c with off := v }
      | 10 => { c with len := n }
      | 11 => { c with chans := n }
      | 12 => { c with meas := n }
      | 13 => { c with cr := n }
      | 14 => { c with param := n }
      | 15 => { c with plane := n }
      | _ => { c with policy := n }
    .ok (s.setGateCopy p { x with cfg := c })

/-- RES_ROW: the whole record. -/
def writeResRow (p : Path) (v : Int) (s : State) : WRes :=
  .ok { s.wr (win p O.RES_ROW) v with farm := { s.farm with resWin := tset (side p) (s.rec_ v.toNat) s.farm.resWin } }

def execResRowLatch (p : Path) (v : Int) (s : State) : Host.Outcome State Fault Refusal := s.done (s.write p O.RES_ROW v (writeResRow p v))

/-- STATUS of a record (R217), and its 64 bytes (R215). -/
def Rec.status (r : Rec) : Nat := r.state % 16 + r.reason % 16 * 16 + r.cond % 16 * 256

def Rec.bytes (r : Rec) : List Nat :=
  leBytes 8 r.last.bits ++ leBytes 8 r.min_.bits ++ leBytes 8 r.max_.bits ++ leBytes 8 r.mean.bits ++ leBytes 8 r.std.bits
    ++ leBytes 8 r.count ++ leBytes 8 (wrapU 64 r.index) ++ leBytes 4 r.seq ++ leBytes 2 r.status ++ leBytes 2 0

/-! ### Planes (R234, R237, R240, R246, R251) -/

/-- PLANE_STATUS (R252). -/
def Plane.status (x : Plane) : Nat := at_ (x.cfg.kind != 0) 0 + at_ x.sat 1 + at_ x.lost 2 + at_ x.mixed 3

def writePlaneRow (p : Path) (v : Int) (s : State) : WRes :=
  let x := s.planeOf v.toNat
  .ok ((s.wr (win p O.PLANE_ROW) v).setPlaneCopy p { x with latched := x.status })

def execPlaneRowLatch (p : Path) (v : Int) (s : State) : Host.Outcome State Fault Refusal :=
  s.done (s.write p O.PLANE_ROW v (writePlaneRow p v))

/-- PLANE_APPLY: the plane takes the window copy's row, its mask is rasterised, and it is cleared. -/
def writePlaneApply (p : Path) (s : State) : WRes :=
  let c := (s.planeCopy p).cfg
  let n := s.rdN (win p O.PLANE_ROW)
  if c.kind != 0 && s.rdN O.PLANE_FRAMES ≤ n then notNow Why.PLANE_NO_FRAME
  else if r32Units c.hi ≤ r32Units c.lo then bad Why.PLANE_AXIS
  else if c.kind == 3 && c.nv < 3 then bad Why.PLANE_MASK
  else
    let s := s.clearPlane n
    .ok (s.setPlane n { s.planeOf n with cfg := c, mask := if c.kind == 3 then c.maskBins else [] })

def execPlaneApply (p : Path) (v : Int) (s : State) : Host.Outcome State Fault Refusal :=
  s.done (s.write p O.PLANE_APPLY v (writePlaneApply p))

/-- PLANE_CLEAR (R246). -/
def writePlaneClear (p : Path) (s : State) : WRes := .ok (s.clearPlane (s.rdN (win p O.PLANE_ROW)))

def execPlaneClear (p : Path) (v : Int) (s : State) : Host.Outcome State Fault Refusal :=
  s.done (s.write p O.PLANE_CLEAR v (writePlaneClear p))

/-- A field of the plane window, sub-index 2 to 7 and 20 to 51. -/
def writePlaneField (p : Path) (sub : Nat) (v : Int) (s : State) : WRes :=
  let x := s.planeCopy p
  let c := x.cfg
  let n := v.toNat
  if (sub == 4 || sub == 5) && !within15 v then bad Why.VALUE_RANGE
  else
    let c := match sub with
      | 2 => { c with kind := n }
      | 3 => { c with uis := n }
      | 4 => { c with lo := n }
      | 5 => { c with hi := n }
      | 6 => { c with width := n }
      | 7 => { c with nv := n }
      | _ => { c with verts := tset (sub - 20) n c.verts }
    .ok (s.setPlaneCopy p { x with cfg := c })

/-- TILE_SPILL (R242, R243): PLANE_FLUSH has passed, a snapshot of the plane waits, or the cluster is to be parked; `bad` names lines
of the frame, 16 bins each, that the read finds uncorrectable. -/
def State.tileSpill (run plane tile : Nat) (bad : List Nat) (s : State) : State :=
  match s.farm.tiles.find? (fun t => t.run == run && t.plane == plane && t.tile == tile) with
  | some t =>
    let occasion := s.due (t.since + us (s.rdN O.PLANE_FLUSH)) || s.farm.snaps.any (fun x => x.plane == plane && !x.ready)
    if !occasion || !s.storeServes then s
    else
      let line := fun (s : State) (k : Nat) => s.uncorrectable { cls := 3, region := 1, addr := planeLine0 + plane * frameLines + k } 0
      s.withCredit ((bad.foldl line s).spill run plane tile)
  | none => s

def execTileSpill (run plane tile : Nat) (bad : List Nat) (s : State) : Host.Outcome State Fault Refusal :=
  s.finish (s.tileSpill run plane tile bad)

/-! ### Snapshots (R244, R245) -/

/-- The window's snapshot. -/
def State.windowSnap (s : State) : Option Snap := s.farm.snaps.find? (fun x => x.tail.isNone)

/-- Contributions held apart that no pending snapshot of the plane keeps apart any more join it. -/
def State.joinShadow (n : Nat) (s : State) : State :=
  let p := s.planeOf n
  let s := s.setPlane n { p with shadow := [] }
  p.shadow.foldl (fun s c => s.contribute n c) s

/-- Snapshots that `f` chooses are released. -/
def State.dropSnaps (f : Snap → Bool) (s : State) : State :=
  let gone := s.farm.snaps.filter f
  let s := { s with farm := { s.farm with snaps := s.farm.snaps.filter (fun x => !f x) } }
  (gone.filter (fun x => !x.ready)).foldl (fun s x => s.joinShadow x.plane) s

/-- A free snapshot frame: 0 to 15 of the working space, or 16 + n, a plane frame that no plane holds. -/
def State.snapFrame (s : State) : Option Nat :=
  let used := s.farm.snaps.map (fun x => x.frame)
  match (List.range 16).find? (fun f => !used.contains f) with
  | some f => some f
  | none => (List.range (min 4096 (s.rdN O.PLANE_FRAMES))).findSome? (fun n => if s.planeInUse n || used.contains (16 + n) then none else some (16 + n))

/-- Request a snapshot (R244): `tail` the stream that it serves, none for the window. -/
def State.requestSnap (n : Nat) (tail : Option Nat) (s : State) : WRes :=
  if !s.planeInUse n then notNow Why.PLANE_NONE
  else
    match s.snapFrame with
    | none => notNow Why.PLANE_SNAPSHOT_BUSY
    | some f =>
      .ok { s with farm := { s.farm with snaps := s.farm.snaps ++ [({ plane := n, tail := tail, cut := s.farm.ord, frame := f, touched := s.runTime } : Snap)] } }

/-- SNAP_PLANE written. -/
def writeSnapPlane (v : Int) (s : State) : WRes :=
  match (s.dropSnaps (fun x => x.tail.isNone)).requestSnap v.toNat none with
  | .ok t => .ok (t.wr O.SNAP_PLANE v)
  | .error r => .error r

def execSnapPlaneWrite (p : Path) (v : Int) (s : State) : Host.Outcome State Fault Refusal :=
  s.done (s.write p O.SNAP_PLANE v (writeSnapPlane v))

/-- The plane work of every entry before the cut is finished or abandoned (R244, step 1). -/
def State.planeWorkDone (s : State) (n cut : Nat) : Bool :=
  !s.farm.insts.any (fun x => x.cfg.plane == n && x.ev.isNone && decide (x.ord < cut) && !x.noPlane)

/-- SNAPSHOT_READY (R244, steps 2 to 4) for plane n's earliest pending snapshot. -/
def State.snapReady (n : Nat) (s : State) : State :=
  match s.farm.snaps.find? (fun x => x.plane == n && !x.ready) with
  | some x =>
    if !s.planeWorkDone n x.cut || !s.farmRuns then s
    else
      let s0 := s
      let s := s.spillAll (fun t => t.plane == n)
      let x' := { x with ready := true, data := { s.planeOf n with shadow := [] } }
      let swap := fun (y : Snap) => if y.frame == x.frame then x' else y
      s0.withCredit ((({ s with farm := { s.farm with snaps := s.farm.snaps.map swap } }).bump 293).joinShadow n)
  | none => s

def execSnapshotReady (n : Nat) (s : State) : Host.Outcome State Fault Refusal := s.done (s.snapReady n)

/-- SNAP_RELEASE. -/
def writeSnapRelease (s : State) : WRes := .ok (s.dropSnaps (fun x => x.tail.isNone))

def execSnapRelease (p : Path) (v : Int) (s : State) : Host.Outcome State Fault Refusal :=
  s.done (s.write p O.SNAP_RELEASE v writeSnapRelease)

/-- An access to the snapshot window (R245). -/
def State.touchSnap (s : State) : State :=
  let touch := fun (x : Snap) => if x.tail.isNone then { x with touched := s.runTime } else x
  { s with farm := { s.farm with snaps := s.farm.snaps.map touch } }

/-- SNAP_TIMEOUT of Run time since the last access. -/
def State.snapTimeout (s : State) : State :=
  s.dropSnaps (fun x => x.tail.isNone && decide (x.touched + sec (s.rdN O.SNAP_TIMEOUT) ≤ s.runTime))

def execSnapTimeout (s : State) : Host.Outcome State Fault Refusal := s.done s.snapTimeout

/-- The snapshot header without and with its CRC, and row r of the bins as bytes (R245). -/
def Snap.headerBody (x : Snap) : List Nat :=
  let p := x.data
  let c := p.cfg
  leBytes 2 x.plane ++ leBytes 1 c.kind ++ leBytes 1 (if c.kind == 1 then 0 else c.uis) ++ leBytes 2 p.status ++ leBytes 2 0
    ++ leBytes 4 c.lo ++ leBytes 4 c.hi ++ leBytes 4 (if c.kind == 1 then c.width else 0) ++ leBytes 4 (p.last.getD 0xFFFFFFFF)
    ++ leBytes 8 p.insts ++ leBytes 8 p.points ++ leBytes 4 p.outside ++ leBytes 4 p.unlocked ++ leBytes 8 p.hits ++ leBytes 4 p.satLost

def Snap.header (x : Snap) : List Nat := x.headerBody ++ leBytes 4 (crc32c x.headerBody)

def Snap.row (x : Snap) (r : Nat) : List Nat := (List.range 512).flatMap (fun k => leBytes 4 (tget (fun _ => 0) x.data.bins (512 * r + k)))

/-! ### Display jobs (R248 to R250, R255) -/

def State.disp (s : State) : Nat → Disp := tget (fun _ => {}) s.farm.disps
def State.setDisp (b : Nat) (x : Disp) (s : State) : State := { s with farm := { s.farm with disps := tset b x s.farm.disps } }

/-- A job field written, sub-index 2 to 6: the selected buffer's. -/
def writeDispField (sub : Nat) (v : Int) (s : State) : WRes :=
  let b := s.rdN O.DISP_BUFFER
  let x := s.disp b
  let n := v.toNat
  if x.state == 1 then notNow Why.DISP_BUSY
  else .ok (s.setDisp b (match sub with
    | 2 => { x with entry := n }
    | 3 => { x with ch := n }
    | 4 => { x with start := v }
    | 5 => { x with len := n }
    | _ => { x with factor := n }))

/-- DISP_GO (R248). -/
def writeDispGo (s : State) : WRes :=
  let b := s.rdN O.DISP_BUFFER
  let x := s.disp b
  match s.entryOf x.entry with
  | none => notNow Why.DISP_NO_ENTRY
  | some e =>
    let d := (e.seg.cfg.bolt x.ch).d
    if e.state < 2 || !bit e.seg.chset x.ch then notNow Why.DISP_NO_ENTRY
    else if 218440 < ceilDiv x.len (d * x.factor) then notNow Why.DISP_TOO_LONG
    else if x.state == 1 then notNow Why.DISP_BUSY
    else .ok (s.setDisp b { x with state := 1, pairs := 0, grains := [] })

def execDispGo (p : Path) (v : Int) (s : State) : Host.Outcome State Fault Refusal := s.done (s.write p O.DISP_GO v writeDispGo)

/-- A source output of a job: reported index, coded values, setting in force, flags of its grain. -/
structure DispOut where
  r : Int
  lo : Int
  hi : Int
  set_ : Nat × Int
  flags : Flags
  /-- Are its raw inputs affected (R57)? -/
  overR : Bool := false

/-- The source outputs of one grain within [a, b) (R249). -/
def State.dispOuts (s : State) (c epoch : Nat) (cfg : BolterCfg) (g : Grain) (a b : Int) : List DispOut :=
  let vs := if g.kind == 3 then (List.range 20).map (fun j => ((g.vals[2 * j]?).getD 0, (g.vals[2 * j + 1]?).getD 0))
            else g.vals.map (fun v => (v, v))
  let k : Int := if cfg.mode ≤ 1 then 64 else 1
  let late : Int := if cfg.mode ≤ 1 then 0 else g.late
  (List.range vs.length).filterMap (fun (j : Nat) =>
    let r := g.index + (j : Nat) * cfg.d
    let v := (vs[j]?).getD (0, 0)
    if a ≤ r && r < b then some ({ r := r, lo := k * v.1, hi := k * v.2, set_ := s.setting c epoch (r + late), flags := g.flags,
                                         overR := (g.overRs[j]?).getD false } : DispOut) else none)

/-- Cut a list into pieces of n. -/
def piecesOf {α : Type} (n : Nat) : Nat → List α → List (List α)
  | 0, _ => []
  | k + 1, l => if l.isEmpty then [] else l.take n :: piecesOf n k (l.drop n)

/-- A value coded again in another setting (R249). -/
def recode (from_ to_ : Nat × Int) (v : Int) : Int :=
  if from_ == to_ then v
  else
    -- in units of uV / 65,408 (64 x 1,022)
    let x := from_.2 * 50 * 65408 + v * fullScale from_.1
    sat16 (roundDiv (x - to_.2 * 50 * 65408) (max (fullScale to_.1) 1 : Nat))

/-- One pair (R249). -/
def dispPair (os : List DispOut) : Int × Int :=
  match os.getLast? with
  | none => (0, 0)
  | some last =>
    let ls := os.map (fun o => recode o.set_ last.set_ o.lo)
    let hs := os.map (fun o => recode o.set_ last.set_ o.hi)
    (ls.foldl min (ls.headD 0), hs.foldl max (hs.headD 0))

/-- An output grain of a job from its pairs' source outputs (R250). -/
def dispGrain (c num : Nat) (ps : List (List DispOut)) : Grain :=
  let all := ps.flatMap (fun p => p)
  let any := fun (f : Flags → Bool) => all.any (fun o => f o.flags)
  let gap := any (fun f => f.gap)
  let stale := !gap && any (fun f => f.stale)
  let vals := ps.flatMap (fun p => let v := dispPair p; [v.1, v.2])
  { kind := 3, ch := c, phase := 20 * num % 2048, index := ((all.head?).map (fun o => o.r)).getD 0,
    vals := if gap then List.replicate 40 0 else vals ++ List.replicate (40 - vals.length) 0,
    flags := { decim := true, gap := gap, stale := stale, valid := !gap && !stale, layer := any (fun f => f.layer), unref := any (fun f => f.unref),
               overR := !gap && all.any (fun o => o.overR), settling := !gap && any (fun f => f.settling) } }

/-- DISPLAY_JOB_DONE (R249, R250). -/
def State.dispDone (b : Nat) (s : State) : State :=
  let x := s.disp b
  if x.state != 1 || !s.farmRuns then s
  else
    match s.entryOf x.entry with
    | none => (s.setDisp b { x with state := 2 }).bump 294
    | some e =>
      let cfg := e.seg.cfg.bolt x.ch
      let s0 := s
      let stop := x.start + (x.len : Nat)
      let (os, ow, n) := (List.range e.seg.count).foldl (fun (acc : List DispOut × Nat × Nat) i =>
        let i0 := e.seg.startIdx + (i : Nat) * e.seg.p
        if i0 + e.seg.p ≤ x.start || stop ≤ i0 then acc
        else
          let (g, o) := s.segGrain e.seg x.ch i
          (acc.1 ++ s.dispOuts x.ch e.seg.epoch cfg g x.start stop, acc.2.1 + b2n o, acc.2.2 + 1)) ([], 0, 0)
      let s := if ow == 0 then s else (s.satBy O.WORK_OVERWRITTEN ow).bumpBy 292 ow
      let pairs := piecesOf x.factor os.length os
      let gs := piecesOf 20 pairs.length pairs
      let grains := (List.range gs.length).map (fun i => dispGrain x.ch i ((gs[i]?).getD []))
      s0.withCredit (((s.serve 3 (96 * n)).setDisp b { x with state := 2, pairs := pairs.length, grains := grains }).bump 294)

def execDisplayJobDone (b : Nat) (s : State) : Host.Outcome State Fault Refusal := s.done (s.dispDone b)

end Sys2Proof.Machine
end

