-- ==== Sys2Proof/Machine/Observe.lean ====
section
/-!
DEFINITION. Observation (chapter 18): the bytes of a trace entry (R469), the trace ring and its writer (R470), the trace port (R475),
and the trace window (R478).
-/

namespace Sys2Proof.Machine

/-- Bytes 0 to 27 of an entry, and all 32 (R469). -/
def TraceEnt.body (e : TraceEnt) : List Nat :=
  leBytes 8 (wrapU 64 e.index) ++ leBytes 4 e.seq ++ leBytes 1 e.epoch ++ leBytes 1 e.flags ++ leBytes 2 e.event ++ leBytes 2 e.unit
    ++ leBytes 2 e.slice ++ leBytes 8 e.data

def TraceEnt.bytes (e : TraceEnt) : List Nat := e.body ++ leBytes 4 (crc32c e.body)

/-- The ring's rows, and the sample periods that one entry takes its writer. -/
def traceRows : Nat := 65536
def traceGap : Nat := 5000

/-- The oldest sequence the ring holds (R476). -/
def State.oldestTrace (s : State) : Nat :=
  if s.trace.written == 0 then s.trace.next
  else if s.trace.written ≤ traceRows then 0
  else (s.trace.written - traceRows) % 2 ^ 32

/-- A row of the ring as it reads: LOST when its line was uncorrectable (R469). -/
def State.traceRow (s : State) (r : Nat) : Option TraceEnt :=
  (tfind s.trace.ring r).map (fun e => if s.trace.lost.contains r then { seq := e.seq, flags := 8 } else e)

/-- The trace port runs (R475). -/
def State.portOn (s : State) : Bool := s.rd O.TRC_ENABLE == 1 && s.tailRuns

/-- An entry written to the ring goes to the port, or is counted while the port is idle (R475). -/
def State.portTakes (e : TraceEnt) (s : State) : State :=
  if !s.portOn then s.bump 468
  else if bit (s.rdN O.TRC_MASK) e.event then { s with trace := { s.trace with port := s.trace.port ++ [e] } }
  else s

/-- TRACE_WRITE (R470): the oldest entry of the queue goes to its row, while the store serves, at most one per 62.5 ns. -/
def State.traceWrite (s : State) : State :=
  let free := match s.trace.wroteAt with | some t => s.due (t + traceGap) | none => true
  match s.trace.queue with
  | [] => s
  | e :: q =>
    if !s.storeServes || !free then s
    else
      let r := e.seq % traceRows
      let t := s.trace
      let s := { s with trace := { t with queue := q, ring := tset r e t.ring, written := t.written + 1, wroteAt := some s.clk.now,
                                          lost := t.lost.filter (· != r) } }
      ((s.bump 466 |>.written 2 (traceLine0 + r / 2)).serve 5 32).portTakes e

def execTraceWrite (s : State) : Host.Outcome State Fault Refusal := s.done s.traceWrite

/-- TRACE_PORT_SEND (R475): the port sends its next entry. -/
def State.portSend (s : State) : State :=
  match s.trace.port with
  | [] => s
  | e :: q => if s.portOn then { s with trace := { s.trace with port := q, portLast := some e } } else s

def execTracePortSend (s : State) : Host.Outcome State Fault Refusal := s.done s.portSend

/-- The 34 bytes that the port drives for an entry (R475). -/
def TraceEnt.portBytes (e : TraceEnt) : List Nat := [0xA5, 0x5A] ++ e.bytes

/-- TRACE_ROW (R478). -/
def writeTraceRow (p : Path) (v : Int) (s : State) : WRes :=
  .ok { s.wr (win p O.TRACE_ROW) v with trace := { s.trace with win := latch p (s.traceRow v.toNat) s.trace.win } }

def execTraceRowLatch (p : Path) (v : Int) (s : State) : Host.Outcome State Fault Refusal :=
  s.done (s.write p O.TRACE_ROW v (writeTraceRow p v))

/-- TRACE_STATUS (R477). -/
def State.traceStatus (s : State) : Nat :=
  at_ s.portOn 0 + at_ (decide (traceRows < s.trace.written)) 1
    + at_ (match s.trace.dropAt with | some t => decide (s.clk.now < t + ms 1) | none => false) 2

end Sys2Proof.Machine
end

