-- ==== Sys2Proof/Machine/Layer.lean ====
section
/-!
DEFINITION. Layering (chapter 11): wear (R303, R304), policies and requests (R306, R307, R311), the courses of R308 to R310 for
slices, runners, lanes, phases and twins, and the map and records in flash (R305, R319).
-/

namespace Sys2Proof.Machine

/-! ### Wear (R303) -/

/-- The units of the first seven kinds of R302. -/
def wearUnits : List Nat :=
  (List.range 16).map (fun k => 256 * (k / 4 + 1) + k % 4) ++ (List.range 4).map (0x0600 + ·) ++ (List.range 16).map (0x0700 + ·)
    ++ [0x0800] ++ (List.range 6).map (0x0900 + ·) ++ (List.range 4).map (0x0A00 + ·) ++ [0x0B00, 0x0B01]

/-- Run time in hours. -/
def hours (n : Nat) : Nat := n * 3600 * sec 1

/-- W_i = round(1,000 x value / limit). -/
def wearOf (value limit : Nat) : Nat := (2000 * value + limit) / (2 * limit)

/-- Events of a kind on a slice within the last `w` of Run time. -/
def State.eventsIn (s : State) (u sl what w : Nat) : Nat :=
  (s.layer.log.filter (fun e => e.unit == u && e.slice == sl && e.what == what && decide (s.wearTime < e.at_ + w))).length

/-- Rows of a pseudo-channel corrected on three or more separate scrub passes. -/
def State.rowsCorrected (s : State) (u sl : Nat) : Nat :=
  let es := s.layer.log.filter (fun e => e.unit == u && e.slice == sl && e.what == 4)
  ((es.map (fun e => e.row)).eraseDups.filter (fun r =>
    decide (3 ≤ ((es.filter (fun e => e.row == r)).map (fun e => e.pass)).eraseDups.length))).length

/-- W of an eye width E (R303). -/
def eyeWear (e : Nat) : Nat := if 700 ≤ e then 0 else wearOf (700 - e) 350

/-- The slices of a unit that are in service, spares not among them. -/
def State.inService (s : State) (u : Nat) : List Nat :=
  match u / 256 with
  | 1 | 2 | 3 | 4 => (List.range 16).map (s.quad (4 * (u / 256 - 1) + u % 4)).serving
  | 6 => (List.range 15).map (fun i => (s.pc (15 * (u % 4) + i)).phys)
  | 7 => let c := s.cluster (u % 16); (List.range 17).filter { c with parked := false }.canRun
  | 8 => [s.fan.active]
  | 9 => let r := tget (fun _ => []) s.gov.phases (u % 8); ((List.range 8).filter (fun n => !r.contains n)).take 6
  | 10 => (s.members (u % 4)).filter (fun l => decide (l < 18) && (s.lane l).st != 7)
  | _ => let b := if (s.link (4 + u % 2)).spareIn then 2 else 0; [b, b + 1]

/-- The lane of a slice number of a lane group or a Hedge side (R473). -/
def laneOfSlice (u sl : Nat) : Nat := if isGroup u then sl else 18 + 4 * (u % 2) + sl

/-- The figures of a slice with their sources (R303, R324): 1 TRIM, 2 ERRORS, 3 MARGIN, 4 REJECTIONS, 5 RELOCKS. Margins of phases
and twins are the Governor's measurements. -/
def State.figures (s : State) (u sl : Nat) : List (Nat × Nat) :=
  let day := hours 24
  let measured := (s.layer.margins.filter (fun m => m.1 == u && m.2.1 == sl)).map (fun m => (m.2.2, 3))
  match u / 256 with
  | 1 | 2 | 3 | 4 =>
    let q := s.quad (4 * (u / 256 - 1) + u % 4)
    let t := (((List.range 16).find? (fun j => q.serving j == sl)).map q.trim).getD (0, 0)
    [(wearOf t.1.natAbs 114, 1), (wearOf t.2.natAbs 57, 1), (wearOf (s.eventsIn u sl 1 day) 64, 2),
     (wearOf (s.eventsIn u sl 2 (30 * day)) 4, 4)]
  | 6 => [(wearOf (s.eventsIn u sl 3 day) 4096, 2), (wearOf (s.rowsCorrected u sl) 8, 2)]
  | 7 => [(wearOf (s.eventsIn u sl 5 day) 16, 2), (wearOf (s.eventsIn u sl 6 day) 256, 2)]
  | 8 => (wearOf (s.eventsIn u sl 8 day) 3, 5) :: measured
  | 9 => measured
  | _ =>
    let eye := match tfind s.dress.eyes (laneOfSlice u sl) with | some e => eyeWear e | none => 0
    [(eye, 3), (wearOf (s.eventsIn u sl 7 (hours 1)) 1024, 2), (wearOf (s.eventsIn u sl 2 (30 * day)) 4, 4)]

/-- W of a slice and the indicator that sets it: the largest figure, at most 65,535. -/
def State.sliceWear (s : State) (u sl : Nat) : Nat × Nat :=
  (s.figures u sl).foldl (fun m f => if m.1 < min f.1 65535 then (min f.1 65535, f.2) else m) (0, 0)

/-- Wear of a unit: W, source, and the slice that has it. -/
def State.unitFigure (s : State) (u : Nat) : Nat × Nat × Nat :=
  (s.inService u).foldl (fun m sl => let w := s.sliceWear u sl; if m.1 < w.1 then (w.1, w.2, sl) else m) (0, 0, 0xFFFF)

/-- Worn (R304). -/
def State.worn (s : State) (u : Nat) : Bool := decide (s.rdN O.WEAR_THRESHOLD ≤ (s.unitWear u).w)

/-- The policy of a unit's section (R306): 0 AUTO, 1 ASK, 2 FROZEN. -/
def policyKey (u : Nat) : Nat :=
  match u / 256 with
  | 1 | 2 | 3 | 4 => O.POLICY_CH (u / 256 - 1)
  | 6 => O.POLICY_POND
  | 7 => O.POLICY_RUNNERS
  | 8 => O.POLICY_FANTAIL
  | 9 => O.POLICY_GOVERNOR
  | 10 => O.POLICY_TAILRACE
  | _ => O.POLICY_HEDGE

def State.policy (s : State) (u : Nat) : Nat := s.rdN (policyKey u)

/-- The unit has no spare that could ever be layered in: used, or failed its readiness check (R311); both twins worn (R310). -/
def State.noSpareLeft (s : State) (u : Nat) : Bool :=
  match u / 256 with
  | 1 | 2 | 3 | 4 => let q := s.quad (4 * (u / 256 - 1) + u % 4); q.layered || q.failed || q.pending.isSome || !q.spareReady
  | 6 => let h := s.half (u % 4); h.layered || h.failed || !h.spareReady
  | 7 => let c := s.cluster (u % 16); c.layered || c.empty || !c.spareReady
  | 8 => decide (s.rdN O.WEAR_THRESHOLD ≤ (s.sliceWear u (1 - s.fan.active)).1)
  | 9 => decide (2 ≤ (tget (fun _ => []) s.gov.phases (u % 8)).length)
  | 10 => [16, 17].all (fun l => (s.lane l).group < 4 || (s.lane l).st == 7)
  | _ => (s.link (4 + u % 2)).spareIn || (s.link (4 + u % 2)).out || (pairLanes (4 + u % 2) true).any (fun l => (s.lane l).st == 7)

/-- LAYER_UNAVAILABLE, once for each crossing (R307, R311). -/
def State.unavailable (u sl : Nat) (s : State) : State :=
  let w := s.unitWear u
  if w.unavail then s
  else ((s.setUnitWear u { w with unavail := true }).bump 343).covered 0x1A u sl 11 sl 0

/-- Is something decided, asked or under way for the unit? -/
def State.inHand (s : State) (u : Nat) : Bool :=
  s.layer.decided.any (fun d => d.1 == u) || s.layer.asks.any (fun a => a.unit == u) || s.layer.busy.contains u

/-- A request is raised (R307). -/
def State.ask (u sl : Nat) (s : State) : State :=
  let a : Ask := { unit := u, seq := s.fault.next, until_ := s.clk.now + sec (s.rdN O.ASK_TIMEOUT) }
  { (s.bump 342).covered 0x19 u sl 6 sl 0 with layer := { ((s.bump 342).covered 0x19 u sl 6 sl 0).layer with asks := s.layer.asks ++ [a] } }

/-- A declined or expired request keeps its unit quiet (R307). -/
def State.quietUnit (s : State) (u : Nat) : Bool :=
  match (s.unitWear u).declined with
  | some (w, t) => decide ((s.unitWear u).w < w + 100) && decide (s.wearTime < t + hours 24)
  | none => false

/-- What the policy makes of a worn unit. -/
def State.judge (u : Nat) (s : State) : State :=
  let w := s.unitWear u
  if !s.mayLayer || s.inHand u then s
  else match s.policy u with
    | 0 => if s.noSpareLeft u then s.unavailable u w.slice else s.decide_ u w.slice
    | 1 =>
      if s.noSpareLeft u then s.unavailable u w.slice
      else if s.quietUnit u then s
      else if 16 ≤ s.layer.asks.length then s.unavailable u w.slice
      else (s.setUnitWear u { w with declined := none }).ask u w.slice
    | _ => s

/-- A unit is no longer worn: its request is WITHDRAWN, and a new crossing may be reported. -/
def State.recovered (u : Nat) (s : State) : State :=
  let mine := s.layer.asks.filter (fun a => a.unit == u)
  let s := { s with layer := { s.layer with asks := s.layer.asks.filter (fun a => a.unit != u) } }
  let s := mine.foldl (fun s a => s.recordOutcome a.seq 10) s
  s.setUnitWear u { s.unitWear u with unavail := false }

/-- Events that no window can count any more leave the log. -/
def State.pruneWear (s : State) : State :=
  let keep := fun (e : WearEv) => e.what == 4 || decide (s.wearTime < e.at_ + hours (if e.what == 2 then 720 else 24))
  { s with layer := { s.layer with log := s.layer.log.filter keep } }

/-- WEAR_RECOMPUTE (R303): once a second; `m` gives W of each phase and twin whose current, temperature or alignment is measured. -/
def State.wearRecompute (m : List (Nat × Nat × Nat)) (s : State) : State :=
  if !s.due (s.layer.recomputed + sec 1) || s.dev == .boot || s.dev == .sleep || s.gov.off then s
  else
    let s := { s with layer := { s.layer with recomputed := s.clk.now, margins := m } }.pruneWear
    let s := wearUnits.foldl (fun s u =>
      let f := s.unitFigure u
      let w := s.unitWear u
      s.setUnitWear u { w with w := f.1, src := f.2.1, slice := f.2.2, peak := max w.peak f.1 }) s
    wearUnits.foldl (fun s u => if s.worn u then s.judge u else s.recovered u) s

def execWearRecompute (m : List (Nat × Nat × Nat)) (s : State) : Host.Outcome State Fault Refusal := s.done (s.wearRecompute m)

/-! ### Requests (R306, R307) -/

/-- A request is answered with an outcome of R318: it is pending no more. -/
def State.answerAsk (a : Ask) (outcome : Nat) (s : State) : State :=
  let s := { s with layer := { s.layer with asks := s.layer.asks.filter (fun b => b.unit != a.unit) } }.recordOutcome a.seq outcome
  let w := s.unitWear a.unit
  if outcome == 1 then s.decide_ a.unit w.slice
  else s.setUnitWear a.unit { w with declined := some (w.w, s.wearTime) }

/-- ASK_TIMEOUT (R307): requests whose time is over expire. -/
def State.askTimeout (s : State) : State :=
  (s.layer.asks.filter (fun a => s.due a.until_)).foldl (fun s a => s.answerAsk a 8) s

def execAskTimeout (s : State) : Host.Outcome State Fault Refusal := s.done s.askTimeout

/-- LAYER_GRANT and LAYER_DECLINE (R19, R307). -/
def writeAnswer (outcome : Nat) (v : Int) (s : State) : WRes :=
  if !unitKnown v.toNat then bad Why.UNIT_INVALID
  else match s.layer.asks.find? (fun a => a.unit == v.toNat) with
  | some a => .ok (s.answerAsk a outcome)
  | none => notNow Why.LAYER_NO_REQUEST

def execLayerGrant (p : Path) (v : Int) (s : State) : Host.Outcome State Fault Refusal :=
  s.done (s.write p O.LAYER_GRANT v (writeAnswer 1 v))
def execLayerDecline (p : Path) (v : Int) (s : State) : Host.Outcome State Fault Refusal :=
  s.done (s.write p O.LAYER_DECLINE v (writeAnswer 7 v))

/-- A policy object of 5200h (R306): pending requests of its section take the new policy at once. -/
def writePolicy (k : Nat) (v : Int) (s : State) : WRes :=
  let s := s.wr k v
  let mine := s.layer.asks.filter (fun a => policyKey a.unit == k)
  .ok (if v = 0 then mine.foldl (fun s a => s.answerAsk a 1) s
       else if v = 2 then mine.foldl (fun s a => s.answerAsk a 7) s
       else s)

/-- The object that a POLICY_WRITE names: sub-index 2 to 11. -/
def policyObj (sub : Nat) : Nat := O.LAYER_STATUS + 1 + (sub - 2) % 10

def execPolicyWrite (p : Path) (sub : Nat) (v : Int) (s : State) : Host.Outcome State Fault Refusal :=
  s.done (s.write p (policyObj sub) v (writePolicy (policyObj sub) v))

/-! ### Slices (R308, R309) -/

/-- The spare of a quad takes the position of slice `sl`, which is retired. -/
def Quad.layerIn (q : Quad) (j sl : Nat) : Quad :=
  { q with map := tset j q.spare q.map, retired := sl :: q.retired, spareReady := false, failRun := [] }

/-- What a layering in a quad does to dressing (R289, R291). -/
def State.quadLayered (u qn j : Nat) (s : State) : State :=
  ((s.markRestart (fun p => sharesSlices p.unit u)).dropTargets qn j).unitNoSpare u true

/-- SLICE_WEAR_LAYERING (R308): at a raw-grain boundary; that grain is Layered. -/
def State.sliceWearLayering (c q : Nat) (s : State) : State :=
  let u := 256 * (c + 1) + q
  let qn := 4 * c + q
  let x := s.quad qn
  if 4 ≤ c || 4 ≤ q || !s.mayLayer || s.asleep || !x.spareReady || x.layered || x.pending.isSome then s
  else match s.layer.decided.find? (fun d => d.1 == u) with
    | some d =>
      let sl := d.2.1
      match (List.range 16).find? (fun j => x.serving j == sl), s.takeDecided u sl with
      | some j, some s =>
        let s := (s.setQuad qn { x.layerIn j sl with layered := true }).quadLayered u qn j
        let s := s.modChan c (fun ch => { ch with layerNext := true })
        (s.countLayering false 0 u).covered 0x18 u sl 1 0 0
      | _, _ => s
    | none => s

def execSliceWearLayering (c q : Nat) (s : State) : Host.Outcome State Fault Refusal := s.done (s.sliceWearLayering c q)

/-- SLICE_HARD_FAILURE (R309, R48): checks failed in the grains D - 3 to D; the spare serves from D + 4, 7 grains or 5.6 ns after
D - 3. Without a ready spare the quad has FAILED. The checks are judged in the GRAIN domain, so that the record's index is that of grain D
(R471). -/
def State.sliceHardFailure (c q sl : Nat) (s : State) : State :=
  let u := 256 * (c + 1) + q
  let qn := 4 * c + q
  let x := s.quad qn
  if 4 ≤ c || 4 ≤ q || x.failed || x.pending.isSome || tget (fun _ => 0) x.failRun sl < 4 || s.atRest then s
  else
    let s := s.supersede u
    let at_ : Int := s.idxAt (s.grainAt s.clk.now) - 64
    match (if x.spareReady && !x.layered && s.mayLayer then (List.range 16).find? (fun j => x.serving j == sl) else none) with
    | some j =>
      let s := (s.setQuad qn { x.layerIn j sl with pending := some (s.grainAt s.clk.now + 192, j) }).quadLayered u qn j
      (s.countLayering true 0 u).recordAs 0 0x01 u sl 1 0 6 at_ false true
    | none => ((s.setQuad qn { x with failed := true, failRun := [] }).unitFailed u).uncoveredAs 0 0x02 u sl 0 0 at_

def execSliceHardFailure (c q sl : Nat) (s : State) : Host.Outcome State Fault Refusal := s.finish (s.sliceHardFailure c q sl)

/-! ### Runners, lanes, phases, twins (R308, R310) -/

/-- RUNNER_LAYERING (R308): at a step boundary the cluster's spare takes the runner's checkpoints, in one step (R312; log entry 98). -/
def State.runnerLayering (k : Nat) (s : State) : State :=
  let u := 0x0700 + k
  let cl := s.cluster k
  if 16 ≤ k || !s.mayLayer || !s.farmRuns || !cl.spareReady || cl.layered || cl.empty then s
  else match s.layer.decided.find? (fun d => d.1 == u) with
    | some d =>
      let r := d.2.1
      match s.takeDecided u r with
      | some s =>
        let old := 32 * k + r
        let new := 32 * k + 16
        let s := s.setCluster k { cl with retired := r :: cl.retired, layered := true, spareReady := false }
        let tiles := s.farm.tiles.map (fun (t : Tile) => if t.run == old then { t with run := new } else t)
        let insts := s.farm.insts.map (fun (i : Inst) => if i.run == some old then { i with run := some new } else i)
        let s := { s with farm := { s.farm with tiles := tiles, insts := insts } }
        (((s.countLayering false 2 u).bump 295).unitNoSpare u true).covered 0x18 u r 1 0 0
      | none => s
    | none => s

def execRunnerLayering (k : Nat) (s : State) : Host.Outcome State Fault Refusal := s.done (s.runnerLayering k)

/-- LANE_WEAR_LAYERING (R308): the spare joins the stripe of link `g`, then the worn lane leaves it; on the Hedge traffic moves to
the spare pair between frames. -/
def State.laneWearLayering (g : Nat) (s : State) : State :=
  let u := linkUnit g
  if 6 ≤ g || !s.mayLayer || !s.tailRuns then s
  else match s.layer.decided.find? (fun d => d.1 == u) with
    | some d =>
      let sl := d.2.1
      if g < 4 then
        match s.readyLane, s.takeDecided u sl with
        | some k, some s =>
          let x := s.lane sl
          let s := s.modLane k (fun y => { y with st := 3, group := g, slot := x.slot })
          let s := s.setLane sl { x with st := 7, rxOk := false, partner := false, okSince := none, lost := none, repl := none }
          let s := s.markRestart (fun p => p.unit == u)
          (s.countLayering false 3 u).covered 0x18 u sl 1 sl 0
        | _, _ => s
      else if !(s.link g).spareIn && (pairLanes g true).all (fun m => (s.lane m).st == 4) then
        match s.takeDecided u sl with
        | some s =>
          let s := (pairLanes g true).foldl (fun s m => s.modLane m (fun y => { y with st := 3 })) s
          let s := (pairLanes g false).foldl (fun s m => s.modLane m (fun y => { y with st := 7, rxOk := false, partner := false, lost := none })) s
          let s := (s.setLink g { s.link g with spareIn := true }).markRestart (fun p => p.unit == u)
          (s.countLayering false 4 u).covered 0x18 u sl 1 sl 0
        | none => s
      else s
    | none => s

def execLaneWearLayering (g : Nat) (s : State) : Host.Outcome State Fault Refusal := s.done (s.laneWearLayering g)

/-- Retired phases of a rail group. -/
def State.retiredPhases (s : State) (g : Nat) : List Nat := tget (fun _ => []) s.gov.phases g

/-- A spare phase enters the share and phase `n` leaves it. -/
def State.phaseOut (g n : Nat) (s : State) : State :=
  let r := n :: s.retiredPhases g
  { s with gov := { s.gov with phases := tset g r s.gov.phases } }.unitNoSpare (0x0900 + g) (decide (2 ≤ r.length))

/-- PHASE_LAYERING (R308): of a worn phase, or of one that has failed; a failure with both spares in service exhausts the group. -/
def State.phaseLayering (hard : Bool) (g n : Nat) (s : State) : State :=
  let u := 0x0900 + g
  let r := s.retiredPhases g
  if 6 ≤ g || !(s.inService u).contains n || s.gov.off || s.atRest then s
  else if hard then
    let s := s.supersede u
    if r.length < 2 && s.mayLayer then ((s.phaseOut g n).countLayering true 5 u).covered 0x09 u n 1 n 0
    else (({ s with gov := { s.gov with phases := tset g (n :: r) s.gov.phases } }).unitFailed u).uncovered 0x0A u n n 0
  else if 2 ≤ r.length || !s.mayLayer then s
  else match s.takeDecided u n with
    | some s => ((s.phaseOut g n).countLayering false 5 u).covered 0x18 u n 1 n 0
    | none => s

def execPhaseLayering (hard : Bool) (g n : Nat) (s : State) : Host.Outcome State Fault Refusal := s.finish (s.phaseLayering hard g n)

/-- TWIN_WEAR_SWAP (R310): at a raw-grain boundary; the new twin's first grain is Layered on every enabled channel. -/
def State.twinWearSwap (s : State) : State :=
  let old := s.fan.active
  if !s.mayLayer || s.asleep || !s.fan.sampling || !s.fan.standbyReady || s.fan.failUntil.isSome then s
  else match s.takeDecided 0x0800 old with
    | some s =>
      let s := { s with fan := { s.fan with active := 1 - old } }
      let s := chanNos.foldl (fun s c => s.modChan c (fun ch => { ch with layerNext := true })) s
      (s.countLayering false 6 0x0800).covered 0x18 0x0800 old 1 0 0
    | none => s

def execTwinWearSwap (s : State) : Host.Outcome State Fault Refusal := s.done s.twinWearSwap

/-! ### Flash (R305, R319) -/

/-- The layering map as the module stands. -/
def State.layerMap (s : State) : LayerMap :=
  let l := s.layer
  { gen := l.flash.gen + 1, time := s.wearTime, quads := s.quads, pcs := s.pond.pcs, halves := s.pond.halves, clusters := s.farm.clusters,
    phases := s.gov.phases, lanes := laneNos.filter (fun k => (s.lane k).st == 7),
    pool := [16, 17].filterMap (fun k => let x := s.lane k; if x.group < 4 then some (k, x.group, x.slot) else none),
    pairs := [4, 5].filter (fun g => (s.link g).spareIn),
    units := l.units, log := l.log }

/-- LAYERING_MAP_WRITE (R305): within 100 ms of a layering; the indicators once an hour of Run time. The older copy is written. -/
def State.mapWrite (s : State) : State :=
  if (s.layer.mapDue.isSome || decide (s.layer.flash.time + hours 1 ≤ s.wearTime)) && !s.gov.off then
    { s with layer := { s.layer with flash := s.layerMap, flashOld := s.layer.flash, mapDue := none } }
  else s

def execLayeringMapWrite (s : State) : Host.Outcome State Fault Refusal := s.done s.mapWrite

/-- PREV_FAULT_FLASH_WRITE (R319): the eight most recent uncovered records. -/
def State.faultFlash (s : State) : State :=
  if !s.gov.off then
    { s with fault := { s.fault with flash := (s.fault.toFlash.reverse ++ s.fault.flash).take 8, toFlash := [] } }
  else s

def execPrevFaultFlashWrite (s : State) : Host.Outcome State Fault Refusal := s.done s.faultFlash

/-! ### Windows (R324, R327) -/

/-- WEAR_UNIT: the latched figures are the unit's, with its request's state and the time left of it. -/
def writeWearUnit (p : Path) (v : Int) (s : State) : WRes :=
  let u := v.toNat
  if !wearUnits.contains u then bad Why.LAYER_UNIT
  else
    let a := s.layer.asks.find? (fun a => a.unit == u)
    let st := if a.isSome then 1 else if s.quietUnit u then 2 else 0
    let left := match a with | some a => (a.until_ - s.clk.now) / sec 1 | none => 0
    .ok { s.wr (win p O.WEAR_UNIT) v with layer := { s.layer with win := tset (side p) (u, s.unitWear u, st, left) s.layer.win } }

def execWearUnitLatch (p : Path) (v : Int) (s : State) : Host.Outcome State Fault Refusal :=
  s.done (s.write p O.WEAR_UNIT v (writeWearUnit p v))

/-- FAULT_ROW. -/
def writeFaultRow (p : Path) (v : Int) (s : State) : WRes :=
  .ok { s.wr (win p O.FAULT_ROW) v with fault := { s.fault with win := latch p (tfind s.fault.log v.toNat) s.fault.win } }

def execFaultRowLatch (p : Path) (v : Int) (s : State) : Host.Outcome State Fault Refusal :=
  s.done (s.write p O.FAULT_ROW v (writeFaultRow p v))

/-- The 32 bytes of a fault record (R318). -/
def FaultRec.bytes (r : FaultRec) : List Nat :=
  leBytes 4 r.seq ++ leBytes 8 (wrapU 64 r.index) ++ [r.epoch % 256, r.flags] ++ leBytes 2 r.unit ++ leBytes 2 r.slice ++ leBytes 2 r.kind
    ++ [r.outcome, 0] ++ leBytes 2 r.emcy ++ leBytes 4 r.detail ++ leBytes 4 r.interruption

end Sys2Proof.Machine
end

