-- ==== Sys2Proof/Machine/Gov.lean ====
section
/-!
DEFINITION. The Governor (chapter 12): supply and temperature (R328 to R332), Off and start-up (R333 to R335), what Boot leaves
(R28, R190, R404), power states (R336 to R340), and the ladder with admission (R341 to R345).
-/

namespace Sys2Proof.Machine

def State.modGov (f : GovSt → GovSt) (s : State) : State := { s with gov := f s.gov }

/-- Run time stops counting, and counts again (R406). -/
def State.pauseRun (s : State) : State := { s with clk := { s.clk with runBefore := s.runTime, runSince := s.clk.now } }
def State.resumeRun (s : State) : State := { s with clk := { s.clk with runSince := s.clk.now } }

/-- POWER_STATE changes to or from Doze or Sleep, with its trace entry (R472). -/
def State.setPower (n : Nat) (s : State) : State :=
  let s := s.modGov (fun g => { g with power := n })
  s.trace_ 0xB 0 0xFFFF (n + s.gov.step * 256)

/-! ### Admission (R345) -/

/-- Bits of 1001h that admission's causes set: 1 current, 2 voltage, 3 temperature. -/
def State.setGovBit (i : Nat) (b : Bool) (s : State) : State := { s with fault := { s.fault with gov := setBit s.fault.gov i b } }

/-- Admission closes, or is closed by a further cause: bit 1 power, 2 supply, 3 lid, each with its EMCY and bit of 1001h; 4 distrust,
which has neither. -/
def State.closeFor (cause : Nat) (s : State) : State :=
  if bit s.gov.closedBy cause then s
  else
    let s := s.modGov (fun g => { g with closed := true, closedBy := setBit g.closedBy cause true })
    match cause with
    | 1 => (s.setGovBit 1 true).emcyCode 0x2100
    | 2 => (s.setGovBit 2 true).emcyCode 0x3100
    | 3 => (s.setGovBit 3 true).emcyCode 0x4200
    | _ => s

/-- A cause ends; admission reopens once none is left. -/
def State.openFor (cause : Nat) (s : State) : State :=
  let s := s.modGov (fun g => let c := setBit g.closedBy cause false; { g with closedBy := c, closed := c != 0 })
  if cause ≤ 3 then s.setGovBit cause false else s

/-- ARM, with the Governor's refusals counted (R345, R346). -/
def countLimit (s : State) (r : WRes) : State := match r with
  | .error e => if e.reason == Why.GOVERNOR_LIMIT then s.sat O.LIMIT_REFUSALS else s
  | .ok _ => s

/-- DRESS with what the Governor refuses: a channel unit while admission is closed (R345), the Sluice in Doze (R338). -/
def cmdDressGov (u : Nat) (s : State) : WRes :=
  match s.dressRefusal u with
  | some r => .error r
  | none =>
    if u == 0x0500 && s.gov.power == 2 then notNow Why.POWER_STATE
    else if isChanUnit u && s.gov.closed then notNow Why.GOVERNOR_LIMIT
    else cmdDress u s

/-! ### Boot (R28, R190, R404) -/

/-- What Boot starts from: everything but the always-on core and module flash is as new, and no access is served. A supply warning keeps
admission closed (R345; DEDUCED, log entry 99). -/
def State.asBoot (s : State) : State :=
  let f : State := {}
  let g := s.gov
  let gov : GovSt :=
    { off := g.off, pgood := g.pgood, vinLow := g.vinLow, vinHigh := g.vinHigh, rails := g.rails, railsBad := g.railsBad, seqAt := g.seqAt,
      closed := g.vinLow || g.vinHigh, closedBy := at_ (g.vinLow || g.vinHigh) 2, lastLid := g.lastLid, winSince := g.winSince,
      restarts := g.restarts, retryAt := g.retryAt, wantStart := g.wantStart, shutdown := g.shutdown, wakeN := g.wakeN,
      resetHeld := g.resetHeld }
  { f with
    pending := s.pending, free := s.free, dev := .boot, gov := gov,
    clk := { now := s.clk.now, epochBase := s.clk.now, runSince := s.clk.now },
    fault := { flash := s.fault.flash, gov := at_ (g.vinLow || g.vinHigh) 2 },
    net := { nmt := .init, serving := false, storedNode := s.net.storedNode, storedRate := s.net.storedRate, saved := s.net.saved },
    chans := tsetMany chanNos (fun _ => { ready := false }) [],
    fan := { sscStored := s.fan.sscStored },
    dress := { copyA := s.dress.copyA, copyB := s.dress.copyB },
    layer := { flash := s.layer.flash, flashOld := s.layer.flashOld, boots := s.layer.boots },
    upd := { banks := s.upd.banks, sel := s.upd.sel, selOld := s.upd.selOld, outcome := s.upd.outcome, reject := s.upd.reject } }

/-- Boot begins: rails as Run needs them. -/
def State.beginBoot (s : State) : State :=
  s.asBoot.modGov (fun g => { g with boot := 1, rails := (List.range 6).filter (fun r => !g.railsBad.contains r), pgood := g.railsBad.isEmpty,
                                     wantStart := false })

/-! ### Off and start-up (R331, R333 to R335) -/

/-- The module goes to Off: FAULT_N asserted, PGOOD low, all rails off (R331). -/
def State.goOff (s : State) : State :=
  let b := s.asBoot
  let s := { b with gov := { b.gov with off := true, pgood := false, rails := [], railsBad := [], seqAt := none, boot := 0,
                                        power := 0, offAt := s.clk.now, spent := false } }
  { s with fault := { s.fault with faultN := true }, pond := {} }

/-- Sequencing begins at the present instant: FAULT_N is released (R333). -/
def State.startSequencing (s : State) : State :=
  let s := s.modGov (fun g => { g with seqAt := some s.clk.now, rails := [], railsBad := [], retryAt := none, wantStart := false, spent := false })
  { s with fault := { s.fault with faultN := false } }

/-- The cause of the last shutdown (R331, R332). -/
def GovSt.cause (g : GovSt) : Nat := g.shutdown % 256

/-- Restarts within the 60 s before an instant. -/
def GovSt.recent (g : GovSt) (now : Time) : List Time := g.restarts.filter (fun t => decide (now < t + sec 60))

/-- When the core restarts by itself, if it may (R331, R334): 1 s after group 5 failed, or in Off after causes 1 to 3 once VIN has held
the start window for 1 s. -/
def GovSt.restartDue (g : GovSt) : Option Time :=
  match g.winSince with
  | some w =>
    match g.retryAt with
    | some t => some (max t w)
    | none => if 1 ≤ g.cause && g.cause ≤ 3 then some (max g.offAt (w + sec 1)) else none
  | none => none

/-- A restart that was due is the fourth within 60 s: there is none any more (R331). -/
def GovSt.exhausted (g : GovSt) (now : Time) : Bool :=
  g.off && g.seqAt.isNone && match g.restartDue with | some d => decide (d ≤ now) && decide (3 ≤ (g.recent d).length) | none => false

/-- A wanted start waits for the start window and, after causes 6 and 7, for a lid below 80.0 °C (R331). -/
def State.tryStart (s : State) : State :=
  let g := s.gov
  let cool := !(g.cause == 6 || g.cause == 7) || g.lastLid < 800
  if g.off && g.wantStart && g.winSince.isSome && cool && g.seqAt.isNone then s.startSequencing else s

/-- DETAIL of an ABS_MAX record (R332). -/
def absDetail (cause sensor v : Nat) : Nat := cause + sensor % 256 * 256 + v % 65536 * 65536

/-- Shutdown (R331), of a module that is up or whose rail groups are on their way up: for causes 6 and 7 the record goes to flash
first. -/
def State.shutdown (cause sensor v : Nat) (s : State) : State :=
  if s.gov.off && s.gov.rails.isEmpty then s
  else
    let d := absDetail cause sensor v
    let s := if cause == 6 || cause == 7 then (s.uncovered 0x17 0x09FF 0xFFFF d 0).faultFlash else s
    (s.goOff.modGov (fun g => { g with shutdown := d })).bump 459

/-- Park cluster k at its step boundary: plane caches spill, its work goes on elsewhere (R198, R242). -/
def State.park (k : Nat) (s : State) : State :=
  if (s.cluster k).parked then s
  else
    let s := s.spillAll (fun t => t.run / 32 == k)
    let insts := s.farm.insts.map (fun (i : Inst) => match i.run with | some r => if r / 32 == k then { i with run := none } else i | none => i)
    ({ s with farm := { s.farm with insts := insts } }.setCluster k { s.cluster k with parked := true }).bump 296

/-- Protective stop (R330). -/
def State.protectiveStop (cause sensor v : Nat) (s : State) : State :=
  if s.gov.off then s
  else
    let s := s.modGov (fun g => { g with rails := g.rails.filter (· != 0), pgood := false })
    let s := clusterNos.foldl (fun s k => s.park k) s
    let s := chanNos.foldl (fun s c => s.modChan c (fun x => { x with ready := false, readyAt := none })) s
    (s.uncovered 0x17 0x09FF 0xFFFF (absDetail cause sensor v) 0).bump 459

/-- The power rails fail below 20 V: even the always-on core forgets (R331). -/
def State.supplyGone (s : State) : State :=
  let t := s.goOff
  { t with gov := { off := true, pgood := false, rails := [], winSince := none, wakeN := s.gov.wakeN, resetHeld := s.gov.resetHeld },
           fault := { t.fault with gov := 0, faultN := false }, upd := { t.upd with outcome := 0, reject := 0 } }

/-- SUPPLY_CONDITION (R328), held for its time, or absent for 100 ms where a warning ends: kind 0 VIN_LOW, 1 VIN_HIGH, 2 VIN below
34 V, 3 above 78 V, 4 current above 6.5 A, 5 out of the start window, 6 below 20 V; `v` in 0.01 V or 0.01 A. -/
def State.supplyCondition (kind : Nat) (begins : Bool) (v : Nat) (s : State) : State :=
  match kind with
  | 0 | 1 =>
    let s := s.modGov (fun g => if kind == 0 then { g with vinLow := begins } else { g with vinHigh := begins })
    if s.gov.off then s
    else if begins then s.closeFor 2
    else if s.gov.vinLow || s.gov.vinHigh then s else s.openFor 2
  | 2 => s.shutdown 2 0 v
  | 3 => s.shutdown 1 0 v
  | 4 => s.shutdown 3 0 v
  | 5 =>
    let early := s.gov.off && s.gov.rails.isEmpty
    s.modGov (fun g => { g with winSince := none, spent := g.spent || g.exhausted s.clk.now, seqAt := if early then none else g.seqAt, wantStart := g.wantStart || (early && g.seqAt.isSome) })
  | _ => s.supplyGone

def execSupplyCondition (kind : Nat) (begins : Bool) (v : Nat) (s : State) : Host.Outcome State Fault Refusal :=
  s.finish (s.supplyCondition kind begins v)

/-- THERMAL_CONDITION (R329): `v` in 0.1 °C, held for the time of its threshold; sensor 0 is the lid. -/
def State.thermalCondition (sensor : Nat) (v : Int) (s : State) : State :=
  let stop : Int := if sensor == 0 then 900 else 1200
  let s := if sensor == 0 then s.modGov (fun g => { g with lastLid := v }) else s
  if 12 ≤ sensor then s
  else if stop + 50 ≤ v then s.shutdown (if sensor == 0 then 6 else 7) sensor (wrapU 16 v)
  else if stop ≤ v then
    if s.gov.off || s.gov.hot.contains sensor then s
    else (s.modGov (fun g => { g with hot := sensor :: g.hot })).protectiveStop (if sensor == 0 then 4 else 5) sensor (wrapU 16 v)
  else
    let s := if v < stop - 50 then s.modGov (fun g => { g with hot := g.hot.filter (· != sensor) }) else s
    s.tryStart

def execThermalCondition (sensor : Nat) (v : Int) (s : State) : Host.Outcome State Fault Refusal :=
  s.finish (s.thermalCondition sensor v)

/-- RAIL_FAULT (R332): cause 8; `v` the measured value. -/
def execRailFault (g v : Nat) (s : State) : Host.Outcome State Fault Refusal :=
  s.finish (if g < 6 && s.gov.rails.contains g && s.gov.seqAt.isNone then s.shutdown 8 g v else s)

/-- SHUTDOWN_RESTART (R331, R334): after an electrical shutdown once VIN has held the window for 1 s, or for group 5 after 1 s; at
most three restarts in 60 s. -/
def State.shutdownRestart (s : State) : State :=
  match s.gov.restartDue with
  | some d =>
    if s.gov.off && s.gov.seqAt.isNone && s.due d && !s.gov.spent && (s.gov.recent d).length < 3 then
      (s.modGov (fun g => { g with restarts := s.clk.now :: g.recent d })).startSequencing
    else s
  | none => s

def execShutdownRestart (s : State) : Host.Outcome State Fault Refusal := s.done s.shutdownRestart

/-- SUPPLY_ESTABLISHED (R333): VIN rises into the start window. From a cold Off sequencing begins; after a shutdown its restart rules
hold. -/
def State.supplyEstablished (s : State) : State :=
  let s := s.modGov (fun g => { g with winSince := some s.clk.now })
  if s.gov.off && s.gov.seqAt.isNone && s.gov.cause == 0 && s.gov.retryAt.isNone then s.startSequencing else s.tryStart

def execSupplyEstablished (s : State) : Host.Outcome State Fault Refusal := s.done s.supplyEstablished

/-- Order in which rail groups start (R333). -/
def railOrder : List Nat := [5, 1, 3, 2, 0, 4]

/-- The sequence ends: PGOOD, and Boot unless RESET_N is held low (R333, R335). -/
def State.sequenceDone (s : State) : State :=
  let s := s.modGov (fun g => { g with off := false, seqAt := none, pgood := g.railsBad.isEmpty })
  if s.gov.resetHeld then s.asBoot else s.beginBoot

/-- RAIL_GROUP_START (R333): the next group at 10 ms + 2.5 ms a group; after the last, at 25 ms, the end of the sequence. -/
def State.railGroupStart (s : State) : State :=
  match s.gov.seqAt with
  | some t =>
    let n := s.gov.rails.length + s.gov.railsBad.length
    if !s.due (t + ms 10 + n * 200000000) then s
    else match railOrder[n]? with
      | some r => s.modGov (fun g => { g with rails := g.rails ++ [r] })
      | none => s.sequenceDone
  | none => s

def execRailGroupStart (s : State) : Host.Outcome State Fault Refusal := s.done s.railGroupStart

/-- RAIL_GROUP_FAIL (R334): the group that started last is not in regulation. -/
def State.railGroupFail (s : State) : State :=
  match s.gov.seqAt, s.gov.rails.getLast? with
  | some _, some 5 =>
    let s := s.modGov (fun g => { g with rails := [], railsBad := [], seqAt := none, retryAt := some (s.clk.now + sec 1) })
    { s with fault := { s.fault with faultN := true } }
  | some _, some r => s.modGov (fun g => { g with rails := g.rails.dropLast, railsBad := g.railsBad ++ [r] })
  | _, _ => s

def execRailGroupFail (s : State) : Host.Outcome State Fault Refusal := s.done s.railGroupFail

/-- RESET_N (R335, R340): recognised when held low for at least 1 µs, ignored at 40 ns or less, open between. `low`: it is held low;
else it has been released. -/
def State.resetN (low : Bool) (ns : Nat) (s : State) : State :=
  if low then
    let takes := if 1000 ≤ ns then true else if ns ≤ 40 then false else s.fv 2 == 1
    let s := s.adv
    if !takes then s
    else
      let s := s.modGov (fun g => { g with resetHeld := true })
      if s.gov.off then s else s.asBoot
  else if !s.gov.resetHeld then s
  else
    let s := s.modGov (fun g => { g with resetHeld := false })
    if s.gov.off then (if s.gov.seqAt.isSome then s else (s.modGov (fun g => { g with wantStart := true })).tryStart)
    else s.beginBoot

def execResetN (low : Bool) (ns : Nat) (s : State) : Host.Outcome State Fault Refusal := s.done (s.resetN low ns)

/-! ### Idle and Doze (R337, R338) -/

/-- The conditions of Idle (R337). -/
def State.idleHolds (s : State) : Bool :=
  s.dev == .run && planNos.all (fun q => !armedSt (s.plan q).st) && s.dress.passes.isEmpty && s.dress.applying.isEmpty
    && s.backlog == 0 && (match s.gov.frameAt with | some t => s.due (t + ms 1) | none => true)

/-- IDLE_POWER_CHANGE (R337). -/
def State.idleChange (s : State) : State :=
  if s.gov.power == 0 && s.idleHolds then s.modGov (fun g => { g with power := 1, idleSince := some s.clk.now })
  else if s.gov.power == 1 && !s.idleHolds then s.modGov (fun g => { g with power := 0, idleSince := none })
  else s

def execIdlePowerChange (s : State) : Host.Outcome State Fault Refusal := s.done s.idleChange

/-- A layering is in progress that cannot be abandoned: of a slice, a pseudo-channel that has failed, or a lane. -/
def State.layeringHeld (s : State) : Bool :=
  s.quads.any (fun e => e.2.pending.isSome) || (List.range 60).any (fun l => s.switching l) || laneNos.any (fun l => (s.lane l).repl.isSome)

/-- A layering is in progress. -/
def State.layeringNow (s : State) : Bool := !s.layer.busy.isEmpty || s.layeringHeld

/-- Doze may be entered (R338). -/
def State.mayDoze (s : State) : Bool :=
  s.dev == .run && s.acq != 2 && planNos.all (fun q => !armedSt (s.plan q).entering) && s.dress.passes.isEmpty && s.dress.applying.isEmpty && !s.layeringNow

/-- The GRAIN domain and the channels go off: what the Headrace's fixed delay and the pins held is gone (R336, R338); a preparation of
RANGE and OFFSET ends as at a disable: the values apply without a switch (log entry 79). -/
def State.grainOff (s : State) : State :=
  let s := chanNos.foldl (fun s c =>
    let x := s.chan c
    (if x.prep.isSome || !x.writes.isEmpty then s.applyObjects c else s).modChan c (fun x => { x with ready := false, readyAt := none, delay := [] })) s
  let s := [0, 1].foldl (fun s l => s.setLoop l { s.loop l with lock := false, gate := false, openAt := none }) s
  { s.quietTrig with fan := { s.fan with standbyReady := false, failUntil := none } }

/-- A loop that has been off locks again and opens its gate (R265, R338, R340): a re-lock (R266), and what awaited it comes into force. -/
def State.relock (l : Nat) (s : State) : State :=
  if (s.loop l).dead then s else (s.setLoop l { s.loop l with lock := true, fails := 0 }).gateOpens l

/-- The GRAIN domain and the enabled channels are back; the sample index goes on as if it had run throughout (R280, R338). -/
def State.grainOn (s : State) : State :=
  let s := [0, 1].foldl (fun s l => s.relock l) s
  let s := { s with fan := { s.fan with standbyReady := !(s.loop (1 - s.fan.active)).dead } }
  chanNos.foldl (fun s c => if s.rd (O.CH_ENABLE c) == 0 then s else s.startChannel c) s

def State.enterDoze (s : State) : State :=
  let s := (s.pauseRun.setPower 2).grainOff
  s.modGov (fun g => { g with rails := g.rails.filter (· != 0), idleSince := none, dozeEnd := none })

/-- DOZE_NOW. -/
def writeDozeNow (s : State) : WRes :=
  if s.gov.power == 2 then .ok s else if s.mayDoze then .ok s.enterDoze else notNow Why.POWER_STATE

def execDozeNow (p : Path) (v : Int) (s : State) : Host.Outcome State Fault Refusal := s.done (s.write p O.DOZE_NOW v writeDozeNow)

/-- DOZE_AFTER_EXPIRE: continuous time in Idle, whenever DOZE_AFTER was written. -/
def State.dozeAfter (s : State) : State :=
  let n := s.rdN O.DOZE_AFTER
  match s.gov.idleSince with
  | some t => if n != 0 && s.gov.power == 1 && s.due (t + sec n) && s.mayDoze then s.enterDoze else s
  | none => s

def execDozeAfterExpire (s : State) : Host.Outcome State Fault Refusal := s.done s.dozeAfter

/-- WAKE (R338, R390): ends Doze; otherwise no effect. -/
def cmdWake (s : State) : WRes :=
  .ok (if s.gov.power == 2 && s.gov.dozeEnd.isNone then s.modGov (fun g => { g with dozeEnd := some s.clk.now }) else s)

/-- DOZE_EXIT_COMPLETE (R338): loops 0 and 1, group 0 and the channels are back; the power state is Run. -/
def State.dozeExit (s : State) : State :=
  match s.gov.dozeEnd with
  | some _ =>
    if s.gov.power != 2 || s.dev == .sleep then s
    else
      let s := (s.modGov (fun g => { g with rails := g.rails ++ [0], dozeEnd := none })).setPower 0
      s.resumeRun.grainOn
  | none => s

def execDozeExitComplete (s : State) : Host.Outcome State Fault Refusal := s.done s.dozeExit

/-! ### Sleep and wake (R339, R340) -/

/-- SLEEP's own checks (R391), then the way down begins (R30, R339, R361). `carried`: an SDO transfer carries the command. -/
def cmdSleep (p : Path) (s : State) : WRes :=
  if s.gov.wakeN then notNow Why.WAKE_HELD
  else if s.dress.commit.isSome then notNow Why.DRESS_COMMIT_BUSY
  else if s.upd.session.isSome then notNow Why.UPDATE_BUSY
  else if s.net.xfer.isSome && p != .sdo then notNow Why.DEVICE_STATE
  else
    let s := { s.pauseRun.cutPair with dev := .sleep }
    .ok (s.modGov (fun g => { g with downAt := some s.clk.now, latched := 0, idleSince := none, dozeEnd := none }))

/-- The wake begins, from WAKE_N (1) or CAN_RX (2). -/
def State.beginWake (src : Nat) (s : State) : State :=
  (s.wr O.WAKE_SOURCE src).modGov (fun g => { g with wakeAt := some s.clk.now, latched := 0 })

/-- Something wakes the module: at once in Sleep, latched on the way down. -/
def State.wakeEvent (src : Nat) (s : State) : State :=
  if s.dev != .sleep || s.gov.wakeAt.isSome then s
  else if s.gov.power == 3 then s.beginWake src
  else if s.gov.latched == 0 then s.modGov (fun g => { g with latched := src })
  else s

/-- SLEEP_REACHED (R339, R189, R313): a copy of a pseudo-channel is abandoned, to start again after wake; other layerings and a RUN
commit have ended; lanes and clocks are off, the stacks in self-refresh. -/
def State.sleepReached (s : State) : State :=
  match s.gov.downAt with
  | some _ =>
    if s.dev != .sleep || s.gov.power == 3 || s.stopped 3 || s.layeringHeld then s
    else
      let s := match s.pond.copy with
        | some l =>
          let u := 0x0600 + halfNo l
          let h := s.half (halfNo l)
          ((s.stopCopy l).setHalf (halfNo l) { h with spareReady := true }).unitNoSpare u false |>.decide_ u (s.pc l).phys
        | none => s
      let s := (s.retrain linkNos true).grainOff
      let s := { s.storePause with net := { s.net with serving := false } }
      let s := s.modGov (fun g => { g with downAt := none, canOff := true, rails := [2] })
      let s := (s.sat O.SLEEP_COUNT).setPower 3
      if s.gov.latched != 0 then s.beginWake s.gov.latched else s
  | none => s

def execSleepReached (s : State) : Host.Outcome State Fault Refusal := s.done s.sleepReached

/-- WAKE_N_LOW (R339, R340): a low level of `ns`; below 40 ns never detected, from 200 ns on always. `held`: it is still low. -/
def State.wakeNLow (ns : Nat) (held : Bool) (s : State) : State :=
  let takes := if 200 ≤ ns then true else if ns ≤ 40 then false else s.fv 2 == 1
  let s := s.adv.modGov (fun g => { g with wakeN := held })
  if takes then s.wakeEvent 1 else s

def execWakeNLow (ns : Nat) (held : Bool) (s : State) : Host.Outcome State Fault Refusal := s.done (s.wakeNLow ns held)

/-- CAN_RX_WAKE (R340): a dominant edge once the controller is off. -/
def State.canRxWake (s : State) : State :=
  if s.dev != .sleep then s else (s.modGov (fun g => { g with canOff := true })).wakeEvent 2

def execCanRxWake (s : State) : Host.Outcome State Fault Refusal := s.done s.canRxWake

/-- Everything is back from retention (R340, R364, R367, R226). -/
def State.resumeAll (s : State) : State :=
  let s := s.modGov (fun g => { g with rails := [0, 1, 2, 3, 4, 5], canOff := false, wakeAt := none })
  let s := { s with dev := if s.fault.cause.isSome then .faulted else .run, net := { s.net with serving := true } }.storeResume
  let s := [2, 3, 4, 5, 6].foldl (fun s l => s.relock l) s
  let insts := s.farm.insts.map (fun (i : Inst) => { i with lastStep := s.clk.now })
  let conv : Tbl MonConv := s.mon.conv.map (fun (e : Nat × MonConv) => (e.1, { e.2 with seqUntil := none, woken := true }))
  let s := { s with farm := { s.farm with insts := insts }, mon := { s.mon with conv := conv } }
  let s := ((s.startSequence 0).startSequence 1).setPower 0
  s.resumeRun.grainOn.retrain linkNos true

/-- RUN_REACHED (R28, R340): DEVICE_STATE becomes ACQ_STATE. Without a timebase no loop's gate opens. -/
def State.runReached (s : State) : State :=
  match s.gov.wakeAt with
  | some t => if s.dev != .sleep || s.fan.tb == 4 then s else (s.wr O.WAKE_TIME_LAST (min ((s.clk.now - t) / us 10) 65535)).resumeAll
  | none => s

def execRunReached (s : State) : Host.Outcome State Fault Refusal := s.done s.runReached

/-- WAKE_TIMEOUT (R340): 30 ms without Run; `late` names the section that was late. -/
def State.wakeTimeout (late : Nat) (s : State) : State :=
  match s.gov.wakeAt with
  | some t => if s.dev != .sleep || !s.due (t + ms 30) then s else s.resumeAll.uncovered 0x16 0x00FF 0xFFFF late 0
  | none => s

def execWakeTimeout (late : Nat) (s : State) : Host.Outcome State Fault Refusal := s.finish (s.wakeTimeout late)

/-! ### The ladder (R341 to R345) -/

/-- RUN_FREQ_MAX (R346): one of the four frequencies. -/
def writeRunMax (v : Int) (s : State) : WRes :=
  if v = 750 ∨ v = 1000 ∨ v = 1250 ∨ v = 1500 then s.put O.RUN_FREQ_MAX v else bad Why.VALUE_RANGE

/-- RUN frequency of a step, in MHz, and its N. -/
def stepMHz (n : Nat) : Nat := match n with | 0 => 1500 | 1 => 1250 | 2 => 1000 | _ => 750
def stepN (n : Nat) : Nat := stepMHz n / 50

/-- The highest step allowed (R342): the first whose frequency does not exceed RUN_FREQ_MAX. -/
def State.topStep (s : State) : Nat := ((List.range 4).find? (fun n => stepMHz n ≤ s.rdN O.RUN_FREQ_MAX)).getD 3

/-- Parked clusters, those without runners included. -/
def State.parkedClusters (s : State) : List Nat := clusterNos.filter (fun k => (s.cluster k).parked || (s.cluster k).empty)

/-- One step down. -/
def State.stepDown (cap lid : Bool) (s : State) : State :=
  let n := s.gov.step + 1
  let s := s.modGov (fun g => { g with step := n, stepped := true, capLimited := cap, lidLimited := lid, overSince := if n == 11 then some s.clk.now else none })
  let s := (s.sat O.STEPS_DOWN).bump 457
  if n ≤ 3 then { s with fan := { s.fan with pendN := some (stepN n) } }
  else if n - 3 ≤ s.parkedClusters.length then s
  else match (clusterNos.filter (fun k => !(s.cluster k).parked && !(s.cluster k).empty)).getLast? with
    | some k => s.park k
    | none => s

/-- One step up: the cluster parked last is unparked first. -/
def State.stepUp (s : State) : State :=
  let n := s.gov.step - 1
  let top := s.topStep
  let s := s.modGov (fun g => { g with step := n, stepped := true, overSince := none, capLimited := g.capLimited && n != top, lidLimited := g.lidLimited && n != top })
  let s := (s.sat O.STEPS_UP).bump 458
  if n < 3 then { s with fan := { s.fan with pendN := some (stepN n) } }
  else if s.parkedClusters.length ≤ n - 3 then s
  else match (clusterNos.filter (fun k => (s.cluster k).parked && !(s.cluster k).empty)).head? with
    | some k => s.setCluster k { s.cluster k with parked := false }
    | none => s

/-- P_IN plus the predicted increase stays at or below POWER_CAP - 2 W (R343); powers in 0.1 W. -/
def State.roomAbove (s : State) (pin r4 : Nat) : Bool :=
  let cap := 10 * s.rdN O.POWER_CAP - 20
  let n := s.gov.step
  if n ≤ 3 then
    let f := stepMHz n
    decide (91 * f * pin + 100 * r4 * (stepMHz (n - 1) - f) ≤ 91 * f * cap)
  else
    let m := 16 - s.parkedClusters.length
    decide (91 * m * pin + 100 * r4 ≤ 91 * m * cap)

/-- The latest corrected code of input `i` of converter `m`, from which the Governor takes its readings (R363). -/
def State.published (s : State) (m i : Nat) : Nat := s.rdN (monKey m i)

/-- Temperature sensor n in 0.1 °C: 0.005 °C per code, less 55 °C; sensors 0 to 5 are inputs 14 to 19 of M0, 6 to 11 inputs 0 to 5 of M1
(R362; rounded to the nearest, DEDUCED, log entry 103). -/
def State.temperature (s : State) (n : Nat) : Int :=
  roundDiv ((if n < 6 then s.published 0 (14 + n) else s.published 1 (n - 6) : Nat) - 11000) 20

/-- VIN in 0.01 V at 1.5259 mV per code, and the input current in mA at 152.59 µA (R362; log entry 103). -/
def State.inputVolts (s : State) : Int := roundDiv (15259 * (s.published 0 0 : Nat)) 100000
def State.inputCurrent (s : State) : Int := roundDiv (15259 * (s.published 0 1 : Nat)) 100000

/-- Power of rail group g in 0.1 W: voltage at 38.147 µV per code, inputs 2 to 7, current at 1.5259 mA, inputs 8 to 13 (R362; log
entry 103). -/
def State.railPower (s : State) (g : Nat) : Nat :=
  min (roundDiv (38147 * 15259 * (s.published 0 (2 + g) : Nat) * (s.published 0 (8 + g) : Nat)) 1000000000000000).toNat 65535

/-- What the evaluation publishes (R346). -/
def State.publish (pin : Nat) (s : State) : State :=
  let s := ((((s.wr O.P_IN pin).wr O.VIN s.inputVolts).wr O.IIN s.inputCurrent).wr O.LID_TEMP (s.temperature 0)).wr O.P_IN_PEAK
    (max (s.rd O.P_IN_PEAK) pin)
  let sum := ((List.range 6).map s.railPower).foldl (· + ·) 0
  let eff : Nat := if pin == 0 then 0 else min (1000 * sum / pin) 65535
  let s := s.wr O.EFFICIENCY eff
  let s := (List.range 6).foldl (fun s i => s.wr (O.RAIL_POWER i) (s.railPower i)) s
  let s := (List.range 11).foldl (fun s i => s.wr (O.DIE_TEMP i) (s.temperature (i + 1))) s
  s.modGov (fun x => { x with lastLid := s.temperature 0, energy := x.energy + pin, evalAt := s.clk.now })

/-- GOVERNOR_EVALUATION (R341 to R345), every 10 ms; `pin` is the mean input power of the 10 ms before, in 0.1 W. -/
def State.evaluation (pin : Nat) (s : State) : State :=
  if !s.due (s.gov.evalAt + ms 10) || s.dev == .boot || s.gov.off || s.gov.power == 3 then s
  else
    let s := s.publish pin
    let lid := s.temperature 0
    let cap := 10 * s.rdN O.POWER_CAP
    let lim : Int := 10 * s.rd O.LID_LIMIT
    let overR := decide (cap < pin)
    let hot := decide (lim < lid)
    let good := decide (pin + 80 ≤ cap) && decide (lid + 30 ≤ lim)
    let s := s.modGov (fun x => { x with goodSince := if good then some (x.goodSince.getD s.clk.now) else none,
                                         overSince := if x.step == 11 && (overR || hot) then some (x.overSince.getD s.clk.now) else none })
    match s.mon.distrust with
    | some t =>
      if s.due (t + sec 1) then
        let s := s.closeFor 4
        if s.gov.step < 11 then s.stepDown false false else s
      else s.modGov (fun x => { x with stepped := false })
    | none =>
      let s := if bit s.gov.closedBy 4 then s.openFor 4 else s
      let longOver := match s.gov.overSince with | some t => s.due (t + ms 100) && (overR || hot) | none => false
      let s := if longOver then (let s := if overR then s.closeFor 1 else s; if hot then s.closeFor 3 else s) else s
      let mayRise := match s.gov.goodSince with | some t => s.due (t + sec 1) | none => false
      let rise := mayRise && s.topStep < s.gov.step && s.roomAbove pin (s.railPower 4)
      let s := if rise then (s.openFor 1).openFor 3 else s
      if s.gov.stepped then s.modGov (fun x => { x with stepped := false })
      else if (overR || hot) && s.gov.step < 11 then s.stepDown overR hot
      else if s.gov.step < s.topStep then s.stepDown false false
      else if rise then s.stepUp
      else s

def execGovernorEvaluation (pin : Nat) (s : State) : Host.Outcome State Fault Refusal := s.done (s.evaluation pin)

end Sys2Proof.Machine
end

