-- ==== Sys2Proof/Machine/Sha.lean ====
section
/-!
DEFINITION. SHA-256 over a list of bytes (R449, R460).
-/

namespace Sys2Proof.Machine

/-- Round constants. -/
def shaK : List Nat :=
  [0x428a2f98, 0x71374491, 0xb5c0fbcf, 0xe9b5dba5, 0x3956c25b, 0x59f111f1, 0x923f82a4, 0xab1c5ed5] ++
  [0xd807aa98, 0x12835b01, 0x243185be, 0x550c7dc3, 0x72be5d74, 0x80deb1fe, 0x9bdc06a7, 0xc19bf174] ++
  [0xe49b69c1, 0xefbe4786, 0x0fc19dc6, 0x240ca1cc, 0x2de92c6f, 0x4a7484aa, 0x5cb0a9dc, 0x76f988da] ++
  [0x983e5152, 0xa831c66d, 0xb00327c8, 0xbf597fc7, 0xc6e00bf3, 0xd5a79147, 0x06ca6351, 0x14292967] ++
  [0x27b70a85, 0x2e1b2138, 0x4d2c6dfc, 0x53380d13, 0x650a7354, 0x766a0abb, 0x81c2c92e, 0x92722c85] ++
  [0xa2bfe8a1, 0xa81a664b, 0xc24b8b70, 0xc76c51a3, 0xd192e819, 0xd6990624, 0xf40e3585, 0x106aa070] ++
  [0x19a4c116, 0x1e376c08, 0x2748774c, 0x34b0bcb5, 0x391c0cb3, 0x4ed8aa4a, 0x5b9cca4f, 0x682e6ff3] ++
  [0x748f82ee, 0x78a5636f, 0x84c87814, 0x8cc70208, 0x90befffa, 0xa4506ceb, 0xbef9a3f7, 0xc67178f2]

/-- Initial hash value. -/
def shaH : List Nat :=
  [0x6a09e667, 0xbb67ae85, 0x3c6ef372, 0xa54ff53a, 0x510e527f, 0x9b05688c, 0x1f83d9ab, 0x5be0cd19]

/-- Addition modulo 2^32, rotation and shift right, complement. -/
def add32 (a b : Nat) : Nat := (a + b) % 2 ^ 32
def rotr32 (n x : Nat) : Nat := x / 2 ^ n + x % 2 ^ n * 2 ^ (32 - n)
def not32 (x : Nat) : Nat := 2 ^ 32 - 1 - x % 2 ^ 32

/-- Message schedule: `n` further words after those of `ws` (oldest first). -/
def shaSched : Nat → List Nat → List Nat
  | 0, ws => ws
  | n + 1, ws =>
    let w := fun (k : Nat) => (ws[ws.length - k]?).getD 0
    let s0 := rotr32 7 (w 15) ^^^ rotr32 18 (w 15) ^^^ (w 15 / 2 ^ 3)
    let s1 := rotr32 17 (w 2) ^^^ rotr32 19 (w 2) ^^^ (w 2 / 2 ^ 10)
    shaSched n (ws ++ [add32 (add32 (w 16) s0) (add32 (w 7) s1)])

/-- One round on the eight working variables. -/
def shaRound (v : List Nat) (kw : Nat × Nat) : List Nat :=
  match v with
  | [a, b, c, d, e, f, g, h] =>
    let s1 := rotr32 6 e ^^^ rotr32 11 e ^^^ rotr32 25 e
    let ch := (e &&& f) ^^^ (not32 e &&& g)
    let t1 := add32 (add32 (add32 h s1) (add32 ch kw.1)) kw.2
    let s0 := rotr32 2 a ^^^ rotr32 13 a ^^^ rotr32 22 a
    let mj := (a &&& b) ^^^ (a &&& c) ^^^ (b &&& c)
    [add32 t1 (add32 s0 mj), a, b, c, add32 d t1, e, f, g]
  | _ => v

/-- Big-endian words of a block's bytes. -/
def beWords : List Nat → List Nat
  | a :: b :: c :: d :: r => (a % 256 * 2 ^ 24 + b % 256 * 2 ^ 16 + c % 256 * 2 ^ 8 + d % 256) :: beWords r
  | _ => []

/-- One block of 64 bytes. -/
def shaBlock (h : List Nat) (block : List Nat) : List Nat :=
  let v := (shaK.zip (shaSched 48 (beWords block))).foldl shaRound h
  (h.zip v).map (fun p => add32 p.1 p.2)

/-- The blocks of a padded message: `n` bounds their number. -/
def shaBlocks : Nat → List Nat → List Nat → List Nat
  | 0, _, h => h
  | n + 1, m, h => if m.isEmpty then h else shaBlocks n (m.drop 64) (shaBlock h (m.take 64))

/-- The 32 bytes of the digest of a message. -/
def sha256 (m : List Nat) : List Nat :=
  let pad := List.replicate ((119 - m.length % 64) % 64) 0
  let p := m ++ [128] ++ pad ++ (leBytes 8 (8 * m.length)).reverse
  (shaBlocks (p.length / 64) p shaH).flatMap (fun w => (leBytes 4 w).reverse)

end Sys2Proof.Machine
end

