-- ==== Sys2Proof/Machine/Update.lean ====
section
/-!
DEFINITION. Firmware update (chapter 17): images and their verification (R449, R460), banks and the select word (R450, R451),
sessions from the host (R452 to R456), the decision at Boot (R459, R461), trial and confirmation (R462).
-/

namespace Sys2Proof.Machine

/-! ### Banks, images, the select word -/

def State.bank (s : State) (b : Nat) : Bank := tget (fun _ => {}) s.upd.banks b
def State.setBank (b : Nat) (x : Bank) (s : State) : State := { s with upd := { s.upd with banks := tset b x s.upd.banks } }

/-- Bytes [a, a + n) of an image, as bytes and as a number; a byte never written reads as erased flash, 0xFF (DESIGN CHOICE, log entry 39). -/
def Bank.bytes (x : Bank) (a n : Nat) : List Nat := (List.range n).map (fun i => tget (fun _ => 255) x.image (a + i))
def Bank.field (x : Bank) (a n : Nat) : Nat := ofLe (x.bytes a n)

/-- The digest by which a bank's image is known: its marker's (R449, R450). -/
def Bank.digest (x : Bank) : Option Nat := if x.factory then some Config.factoryDigest else x.marker.map (fun m => m.2)

/-- FW_VERSION of a bank's header; 0 without a marker (R464). -/
def Bank.version (x : Bank) : Nat := if x.factory then Config.fwVersion else if x.marker.isSome then x.field 8 4 else 0

def UpdSt.inactive (u : UpdSt) : Nat := 1 - u.sel.active

/-- The inactive bank is ready: a valid marker and no rejection (R451). -/
def State.spareBankReady (s : State) : Bool :=
  !s.upd.sel.trial && (s.bank s.upd.inactive).marker.isSome && !bit s.upd.sel.rejected s.upd.inactive

/-- One write of the select word: to the older copy, one generation higher (R451). -/
def State.writeSelect (f : Sel → Sel) (s : State) : State :=
  let old := s.upd.sel
  { s with upd := { s.upd with sel := { f old with gen := (old.gen + 1) % 2 ^ 32 }, selOld := some old } }

/-- HEADER_CRC, MAGIC and FORMAT of a header (R449). -/
def Bank.headerGood (x : Bank) : Bool :=
  x.field 0 4 == 0x4D524455 && x.field 4 2 == Config.headerFormat && x.field 252 4 == crc32c (x.bytes 0 252)

/-- A bank's marker and HEADER_CRC, as checked before it is started (R461). -/
def Bank.startable (x : Bank) : Bool := x.factory || (x.marker.isSome && x.field 252 4 == crc32c (x.bytes 0 252))

/-- Verification (R460): 0, or REJECT_REASON of the first test that fails. -/
def Bank.verify (x : Bank) : Nat :=
  if x.factory then 0
  else match x.marker with
    | none => 1
    | some _ =>
      let n := x.field 16 4
      if !x.headerGood then 2
      else if x.field 20 4 != 0x00044280 then 3
      else if Config.hwRevision < x.field 24 2 then 4
      else if !Config.knownKey (x.field 26 2) then 5
      else if n < 256 || 50331648 < n || ofLe (sha256 (x.bytes 256 (n - 256))) != x.field 32 32 then 6
      else if !Config.signatureGood (x.field 26 2) (x.field 0 64) (x.field 64 64) then 7
      else 0

/-- UPD_STATE changes, with its trace entry (R472). -/
def State.setUpd (st : Nat) (s : State) : State :=
  if s.upd.state == st then s
  else
    let s := { s with upd := { s.upd with state := st } }
    s.trace_ 0xC 0 0xFFFF (st + s.upd.source * 2 ^ 8 + s.upd.outcome * 2 ^ 16)

/-! ### Sessions (R452 to R455) -/

/-- Source of a host path (R452). -/
def pathSource (p : Path) : Nat := if p == .od then 2 else 1

/-- How R453 judges an update of a length and digest from a source. -/
inductive Verdict where
  | tooLarge | dup | busy | held | opened
  deriving DecidableEq, Repr

def State.judgeUpdate (s : State) (len digest : Nat) : Verdict :=
  if len < 256 || 50331648 < len then .tooLarge
  else match s.upd.session with
    | some x => if x.digest == digest then .dup else .busy
    | none =>
      if s.upd.sel.trial then .busy
      else if (s.bank s.upd.sel.active).digest == some digest || (s.spareBankReady && (s.bank s.upd.inactive).digest == some digest) then .held
      else .opened

/-- What the verdict does: a session opens and replaces the staging, forwarding of the old one ends (R453, R457). -/
def State.beginUpdate (v : Verdict) (src len digest : Nat) (s : State) : State :=
  match v with
  | .dup =>
    match s.upd.session with
    | some x =>
      let y : Session := { x with dups := src :: x.dups.filter (· != src) }
      if x.source == src then s else { s with upd := { s.upd with session := some y } }
    | none => s
  | .held => s.setUpd 5
  | .opened =>
    let x : Session := { source := src, len := len, digest := digest, last := s.clk.now }
    let s := { s with upd := { s.upd with session := some x, source := src, staging := [], staged := none, fwd := [] },
                      pond := { s.pond with stagingDamaged := false } }
    let s := { s with upd := { s.upd with state := 0 } }
    s.setUpd 1
  | _ => s

/-- UPDATE_BEGIN (R453). -/
def cmdUpdateBegin (p : Path) (s : State) : WRes :=
  let len := s.rdN (win p O.UPD_LENGTH)
  let digest := s.rdN (win p O.UPD_DIGEST)
  match s.judgeUpdate len digest with
  | .tooLarge => bad Why.UPDATE_TOO_LARGE
  | .busy => notNow Why.UPDATE_BUSY
  | v => .ok (s.beginUpdate v (pathSource p) len digest)

/-- The session ends FAILED, its staging discarded. -/
def State.failSession (s : State) : State :=
  { s with upd := { s.upd with session := none, staging := [], staged := none } }.setUpd 4

/-- Bytes are staged at an offset (R454): a byte written twice keeps its later value. -/
def State.stage (off : Nat) (bs : List Nat) (s : State) : State :=
  let t := bs.zipIdx.foldl (fun t e => tset (off + e.2) (e.1 % 256) t) s.upd.staging
  let x := s.upd.session.map (fun (x : Session) => { x with last := s.clk.now })
  let lines := (bs.zipIdx.map (fun e => (off + e.2) / 64)).eraseDups
  (lines.foldl (fun (s : State) l => s.written 2 (stagingLine0 + l)) { s with upd := { s.upd with staging := t, session := x } }).serve 5 bs.length

/-- UPD_LENGTH, UPD_DIGEST: refused while the path's source holds a session (R453). -/
def writeUpdParam (p : Path) (k : Nat) (v : Int) (s : State) : WRes :=
  match s.upd.session with
  | some x => if x.source == pathSource p then notNow Why.UPDATE_BUSY else .ok (s.wr (win p k) v)
  | none => .ok (s.wr (win p k) v)

/-- UPD_DATA (R454): the bytes as a little-endian number of `len` bytes. -/
def writeUpdData (p : Path) (len : Nat) (v : Int) (s : State) : WRes :=
  match s.upd.session with
  | none => notNow Why.UPDATE_NO_SESSION
  | some x =>
    if x.source != pathSource p then (if x.dups.contains (pathSource p) then .ok s else notNow Why.UPDATE_NO_SESSION)
    else
      let off := s.rdN (win p O.UPD_OFFSET)
      if x.len < off + len then bad Why.VALUE_RANGE
      else .ok ((s.stage off (leBytes len v.toNat)).wr (win p O.UPD_OFFSET) (off + len : Nat))

/-- UPD_DATA as a command: its data length is `len`. -/
def execUpdData (p : Path) (len : Nat) (v : Int) (s : State) : Host.Outcome State Fault Refusal :=
  let a : Acc := { path := p, write := true, idx := 0x5800, sub := 6, len := len, v := v }
  s.done (s.access a (fun s => s.serveWrite a 0 s.clk.now (fun s =>
    match writeCheck a.idx a.sub len v with | .ok _ => writeUpdData p len v s | .error r => .error r)))

/-- SESSION_INACTIVITY (R454): a session in RECEIVING without data for 60 s. -/
def State.inactivity (s : State) : State :=
  match s.upd.session with
  | some x => if x.due.isNone && s.due (x.last + sec 60) then s.failSession else s
  | none => s

def execSessionInactivity (s : State) : Host.Outcome State Fault Refusal := s.done s.inactivity

/-- UPD_ABORT (R455): from the source's path, while RECEIVING. -/
def writeUpdAbort (p : Path) (s : State) : WRes :=
  match s.upd.session with
  | some x =>
    if x.source != pathSource p then notNow Why.UPDATE_NO_SESSION
    else if x.due.isSome then notNow Why.UPDATE_BUSY
    else .ok s.failSession
  | none => notNow Why.UPDATE_NO_SESSION

def execUpdAbort (p : Path) (v : Int) (s : State) : Host.Outcome State Fault Refusal :=
  s.done (s.write p O.UPD_ABORT v (writeUpdAbort p))

/-- UPDATE_END judged for a source (R456): the refusal, and the state it leaves; or WRITING begun. The bank is written within 100 ms
for each block of 256 KiB. -/
def State.endUpdate (src : Nat) (s : State) : State × Option Nat :=
  match s.upd.session with
  | none => (s, some Why.UPDATE_NO_SESSION)
  | some x =>
    if x.source != src || x.due.isSome then (s, some Why.UPDATE_NO_SESSION)
    else if s.upd.staging.length < x.len then (s, some Why.UPDATE_INCOMPLETE)
    else if s.pond.stagingDamaged then (s.failSession, some Why.UPDATE_STAGING_ERROR)
    else
      let b := if s.gov.boot == 3 then 0 else s.upd.inactive
      let s := s.writeSelect (fun w => { w with candidate := none, rejected := setBit w.rejected b false })
      let span := s.fv (ceilDiv x.len 262144 * ms 100 + 1)
      let s := s.adv.setBank b {}
      let y : Session := { x with due := some (s.clk.now + span) }
      ({ s with upd := { s.upd with session := some y } }.setUpd 2, none)

/-- BANK_WRITE_COMPLETE (R456): marker and CANDIDATE, or FAILED after a block failed twice, but for the answer to a neighbour and the
forwarding. -/
def State.bankWritten (good : Bool) (s : State) : State :=
  match s.upd.session with
  | some x =>
    if !good then s.failSession
    else
      let b := if s.gov.boot == 3 then 0 else s.upd.inactive
      let s := s.setBank b { image := s.upd.staging, marker := some (x.len, x.digest) }
      let s := s.writeSelect (fun w => { w with candidate := some b })
      { s with upd := { s.upd with session := none, staged := some (x.len, x.digest) } }.setUpd 3
  | none => s

/-- Is the bank's writing over? -/
def State.bankDue (s : State) : Bool :=
  match s.upd.session with
  | some x => (match x.due with | some t => s.due t | none => false)
  | none => false

/-! ### Boot, trial, confirmation (R459 to R462) -/

/-- The release on trial gives way to the other bank (R459). -/
def State.revert (outcome : Nat) (s : State) : State :=
  let s := s.writeSelect (fun w => { w with active := 1 - w.active, trial := false, boots := 0, rejected := setBit w.rejected w.active true })
  { s with upd := { s.upd with outcome := outcome } }

/-- Start the active bank, or the other one if it verifies, or serve from the boot ROM (R461). -/
def State.startBank (s : State) : State :=
  let b := s.upd.sel.active
  let run := fun (s : State) => s.modGov (fun g => { g with boot := 2 })
  if (s.bank b).startable then run s
  else if (s.bank (1 - b)).verify == 0 then
    let s := s.writeSelect (fun w => { w with active := 1 - b, trial := false, boots := 0 })
    run { s with upd := { s.upd with outcome := 6 } }
  else
    let s := s.modGov (fun g => { g with boot := 3 })
    { s with fault := { s.fault with faultN := true } }

/-- FIRMWARE_BOOT_DECISION (R459). -/
def State.bootDecision (s : State) : State :=
  if s.dev != .boot || s.gov.boot != 1 then s
  else
    let w := s.upd.sel
    let s :=
      if w.trial then
        if w.boots == 3 then s.revert 4 else s.writeSelect (fun w => { w with boots := w.boots + 1 })
      else match w.candidate with
        | some c =>
          let r := (s.bank c).verify
          if r == 0 then
            let s := s.writeSelect (fun w => { w with active := c, trial := true, boots := 1, candidate := none })
            { s with upd := { s.upd with outcome := 1, reject := 0 } }
          else
            let s := s.writeSelect (fun w => { w with candidate := none, rejected := setBit w.rejected c true })
            { s with upd := { s.upd with outcome := 2, reject := r } }
        | none => s
    s.startBank

def execFirmwareBootDecision (s : State) : Host.Outcome State Fault Refusal := s.done s.bootDecision

/-- CONFIRM (R462). -/
def writeConfirm (s : State) : WRes :=
  if !s.upd.sel.trial then notNow Why.UPDATE_NOT_PENDING
  else
    let s := s.writeSelect (fun w => { w with trial := false, boots := 0 })
    .ok { s with upd := { s.upd with trialEnd := none, outcome := 5 } }

def execConfirm (p : Path) (v : Int) (s : State) : Host.Outcome State Fault Refusal := s.done (s.write p O.CONFIRM v writeConfirm)

/-- Reset Node resets as RESET_N does, once a flash write in progress has ended (R378): the commit, the layering map and the fault
records end well; a bank being written is left without a marker (R456). -/
def State.resetModule (s : State) : State :=
  let s := if s.dress.commit.isSome then s.commitComplete true false else s
  let s := if s.layer.mapDue.isSome then s.mapWrite else s
  s.faultFlash.beginBoot

/-- TRIAL_TIMEOUT (R462): 600 s without confirmation. -/
def State.trialTimeout (s : State) : State :=
  match s.upd.trialEnd with
  | some t => if s.due t && !s.gov.off then (s.revert 3).resetModule else s
  | none => s

def execTrialTimeout (s : State) : Host.Outcome State Fault Refusal := s.done s.trialTimeout

end Sys2Proof.Machine
end

