-- ==== Sys2Proof/Machine/Tail.lean ====
section
/-!
DEFINITION. The commands of the Tailrace and the Hedge (chapter 16): lanes, frames and their credits (R425 to R432), deliveries (R433,
R434), epoch records (R438), bulk gate loads (R431), roles of the CTB lines (R440).
-/

namespace Sys2Proof.Machine

/-! ### Frames (R425) -/

/-- Zero bytes up to `n`. -/
def padTo (n : Nat) (bs : List Nat) : List Nat := bs ++ List.replicate (n - bs.length) 0

/-- LENGTH: a multiple of 4 from 64, the 16 header bytes and the CRC included. -/
def Frame.len (f : Frame) : Nat := max 64 (ceilDiv (f.data.length + 20) 4 * 4)

/-- A frame's bytes, the CRC last. -/
def Frame.bytes (f : Frame) : List Nat :=
  let b := padTo (f.len - 4)
    ([0xFB, f.typ % 256, f.stream % 16, f.flags % 256] ++ leBytes 2 f.len ++ leBytes 2 f.seq ++ leBytes 2 f.ack ++ [f.creditStream % 16, 0]
      ++ leBytes 2 f.creditTotal ++ leBytes 2 f.streamSeq ++ f.data)
  b ++ leBytes 4 (crc32c b)

/-- Bytes [a, a + n) as a number. -/
def fieldOf (bs : List Nat) (a n : Nat) : Nat := ofLe ((bs.drop a).take n)

/-- The frame that bytes spell, unless its LENGTH, its start or its CRC is bad (R425). -/
def Frame.parse (bs : List Nat) : Option Frame :=
  let l := bs.length
  if l < 64 || 4096 < l || l % 4 != 0 || fieldOf bs 4 2 != l || bs.head? != some 0xFB || fieldOf bs (l - 4) 4 != crc32c (bs.take (l - 4)) then none
  else
    some { typ := fieldOf bs 1 1, stream := fieldOf bs 2 1 % 16, flags := fieldOf bs 3 1, seq := fieldOf bs 6 2, ack := fieldOf bs 8 2,
           creditStream := fieldOf bs 10 1 % 16, creditTotal := fieldOf bs 12 2, streamSeq := fieldOf bs 14 2,
           data := (bs.take (l - 4)).drop 16 }

/-! ### Streams, credits, sending (R429, R432) -/

/-- Where a link's stream is kept: streams 0 to 15 of the Tailrace, 16 and 17 for stream 1 of the Hedge sides. -/
def streamKey (g n : Nat) : Nat := if g < 4 then n else 12 + g

def State.stream (s : State) (k : Nat) : Stream := tget (fun _ => {}) s.tail.streams k
def State.setStream (k : Nat) (x : Stream) (s : State) : State := { s with tail := { s.tail with streams := tset k x s.tail.streams } }
def State.nb (s : State) (g : Nat) : Neighbour := tget (fun _ => {}) s.tail.sides (g - 4)
def State.setNb (g : Nat) (x : Neighbour) (s : State) : State := { s with tail := { s.tail with sides := tset (g - 4) x s.tail.sides } }

/-- What a frame costs: one frame on stream 0 of the Tailrace, else 64-byte units. -/
def Frame.cost (g : Nat) (f : Frame) : Nat := if g < 4 && f.stream == 0 then 1 else ceilDiv f.len 64

/-- Credit left on a stream: the partner's total less what was used, modulo 65,536. -/
def Stream.credit (x : Stream) : Nat := (x.granted + 65536 - x.used) % 65536

/-- Bytes in a link's replay buffer of 64 KiB. -/
def Link.held (k : Link) : Nat := (k.replay.map (fun e => e.frame.len)).foldl (· + ·) 0

/-- May a frame leave on its link now: ACTIVE, with room in the replay buffer? -/
def State.roomFor (s : State) (g len : Nat) : Bool := s.tailRuns && s.linkActive g && decide ((s.link g).held + len ≤ 65536)

def State.sendable (s : State) (g : Nat) (f : Frame) : Bool :=
  s.roomFor g f.len && decide (f.cost g ≤ (s.stream (streamKey g f.stream)).credit)

/-- A frame leaves: it takes its numbers, the acknowledgement, a credit total and credit, and a copy stays in the replay buffer. Which
stream's total it carries is free. -/
def State.sendNow (g : Nat) (f : Frame) (s : State) : State :=
  let k := s.link g
  let x := s.stream (streamKey g f.stream)
  let one := 4 ≤ g || s.fv 2 == 1
  let f : Frame := { f with
    flags := setBit f.flags 2 k.nak, seq := k.nextTx, ack := (k.nextRx + 65535) % 65536, creditStream := b2n one,
    creditTotal := if 4 ≤ g then (s.nb g).grants else if one then s.tail.grant1 else s.tail.grant0, streamSeq := x.txSeq }
  let sent : Sent := { frame := f, first := s.clk.now, last := s.clk.now }
  let s := s.adv.setLink g { k with nextTx := (k.nextTx + 1) % 65536, nak := false, replay := k.replay ++ [sent] }
  let s := s.setStream (streamKey g f.stream) { x with used := (x.used + f.cost g) % 65536, txSeq := (x.txSeq + 1) % 65536 }
  if g < 4 then (s.wr O.FRAMES_SENT (min (s.rd O.FRAMES_SENT + 1) (2 ^ 64 - 1 : Nat))).bump 418 else s

/-- Waiting frames leave in order, stream by stream: a stream without credit holds up no other. -/
def State.flush (s : State) : State :=
  let step := fun (acc : State × List (Nat × Nat)) (e : Nat × Frame) =>
    if !acc.2.contains (e.1, e.2.stream) && acc.1.sendable e.1 e.2 then (acc.1.sendNow e.1 e.2, acc.2)
    else ({ acc.1 with tail := { acc.1.tail with out := acc.1.tail.out ++ [e] } }, (e.1, e.2.stream) :: acc.2)
  ((s.tail.out.foldl step ({ s with tail := { s.tail with out := [] } }, [])).1)

/-- A frame of the module's own joins the waiting ones. -/
def State.submit (g : Nat) (f : Frame) (s : State) : State :=
  { s with tail := { s.tail with out := s.tail.out ++ [(g, f)] } }.flush

/-- Frames wait for a link: no further one is made for it, as the queues to the TAIL domain hold 16 KiB (R15, R23). -/
def State.outWaits (s : State) (g : Nat) : Bool := s.tail.out.any (fun e => e.1 == g)

/-- A frame has left the queue of stream 0, or of a stream 1: its credit returns (R432). -/
def State.returnCredit (g : Nat) (f : Frame) (s : State) : State :=
  let n := f.cost g
  if 4 ≤ g then
    let x := s.nb g
    s.setNb g { x with grants := (x.grants + n) % 65536 }
  else if f.stream == 0 then { s with tail := { s.tail with grant0 := (s.tail.grant0 + n) % 65536 } }
  else { s with tail := { s.tail with grant1 := (s.tail.grant1 + n) % 65536 } }

/-! ### Replay (R429) -/

/-- The lanes that a replay is charged to. -/
def State.charged (s : State) (g : Nat) : List Nat :=
  let ms := (s.members g).filter (fun l => (s.lane l).st != 7)
  let rose := ms.filter (fun l => (s.lane l).rose)
  if rose.isEmpty then ms else rose

/-- The frames of the buffer that `due` chooses are sent again, in order, and charged to the wear of lanes. -/
def State.replay (g : Nat) (due : Sent → Bool) (s : State) : State :=
  let k := s.link g
  let n := (k.replay.filter due).length
  if n == 0 then s
  else
    let again := fun (e : Sent) => if due e then { e with frame := { e.frame with flags := setBit e.frame.flags 1 true }, last := s.clk.now } else e
    let lanes := s.charged g
    let s := s.setLink g { k with replay := k.replay.map again }
    let s := if g < 4 then (s.satBy O.REPLAYS n).bumpBy (410 + g) n else (s.satBy O.HEDGE_REPLAYS n).bumpBy (410 + g) n
    let s := lanes.foldl (fun s l => (List.range n).foldl (fun s _ => s.wearEvent (linkUnit g) (laneSlice l) 7 0 0) s) s
    (s.members g).foldl (fun s l => s.modLane l (fun y => { y with rose := false })) s

/-- Frames the partner has received are dropped from the buffer. -/
def Link.acked (ack : Nat) (k : Link) : Link :=
  match k.replay.findIdx? (fun e => e.frame.seq == ack) with
  | some i => { k with replay := k.replay.drop (i + 1) }
  | none => k

/-- REPLAY_TIMEOUT: frames unacknowledged 20 us after their last sending. -/
def State.replayTimeout (g : Nat) (s : State) : State :=
  if s.tailRuns && s.linkActive g then s.replay g (fun e => s.due (e.last + us 20)) else s

def execReplayTimeout (g : Nat) (s : State) : Host.Outcome State Fault Refusal := s.done (s.replayTimeout g)

/-- REPLAY_ESCALATION: a frame unacknowledged 50 us after its first sending; the link trains again. -/
def State.escalate (g : Nat) (s : State) : State :=
  let k := s.link g
  if 6 ≤ g || !s.tailRuns || !s.linkActive g || !k.replay.any (fun e => s.due (e.first + us 50)) then s
  else (((s.sat O.ESCALATIONS).bump 416).setLink g { k with escalating := true }).retrain [g] false

def execReplayEscalation (g : Nat) (s : State) : Host.Outcome State Fault Refusal := s.done (s.escalate g)

/-! ### Forwarding (R457) -/

def State.fwd (s : State) (k : Nat) : Fwd := tget (fun _ => {}) s.upd.fwd k
def State.setFwd (k : Nat) (x : Fwd) (s : State) : State := { s with upd := { s.upd with fwd := tset k x s.upd.fwd } }

/-- An UPDATE frame: OFFSET, BYTES and content (R428). -/
def updFrame (off : Nat) (bs : List Nat) : Frame :=
  { typ := 8, stream := 1, data := padTo 16 (leBytes 4 off ++ leBytes 2 bs.length) ++ bs }

/-- The control frames' OFFSETs. -/
def offerAt : Nat := 0xFFFFFFF0
def answerAt : Nat := 0xFFFFFFF1
def endAt : Nat := 0xFFFFFFF2

/-- Bytes [a, a + n) of the staged image. -/
def State.stagedBytes (s : State) (a n : Nat) : List Nat := (List.range n).map (fun i => tget (fun _ => 0) s.upd.staging (a + i))

/-- The forwarder of side k offers the image, or waits for the side to be ACTIVE with no frame waiting. -/
def State.offer (k : Nat) (s : State) : State :=
  if s.tailRuns && s.linkActive (4 + k) && !s.outWaits (4 + k) then
    let x := s.fwd k
    (s.setFwd k { state := 2, asked := some s.clk.now, failed := x.failed }).submit (4 + k) (updFrame offerAt (s.stagedBytes 0 256))
  else s.setFwd k { state := 1, failed := (s.fwd k).failed }

/-- The image, then END, in as many frames as credit and the replay buffer allow; each call sends one frame. -/
def State.pushOne (k : Nat) (s : State) : State :=
  let x := s.fwd k
  let n := match s.upd.staged with | some e => e.1 | none => 0
  if x.state != 3 || x.ended || s.outWaits (4 + k) then s
  else
    let m := min 4032 (n - x.sent)
    let f := if m == 0 then updFrame endAt [] else updFrame x.sent (s.stagedBytes x.sent m)
    if !s.sendable (4 + k) f then s
    else if m == 0 then (s.sendNow (4 + k) f).setFwd k { x with ended := true, asked := some s.clk.now }
    else (s.sendNow (4 + k) f).setFwd k { x with sent := x.sent + m }

/-- A replay buffer holds at most 1,024 frames. -/
def State.push (k : Nat) (s : State) : State := (List.range 1024).foldl (fun s _ => s.pushOne k) s

/-- What a change of links, credits or room sets going: waiting frames, waiting forwarders, image data. -/
def State.kick (s : State) : State :=
  let s := s.flush
  let s := [0, 1].foldl (fun s k => if (s.fwd k).state == 1 && s.linkActive (4 + k) then s.offer k else s) s
  [0, 1].foldl (fun s k => if (s.fwd k).state == 3 then s.push k else s) s

/-- Forwarding starts on the enabled sides that are not the source (3 west, 4 east). -/
def State.forward (src : Nat) (s : State) : State :=
  [0, 1].foldl (fun s k => if bit (s.rdN O.FORWARD_ENABLE) k && src != k + 3 then (s.setFwd k {}).offer k else s) s

/-- FORWARD_RETRY: after 1 s without an answer the next offer is 10 s off; then it is made. -/
def State.forwardRetry (k : Nat) (s : State) : State :=
  let x := s.fwd k
  match x.asked, x.retryAt with
  | some t, _ => if s.due (t + sec 1) then s.setFwd k { x with asked := none, retryAt := some (s.clk.now + sec 10) } else s
  | none, some t => if s.due t then s.offer k else s
  | none, none => s

def execForwardRetry (k : Nat) (s : State) : Host.Outcome State Fault Refusal := s.done (if k < 2 then s.forwardRetry k else s)

/-! ### UPDATE frames (R454, R457, R458) -/

/-- What the front of the queue of UPDATE frames is, and the queue without it. -/
def State.popUpd (s : State) (mine : Nat → Nat → Bool) : Option (Nat × Frame × State) :=
  match s.tail.updQueue with
  | (g, f) :: r =>
    if mine g (fieldOf f.data 0 4) then some (g, f, { s with tail := { s.tail with updQueue := r } }.returnCredit g f) else none
  | [] => none

/-- The content of an UPDATE frame. -/
def Frame.image (f : Frame) : List Nat := (f.data.drop 16).take (fieldOf f.data 4 2)

/-- UPDATE_FRAME: image data from the host or a neighbour. A frame of a side that is not the source is dropped. -/
def State.updateFrame (s : State) : State :=
  if !s.storeServes && s.gov.boot != 3 then s
  else
    match s.popUpd (fun g off => g < 4 || (off != offerAt && off != answerAt && off != endAt)) with
    | none => s
    | some (g, f, s) =>
      let off := fieldOf f.data 0 4
      let src := if g < 4 then 2 else g - 1
      let fits := match s.upd.session with
        | some x => x.source == src && decide (off + f.image.length ≤ x.len) && decide (off < offerAt)
        | none => false
      if fits then s.stage off f.image else if g < 4 then s.sat O.UPD_DISCARDED else s

def execUpdateFrame (s : State) : Host.Outcome State Fault Refusal := s.done s.updateFrame

/-- The answer to a neighbour. -/
def State.answer (g code : Nat) (s : State) : State := s.submit g (updFrame answerAt [code, 0, 0, 0])

/-- HEDGE_OFFER: judged as UPDATE_BEGIN with the header's length and digest. -/
def State.hedgeOffer (s : State) : State :=
  if s.dev == .sleep then s
  else
    match s.popUpd (fun g off => 4 ≤ g && off == offerAt && !s.outWaits g) with
    | none => s
    | some (g, f, s) =>
      let len := fieldOf f.image 16 4
      let digest := fieldOf f.image 32 32
      let v := s.judgeUpdate len digest
      let code := match v with | .tooLarge => 5 | .dup => 3 | .busy => 2 | .held => 1 | .opened => 0
      (s.beginUpdate v (g - 1) len digest).answer g code

def execHedgeOffer (s : State) : Host.Outcome State Fault Refusal := s.done s.hedgeOffer

/-- HEDGE_END: judged as UPDATE_END; refused at steps 2 or 3 it is answered FAILED, accepted it is answered when the writing is over. -/
def State.hedgeEnd (s : State) : State :=
  if s.dev == .sleep then s
  else
    match s.popUpd (fun g off => 4 ≤ g && off == endAt && !s.outWaits g) with
    | none => s
    | some (g, _, s) =>
      let r := s.endUpdate (g - 1)
      match r.2 with
      | none => r.1
      | some why => if why == Why.UPDATE_NO_SESSION then r.1 else r.1.answer g 5

def execHedgeEnd (s : State) : Host.Outcome State Fault Refusal := s.done s.hedgeEnd

/-- HEDGE_ANSWER (R457). -/
def State.hedgeAnswer (s : State) : State :=
  match s.popUpd (fun g off => 4 ≤ g && off == answerAt) with
  | none => s
  | some (g, f, s) =>
    let k := g - 4
    let x := s.fwd k
    let again := { x with asked := none, retryAt := some (s.clk.now + sec 10) }
    if x.state != 2 && x.state != 3 then s
    else
      match fieldOf f.image 0 1 with
      | 0 => if x.state == 2 then (s.setFwd k { state := 3, failed := x.failed }).push k else s
      | 1 => s.setFwd k { state := 5 }
      | 2 => s.setFwd k again
      | 3 => s.setFwd k { state := 5 }
      | 4 => s.setFwd k { state := 4 }
      | 5 => s.setFwd k (if 2 ≤ x.failed then { state := 6, failed := x.failed + 1 } else { again with failed := x.failed + 1 })
      | _ => s

def execHedgeAnswer (s : State) : Host.Outcome State Fault Refusal := s.done s.hedgeAnswer

/-- BANK_WRITE_COMPLETE (R456 to R458): WRITTEN or FAILED, the neighbour's answer, and forwarding. -/
def State.bankWriteComplete (good : Bool) (s : State) : State :=
  match s.upd.session with
  | some x =>
    if !s.bankDue then s
    else
      let t := s.bankWritten good
      let t := if 3 ≤ x.source then t.answer (x.source + 1) (if good then 4 else 5) else t
      if good && s.gov.boot != 3 then t.forward x.source else t
  | none => s

def execBankWriteComplete (good : Bool) (s : State) : Host.Outcome State Fault Refusal := s.done (s.bankWriteComplete good)

/-! ### Reception (R427, R429, R432, R437) -/

/-- Credit from the partner: totals only rise; a STALLED delivery resumes (R432, R434). -/
def State.creditIn (g : Nat) (f : Frame) (s : State) : State :=
  let k := streamKey g f.creditStream
  let x := s.stream k
  let up := (f.creditTotal + 65536 - x.granted) % 65536
  if (4 ≤ g && f.creditStream != 1) || up == 0 || 32768 < up then s
  else s.setStream k { x with granted := f.creditTotal, state := if x.state == 2 then 1 else x.state, lackSince := none }

/-- The units of 64 bytes that a sender's UPDATE frames take in their queue: the host's on stream 1, each neighbour's (DEDUCED, log entry 95). -/
def State.updUsed (s : State) (g : Nat) : Nat :=
  let mine := s.tail.updQueue.filter (fun e => (e.1 < 4) == (g < 4) && (g < 4 || e.1 == g))
  (mine.map (fun e => ceilDiv e.2.len 64)).foldl (· + ·) 0

/-- An UPDATE frame joins the queue to the POND domain: 16 KiB, 256 units of 64 bytes, of each sender, as granted (R23, R432); one that
overruns it is discarded. -/
def State.queueUpd (g : Nat) (f : Frame) (s : State) : State :=
  if s.updUsed g + ceilDiv f.len 64 ≤ 256 then { s with tail := { s.tail with updQueue := s.tail.updQueue ++ [(g, { f with stream := 1 })] } }
  else s.sat (if g < 4 then O.FRAMES_DISCARDED else O.HEDGE_DISCARDED)

/-- A frame received in order goes where its TYPE says; a queue that the sender overran takes no more. -/
def State.dispatch (g : Nat) (f : Frame) (s : State) : State :=
  if 4 ≤ g then
    if f.typ == 8 then s.queueUpd g f else s.sat O.HEDGE_DISCARDED
  else if f.typ == 6 then
    let q : OdReq := { group := g, tag := fieldOf f.data 0 2, op := fieldOf f.data 2 1, idx := fieldOf f.data 4 2, sub := fieldOf f.data 6 1,
                       data := (f.data.drop 24).take (fieldOf f.data 8 4) }
    if s.tail.odQueue.length < 8 then { s with tail := { s.tail with odQueue := s.tail.odQueue ++ [q] } } else s.sat O.FRAMES_DISCARDED
  else if f.typ == 8 then s.queueUpd g f
  else s.sat O.FRAMES_DISCARDED

/-- FRAME_RECEIVED: bytes from a SOF on. -/
def State.frameReceived (g : Nat) (bytes : List Nat) (s : State) : State :=
  if 6 ≤ g || !s.tailRuns || !s.linkActive g || (s.gov.boot == 3 && g != 0) then s
  else
    match Frame.parse bytes with
    | none =>
      let s := s.setLink g { s.link g with nak := true }
      if g < 4 then (s.sat O.CRC_ERRORS).bump 420 else s
    | some f =>
      let s := (s.setLink g ((s.link g).acked f.ack)).creditIn g f
      let s := if bit f.flags 2 then s.replay g (fun _ => true) else s
      let k := s.link g
      let ahead := (f.seq + 65536 - k.nextRx) % 65536
      let s :=
        if f.typ == 0 then
          let s := if ahead != 0 && ahead < 32768 then s.setLink g { k with nak := true } else s
          if 4 ≤ g then s.setNb g { s.nb g with record := some ((s.idx / 800).toNat % 2 ^ 32, f.data.take 16) } else s
        else if ahead == 0 then
          let s := s.setLink g { k with nextRx := (k.nextRx + 1) % 65536, nak := false }
          let s := if g < 4 then (s.wr O.FRAMES_RECEIVED (min (s.rd O.FRAMES_RECEIVED + 1) (2 ^ 64 - 1 : Nat))).bump 419 else s
          s.dispatch g f
        else if ahead < 32768 then s.setLink g { k with nak := true }
        else s
      s.kick

def execFrameReceived (g : Nat) (bytes : List Nat) (s : State) : Host.Outcome State Fault Refusal := s.done (s.frameReceived g bytes)

/-- HEDGE_EPOCH_RECORD (R438): latency and offset from the record of the last IDLE frame; sixteen in a row within one cycle, both
modules DISCIPLINED, make the side EPOCH_ALIGNED. -/
def State.epochRecord (g : Nat) (s : State) : State :=
  let x := s.nb g
  match x.record with
  | some (t4, r) =>
    let sent := fieldOf r 4 4
    let trip := wrapU 32 ((t4 : Int) - fieldOf r 8 4 - fieldOf r 12 2)
    let lat := trip / 2
    let off := wrapS 32 ((sent : Int) + lat - t4)
    let good := off.natAbs ≤ 1 && fieldOf r 14 1 == 2 && !s.unref
    s.setNb g { x with epoch := fieldOf r 0 4, offset := off, latency := min lat 65535, run := if good then min (x.run + 1) 16 else 0,
                       echo := sent, arrived := t4, record := none }
  | none => s

def execHedgeEpochRecord (g : Nat) (s : State) : Host.Outcome State Fault Refusal :=
  s.done (if 4 ≤ g && g < 6 then s.epochRecord g else s)

/-- The epoch record that the module's own IDLE frames carry on a side (R438). -/
def State.ownRecord (s : State) (g : Nat) : List Nat :=
  let now := (s.idx / 800).toNat % 2 ^ 32
  let x := s.nb g
  leBytes 4 s.dir.epochs ++ leBytes 4 now ++ leBytes 4 x.echo ++ leBytes 2 (wrapU 32 ((now : Int) - x.arrived)) ++ [s.fan.tb, 0]

/-! ### Lanes -/

def execMarkerBoundary (inv : List (Nat × Nat)) (s : State) : Host.Outcome State Fault Refusal := s.done (s.markerBoundary inv).kick

def execMarkerReceived (l : Nat) (m : List Nat) (s : State) : Host.Outcome State Fault Refusal :=
  s.done (if l < 26 then s.markerReceived l m else s)

def execSymbolLock (l skew : Nat) (s : State) : Host.Outcome State Fault Refusal := s.done (if l < 26 then s.symbolLock l skew else s)

def execLaneLossOfLock (l n : Nat) (s : State) : Host.Outcome State Fault Refusal := s.done (if l < 26 then s.laneLoss l n else s)

def execLaneLockTimeout (l : Nat) (s : State) : Host.Outcome State Fault Refusal := s.done (if l < 26 then s.lockTimeout l else s)

def execLaneRejoin (l : Nat) (s : State) : Host.Outcome State Fault Refusal := s.done (if l < 26 then (s.laneRejoin l).kick else s)

/-- The eight symbols of the marker that a lane sends (R421). -/
def State.marker (s : State) (l : Nat) : List Nat :=
  let x := s.lane l
  let inside := x.st == 3
  let map := if inside then x.group % 4 * 64 + s.width x.group * 8 + s.position l else x.group % 4 * 64
  let dress := s.dress.passes.any (fun p => p.unit == linkUnit x.group && p.lane == l && 2 ≤ p.stage)
  let body := [laneSlice l, map] ++ leBytes 2 s.tail.markers ++ [at_ x.rxOk 0 + at_ (dress || x.st == 6) 1 + at_ (x.st == 4) 2, 0]
  [0x7C] ++ body ++ [crc8 body]

/-- LANE_ENABLE (R419): in force at the next marker boundary. -/
def execLaneEnableWrite (p : Path) (v : Int) (s : State) : Host.Outcome State Fault Refusal :=
  s.done (s.write p O.LANE_ENABLE v (State.put O.LANE_ENABLE v))

/-! ### Deliveries (R433, R434) -/

/-- The stream that the shared window selects. -/
def State.streamRow (s : State) : Nat := s.rdN O.STREAM_ROW

/-- RUNNING or STALLED. -/
def Stream.open_ (x : Stream) : Bool := x.state == 1 || x.state == 2

/-- Parameters of the selected stream, sub-index 2 to 6 (R445). -/
def writeStreamField (sub : Nat) (v : Int) (s : State) : WRes :=
  let x := s.stream s.streamRow
  let n := v.toNat
  if x.open_ then notNow Why.TAIL_STREAM_OPEN
  else .ok (s.setStream s.streamRow (match sub with
    | 2 => { x with group := n }
    | 3 => { x with kind := n }
    | 4 => { x with a := n }
    | 5 => { x with b := n }
    | _ => { x with chans := n }))

/-- STREAM_GO: a delivery starts; kind 5 requests its snapshot. Kind 0 starts none. -/
def writeStreamGo (s : State) : WRes :=
  let n := s.streamRow
  let x := s.stream n
  let go := fun (s : State) => s.setStream n { x with state := 1, frames := 0, unit := 0, ch := 0, pos := 0, lackSince := none }
  if x.open_ then notNow Why.TAIL_STREAM_OPEN
  else if x.kind == 0 then .ok s
  else if x.kind == 5 then
    match s.requestSnap x.a (some n) with
    | .ok t => .ok (go t)
    | .error r => .error r
  else .ok (go s)

def execStreamGo (p : Path) (v : Int) (s : State) : Host.Outcome State Fault Refusal := s.done (s.write p O.STREAM_GO v writeStreamGo)

/-- A delivery is over: its snapshot is released (R245). -/
def State.endStream (n st : Nat) (s : State) : State :=
  (s.setStream n { s.stream n with state := st, lackSince := none }).dropSnaps (fun x => x.tail == some n)

/-- STREAM_ABORT: without effect on a stream that delivers nothing. -/
def writeStreamAbort (s : State) : WRes :=
  let n := s.streamRow
  .ok (if (s.stream n).open_ then s.endStream n 4 else s)

def execStreamAbort (p : Path) (v : Int) (s : State) : Host.Outcome State Fault Refusal := s.done (s.write p O.STREAM_ABORT v writeStreamAbort)

/-- What a delivery has next: nothing yet, an entry that adds no frame, or a frame with its sub-header, records and flags MISSING and LAST.
Each carries how far the delivery then is. -/
inductive NextFrame where
  | wait
  | skip (x : Stream)
  | frame (x : Stream) (typ : Nat) (sub recs : List Nat) (missing last : Bool)
  deriving DecidableEq, Repr

/-- Is sequence a at or after b, modulo 2^32? -/
def seqFrom (a b : Nat) : Bool := decide ((a + 2 ^ 32 - b) % 2 ^ 32 < 2 ^ 31)

/-- GRAIN_DATA's sub-header (R428). -/
def grainSub (source first ch kind count : Nat) : List Nat := leBytes 4 source ++ leBytes 4 first ++ [ch % 256, kind] ++ leBytes 2 count

/-- Segment grains (kind 1). -/
def State.nextGrains (x : Stream) (s : State) : NextFrame :=
  let q := (x.a + x.unit) % 2 ^ 32
  let final := x.b ≤ x.unit + 1
  let on := { x with unit := x.unit + 1, ch := 0, pos := 0 }
  if x.b == 0 then .frame on 1 (grainSub q 0 0 0 0) [] false true
  else
    match s.entryOf q with
    | none => if seqFrom q s.dir.nextSeq then .wait else .frame on 1 (grainSub q 0 0 0 0) [] true final
    | some e =>
      let cs := (onesBelow x.chans 4).filter (fun c => bit e.seg.chset c)
      if e.state == 1 then .wait
      else if cs.isEmpty then (if final then .frame on 1 (grainSub q 0 0 0 0) [] false true else .skip on)
      else
        let c := (cs[x.ch]?).getD 0
        let n := min 42 (e.count - x.pos)
        let recs := (List.range n).flatMap (fun i => (s.readGrain e.seg.plan c (e.seg.offset (x.pos + i))).bytes)
        let chDone := e.count ≤ x.pos + n
        let entryDone := chDone && cs.length ≤ x.ch + 1
        let y := if entryDone then on else if chDone then { x with ch := x.ch + 1, pos := 0 } else { x with pos := x.pos + n }
        .frame y 1 (grainSub q x.pos c 0 n) recs false (entryDone && final)

/-- A display buffer (kind 2). -/
def State.nextDisp (x : Stream) (s : State) : NextFrame :=
  let b := x.a
  let d := s.disp b
  if 16 ≤ b || d.state == 0 then .frame x 1 (grainSub b 0 0 1 0) [] true true
  else if d.state == 1 then .wait
  else
    let n := min 42 (d.grains.length - x.pos)
    let recs := ((d.grains.drop x.pos).take n).flatMap Grain.bytes
    .frame { x with pos := x.pos + n } 1 (grainSub b x.pos d.ch 1 n) recs false (d.grains.length ≤ x.pos + n)

/-- Directory entries (kind 3), once COMPLETE. -/
def State.nextEntries (x : Stream) (s : State) : NextFrame :=
  let q := (x.a + x.unit) % 2 ^ 32
  let left := if x.b == 0 then 84 else min 84 (x.b - x.unit)
  let ready := ((List.range left).map (fun i => s.entryOf ((q + i) % 2 ^ 32))).takeWhile (fun o => match o with | some e => e.state != 1 | none => false)
  let n := ready.length
  let gone := (s.entryOf q).isNone && !seqFrom q s.dir.nextSeq
  let done := fun (k : Nat) => x.b != 0 && decide (x.b ≤ x.unit + k)
  if gone then .frame { x with unit := x.unit + 1 } 2 (leBytes 4 q ++ leBytes 2 0) [] true (done 1)
  else if n == 0 then .wait
  else
    let recs := ready.flatMap (fun o => match o with | some e => e.bytes | none => [])
    .frame { x with unit := x.unit + n } 2 (leBytes 4 q ++ leBytes 2 n) recs false (done n)

/-- Result records (kind 4): rows beyond the table are MISSING. -/
def State.nextRecs (x : Stream) (s : State) : NextFrame :=
  let r := x.a + x.unit
  let n := min 63 (min (x.b - x.unit) (2097152 - r))
  if n == 0 then .frame x 3 (leBytes 4 r ++ leBytes 2 0) [] (x.b != 0) true
  else
    .frame { x with unit := x.unit + n } 3 (leBytes 4 r ++ leBytes 2 n) ((List.range n).flatMap (fun i => (s.rec_ (r + i)).bytes)) false
      (x.b ≤ x.unit + n)

/-- Bytes [a, a + n) of a snapshot (R245). -/
def Snap.bytesAt (x : Snap) (a n : Nat) : List Nat :=
  let h := x.header
  (List.range n).map (fun i =>
    if a + i < 64 then (h[a + i]?).getD 0
    else tget (fun _ => 0) x.data.bins ((a + i - 64) / 4) / 256 ^ ((a + i) % 4) % 256)

/-- Bytes of a snapshot. -/
def snapBytes : Nat := 1048640

/-- A plane snapshot (kind 5). -/
def State.nextSnap (n : Nat) (x : Stream) (s : State) : NextFrame :=
  let head := fun (b : Nat) => leBytes 4 x.pos ++ leBytes 2 x.a ++ leBytes 2 b
  match s.farm.snaps.find? (fun y => y.tail == some n) with
  | none => .frame x 4 (head 0) [] true true
  | some y =>
    if !y.ready then .wait
    else
      let m := min 4032 (snapBytes - x.pos)
      .frame { x with pos := x.pos + m } 4 (head m) (y.bytesAt x.pos m) false (snapBytes ≤ x.pos + m)

/-- Trace entries (kind 6): overwritten ones are left out (R474). -/
def State.nextTrace (x : Stream) (s : State) : NextFrame :=
  let q := (x.a + x.unit) % 2 ^ 32
  let old := s.oldestTrace
  let jump := if s.trace.written != 0 && !seqFrom q old then (old + 2 ^ 32 - q) % 2 ^ 32 else 0
  let u := x.unit + jump
  let q := (q + jump) % 2 ^ 32
  let held := (s.trace.written + 2 ^ 32 - q) % 2 ^ 32
  let ahead := if seqFrom (s.trace.written % 2 ^ 32) q then held else 0
  let n := min (min 126 ahead) (if x.b == 0 then 126 else x.b - u)
  let sub := leBytes 4 q ++ leBytes 2 n
  if x.b != 0 && x.b ≤ u then .frame { x with unit := u } 5 sub [] false true
  else if n == 0 then .wait
  else
    let ent := fun (i : Nat) => (match s.traceRow ((q + i) % traceRows) with | some e => e.bytes | none => List.replicate 32 0)
    .frame { x with unit := u + n } 5 sub ((List.range n).flatMap ent) false (x.b != 0 && decide (x.b ≤ u + n))

def State.nextFrame (n : Nat) (s : State) : NextFrame :=
  let x := s.stream n
  match x.kind with
  | 1 => s.nextGrains x
  | 2 => s.nextDisp x
  | 3 => s.nextEntries x
  | 4 => s.nextRecs x
  | 5 => s.nextSnap n x
  | _ => s.nextTrace x

/-- DELIVERY_FRAME: stream n sends its next frame, if its group, the store and its credit allow. -/
def State.delivery (n : Nat) (s : State) : State :=
  let x := s.stream n
  if n < 2 || 16 ≤ n || x.state != 1 || !s.storeServes then s
  else
    match s.nextFrame n with
    | .wait => s
    | .skip y => s.setStream n y
    | .frame y typ sub recs missing last =>
      let f : Frame := { typ := typ, stream := n, flags := at_ last 0 + at_ missing 3, data := padTo 16 sub ++ recs }
      if !s.roomFor x.group f.len then s
      else if x.credit < f.cost x.group then s.setStream n { x with lackSince := some (x.lackSince.getD s.clk.now) }
      else
        let (t, ok) := s.takeCredit 4 recs.length
        if !ok then t
        else
          let t := (t.serve 4 recs.length).sendNow x.group f
          let z := t.stream n
          let t := t.setStream n { y with used := z.used, txSeq := z.txSeq, frames := (x.frames + 1) % 2 ^ 32, lackSince := none }
          let t := { t with gov := { t.gov with frameAt := some t.clk.now } }
          if last then t.endStream n 3 else t

def execDeliveryFrame (n : Nat) (s : State) : Host.Outcome State Fault Refusal := s.done (s.delivery n)

/-- CREDIT_TIMEOUT: a frame has been ready and lacked credit for longer. -/
def State.creditTimeout (n : Nat) (s : State) : State :=
  let x := s.stream n
  match x.lackSince with
  | some t => if x.state == 1 && decide (t + ms (s.rdN O.CREDIT_TIMEOUT) < s.clk.now) then ((s.setStream n { x with state := 2 }).sat O.STALLS).bump 421 else s
  | none => s

def execCreditTimeout (n : Nat) (s : State) : Host.Outcome State Fault Refusal := s.done (s.creditTimeout n)

/-! ### Bulk gate loads (R431) -/

/-- A write that may be refused after part of its effect: the state, the refusal, and DETAIL of R430. -/
abbrev BothRes := State × Option Rej × Nat

/-- The fields of a record as writes of the gate window: sub-index and value. -/
def bulkFields (r : List Nat) : List (Nat × Int) :=
  let u := fun (a n : Nat) => ((fieldOf r a n : Nat) : Int)
  [(2, u 2 1), (3, u 3 1), (4, u 4 1), (5, u 5 1), (6, u 8 4), (7, u 6 2), (8, u 12 2), (9, wrapS 64 (u 16 8)), (10, u 24 8), (11, u 36 1),
   (12, u 32 4), (13, u 14 2), (14, u 37 1), (15, u 38 2), (16, u 40 2)]

/-- The configuration that a record spells, or why a field of it is refused. -/
def bulkCfg (r : List Nat) : Except Rej GateCfg :=
  let fs := bulkFields r
  let v := fun (k : Nat) => ((fs.find? (fun e => e.1 == k)).map (fun e => e.2)).getD 0
  let n := fun (k : Nat) => (v k).toNat
  let ill := fs.findSome? (fun e => (findRow 0x4A00 e.1).bind (fun row => row.valueCheck e.2))
  match ill with
  | some why => .error { abort := Why.badValue, reason := why }
  | none =>
    if (255 < n 13 && n 13 != 65535) || (4095 < n 15 && n 15 != 65535) then .error { abort := Why.badValue, reason := Why.VALUE_RANGE }
    else if fieldOf r 42 6 != 0 then .error { abort := Why.badValue, reason := Why.RESERVED_VALUE }
    else
      .ok { enable := n 2 == 1, kind := n 3, slot := n 4, fmode := n 5, fval := n 6, fmod := n 7, line := n 8, off := v 9, len := n 10,
            chans := n 11, meas := n 12, cr := n 13, param := n 14, plane := n 15, policy := n 16 }

/-- Records in order, until one is refused; `k` counts those applied. -/
def bulkLoad : List (List Nat) → Nat → State → BothRes
  | [], k, s => (s, none, k)
  | r :: rest, k, s =>
    match bulkCfg r with
    | .error e => (s, some e, k)
    | .ok c =>
      match c.refused with
      | some why => (s, some { abort := Why.badValue, reason := why }, k)
      | none => bulkLoad rest (k + 1) (s.applyGate (fieldOf r 0 2) c)

/-- GATE_BULK, `len` bytes as a little-endian number. -/
def writeGateBulk (len : Nat) (v : Int) (s : State) : BothRes :=
  if len % 48 != 0 then (s, some { abort := Why.typeLength, reason := Why.TYPE_LENGTH }, 0)
  else bulkLoad (piecesOf 48 (len / 48) (leBytes len v.toNat)) 0 s

/-- Answer a write that has had its effect. -/
def State.answerBoth (a : Acc) (cmd : Nat) (asked : Time) (r : BothRes) : State :=
  match r.2.1 with
  | none => r.1.respond a asked 0 0 0
  | some e => (r.1.refuse a cmd e).respond a asked 0 e.abort e.reason

/-- The checks that come before a write's own, then the write. -/
def State.bothChecked (a : Acc) (f : State → BothRes) (s : State) : BothRes :=
  if s.dev == .sleep then (s, some { abort := Why.badState, reason := Why.DEVICE_STATE }, 0)
  else
    match writeCheck a.idx a.sub a.len a.v with
    | .error e => (s, some e, 0)
    | .ok _ => f s

def execGateBulk (p : Path) (len : Nat) (v : Int) (s : State) : Host.Outcome State Fault Refusal :=
  let a : Acc := { path := p, write := true, idx := 0x5604, sub := 1, len := len, v := v }
  s.done (s.access a (fun s => State.answerBoth a 0 s.clk.now (s.bothChecked a (writeGateBulk len v))))

/-! ### Roles of the CTB lines (R440) -/

/-- Roles that only one line may have. -/
def soleRole (r : Nat) : Bool := 2 ≤ r

/-- CTB_ROLE_0 to _3, CTB_ANSWER_PLANS, CTB_ANSWER_SENSE: sub-index 1 to 6. -/
def writeCtbRole (sub : Nat) (v : Int) (s : State) : WRes :=
  let others := (List.range 4).filter (fun i => i + 1 != sub)
  if sub ≤ 4 && soleRole v.toNat && others.any (fun i => s.rd (O.CTB_ROLE i) == v) then bad Why.CTB_ROLE
  else if (onesBelow (s.rdN O.CTB_ANSWER_PLANS) 16).any (fun q => armedSt (s.plan q).entering) then notNow Why.CTB_ROLE
  else s.put (0x570100 + sub) v

def execCtbRoleWrite (p : Path) (sub : Nat) (v : Int) (s : State) : Host.Outcome State Fault Refusal :=
  s.done (if 1 ≤ sub && sub ≤ 6 then s.write p (0x570100 + sub) v (writeCtbRole sub v) else s)

/-! ### Status words (R442 to R444, R447) -/

def State.tailStatus (s : State) : Nat :=
  let any := fun (f : Nat → Bool) => (List.range 4).any f
  at_ (any s.linkActive) 0 + at_ (any (fun g => (s.link g).listening)) 1 + at_ (any (fun g => (s.link g).degraded)) 2
    + at_ ((List.range 16).any (fun n => (s.stream n).state == 2)) 3

def State.laneStatus (s : State) (l : Nat) : Nat :=
  let x := s.lane l
  let served := x.st == 3 || x.st == 5 || x.st == 6
  at_ x.rxOk 4 + at_ x.partner 5 + (if x.st == 3 then s.position l * 64 else 0) + (if served then x.group % 4 * 256 else 0)
    + (if x.on then x.st else if x.st == 7 then 7 else 0) * 1024

def State.linkDressing (s : State) (g : Nat) : Bool := s.dress.active.contains (linkUnit g)

def State.groupStatus (s : State) (g : Nat) : Nat :=
  let k := s.link g
  at_ (s.linkActive g) 0 + at_ (s.linkDressing g) 1 + at_ k.escalating 2 + at_ k.listening 3 + at_ k.degraded 4 + s.width g * 32

/-- State of a Hedge side: 0 OFF, 1 LISTENING, 2 ACTIVE, 3 DRESSING, 4 OUT_OF_SERVICE. A side whose lanes still train from Boot reads
OFF, as its reset value has it (R447). -/
def State.sideState (s : State) (g : Nat) : Nat :=
  if !bit (s.rdN O.HEDGE_ENABLE) (g - 4) || !s.tailRuns then 0
  else if (s.link g).out then 4
  else if s.linkDressing g then 3
  else if s.linkActive g then 2
  else if (s.link g).listening || (s.members g).any (fun l => (s.lane l).st != 0) then 1
  else 0

def State.aligned (s : State) (g : Nat) : Bool := !s.unref && decide (16 ≤ (s.nb g).run)

def State.hedgeStatus (s : State) : Nat :=
  s.sideState 4 + s.sideState 5 * 8 + at_ (s.link 4).spareIn 6 + at_ (s.link 5).spareIn 7 + at_ (s.aligned 4) 8 + at_ (s.aligned 5) 9

end Sys2Proof.Machine
end

