-- ==== Sys2Proof/Machine/Boot.lean ====
section
/-!
DEFINITION. The end of start-up (R28, R33): the self-test (R314), what flash brings back (R297, R305, R319, R377, R383), the monitor
converters' first sequence (R364), the timebase (R259, R261), and the trial's clock (R462).
-/

namespace Sys2Proof.Machine

/-! ### Hard failures found by the self-test (R314) -/

/-- The layering map is to be written within 100 ms (R305). -/
def State.mapChanged (s : State) : State := { s with layer := { s.layer with mapDue := some (s.clk.now + ms 100) } }

/-- A unit's spare failed the test: it is retired unused, which the layering map records (R305, R314). -/
def State.spareFailed (u : Nat) (s : State) : State := (s.unitNoSpare u true).mapChanged

/-- A slice of a quad failed the test. -/
def State.bootQuad (c q sl : Nat) (s : State) : State :=
  let u := 256 * (c + 1) + q
  let qn := 4 * c + q
  let x := s.quad qn
  if sl == x.spare && !x.layered then
    (s.setQuad qn { x with retired := sl :: x.retired, spareReady := false }).spareFailed u
  else match (List.range 16).find? (fun j => x.serving j == sl) with
    | some j =>
      if x.spareReady then
        (((s.setQuad qn { x.layerIn j sl with layered := true }).unitNoSpare u true).countLayering true 0 u).covered 0x01 u sl 1 0 0
      else s.uncovered 0x02 u sl 0 0
    | none => s

def State.bootHalf (h sl row : Nat) (s : State) : State :=
  let u := 0x0600 + h
  let x := s.half h
  if sl == x.spare && !x.layered then (s.setHalf h { x with spareReady := false, spareRetired := true }).spareFailed u
  else match (List.range 15).find? (fun i => (s.pc (15 * h + i)).phys == sl) with
    | some i =>
      let l := 15 * h + i
      let detail := s.burst l row
      if x.spareReady then
        let s := (s.setPc l { s.pc l with phys := x.spare }).setHalf h { x with layered := true, spareReady := false }
        ((s.unitNoSpare u true).countLayering true 1 u).covered 0x03 u sl 1 detail 0
      else
        let s := (s.setPc l { s.pc l with dead := true }).setHalf h { x with failed := true }
        (s.unitFailed u).uncovered 0x04 u sl detail 0
    | none => s

def State.bootCluster (k r : Nat) (s : State) : State :=
  let u := 0x0700 + k
  let cl := s.cluster k
  if cl.retired.contains r || 17 ≤ r then s
  else if r == 16 && !cl.layered then (s.setCluster k { cl with retired := 16 :: cl.retired, spareReady := false }).spareFailed u
  else if cl.spareReady then
    let s := s.setCluster k { cl with retired := r :: cl.retired, layered := true, spareReady := false }
    (((s.unitNoSpare u true).countLayering true 2 u).bump 295).covered 0x05 u r 1 0 0
  else
    let cl' := { cl with retired := r :: cl.retired }
    let s := ((s.setCluster k cl').unitDegraded u true).covered 0x05 u r 2 0 0
    if cl'.serving == 0 then ((s.setCluster k { cl' with empty := true, parked := true }).bump 296).covered 0x06 u 0xFFFF 2 0 0 else s

def State.bootPhase (g n : Nat) (s : State) : State :=
  let u := 0x0900 + g
  let r := s.retiredPhases g
  if r.contains n || 8 ≤ n then s
  else if !(s.inService u).contains n then (s.phaseOut g n).mapChanged
  else if r.length < 2 then ((s.phaseOut g n).countLayering true 5 u).covered 0x09 u n 1 n 0
  else (({ s with gov := { s.gov with phases := tset g (n :: r) s.gov.phases } }).unitFailed u).uncovered 0x0A u n n 0

/-- A pooled lane that serves no group takes the place of a failed lane. -/
def State.bootLane (g l : Nat) (s : State) : State :=
  let u := linkUnit g
  let x := s.lane l
  if 18 ≤ l || x.st == 7 then s
  else if 16 ≤ l && x.group == 6 then (s.setLane l { x with st := 7 }).mapChanged
  else match [16, 17].find? (fun k => (s.lane k).group == 6 && (s.lane k).st != 7) with
    | some k =>
      let s := (s.modLane k (fun y => { y with group := x.group, slot := x.slot })).setLane l { x with st := 7 }
      (s.countLayering true 3 u).covered 0x07 u l 1 l 0
    | none =>
      let s := (s.setLane l { x with st := 5 }).setLink x.group { s.link x.group with degraded := true }
      (s.unitDegraded u true).covered 0x07 u l 2 l 0

def State.bootPair (g sl : Nat) (s : State) : State :=
  let u := linkUnit g
  let k := s.link g
  let retire := fun (ls : List Nat) (s : State) => ls.foldl (fun s l => s.modLane l (fun y => { y with st := 7 })) s
  if 4 ≤ sl || (s.lane (laneOfSlice u sl)).st == 7 then s
  else if 2 ≤ sl && !k.spareIn then (retire (pairLanes g true) s).mapChanged
  else if !k.spareIn && (pairLanes g true).all (fun l => (s.lane l).st != 7) then
    (((retire (pairLanes g false) s).setLink g { k with spareIn := true }).countLayering true 4 u).covered 0x08 u sl 1 sl 0
  else ((s.setLink g { k with out := true }).unitDegraded u true).covered 0x08 u sl 2 sl 0

/-- A failure of the self-test by unit (R19). -/
def State.bootFail (f : Nat × Nat × Nat) (s : State) : State :=
  let (u, sl, row) := f
  match u / 256 with
  | 1 | 2 | 3 | 4 => if u % 256 < 4 then s.bootQuad (u / 256 - 1) (u % 256) sl else s
  | 6 => if u % 256 < 4 then s.bootHalf (u % 256) sl row else s
  | 7 => if u % 256 < 16 then s.bootCluster (u % 256) sl else s
  | 9 => if u % 256 < 6 then s.bootPhase (u % 256) sl else s
  | 10 => if u % 256 < 4 then s.bootLane (u % 256) sl else s
  | 11 => if u % 256 < 2 then s.bootPair (4 + u % 256) sl else s
  | _ => s

/-! ### What flash brings back -/

/-- Objects 1000h to 1FFFh take their stored values, or their defaults (R378, R383). -/
def State.commObjects (s : State) : State :=
  let rest := s.od.filter (fun e => !(decide (0x100000 ≤ e.1) && decide (e.1 < 0x200000)))
  { s with od := (s.net.saved.getD []).foldl (fun t e => tset e.1 e.2 t) rest }

/-- Node-ID and data rate are evaluated afresh (R377); the boot-up message is sent unless the controller is silent (R33, R377). -/
def State.joinNetwork (balls : Nat) (s : State) : State :=
  let n := s.net
  let id := if n.storedNode != 0 then n.storedNode else balls % 128
  let s := { s with net := { n with nmt := .preOp, nodeId := id, balls := balls % 128, rateNow := n.storedRate, storePending := false,
                                    hbAt := some s.clk.now } }
  if id == 0 then s
  else { s with net := { s.net with bootUps := s.net.bootUps + 1, sent := tset (0x700 + id) { len := 1, data := 0 } s.net.sent } }

/-- Of two copies, the valid one with the higher generation (R295, R297): 0 A, 1 B, 2 neither. -/
def higherCopy (a b : Option (Nat × CalBody)) : Nat :=
  match a, b with
  | some (g, _), some (h, _) =>
    let d := (h + 2 ^ 32 - g) % 2 ^ 32
    if 1 ≤ d && d < 2 ^ 31 then 1 else 0
  | some _, none => 0
  | none, some _ => 1
  | none, none => 2

/-- The calibration comes into force; without a valid copy the factory record, with its fault record (R297). -/
def State.loadCal (s : State) : State :=
  let d := s.dress
  let n := higherCopy d.copyA d.copyB
  let held : Option (Nat × CalBody) := match n with | 0 => d.copyA | 1 => d.copyB | _ => none
  let body : CalBody := match held with | some (_, b) => b | none => {}
  let units : Tbl UnitDress := body.quality.map (fun e => (e.1, { q1 := e.2.1, q2 := e.2.2.1, q3 := e.2.2.2, qFlash := false }))
  let s := { s with dress := { d with inForce := n, fallback := n == 2, trims := body.trims, interp := body.interp, units := units },
                    pond := { s.pond with shadow := body } }
  let s := match body.timer with
    | some (g, a, b) => { s with timer := { s.timer with gen := g, gens := [(g, a, b)] } }
    | none => s
  let s := (List.range 16).foldl (fun s k => s.setQuad k { s.quad k with trims := tget (fun _ => []) body.quads k }) s
  if n == 2 then s.covered 0x15 0x00FF 0xFFFF 0 0 0 else s

/-- The layering map and the windowed wear indicators come back (R305): what was retired stays retired, and what served serves. -/
def State.loadMap (s : State) : State :=
  let m := s.layer.flash
  let quad := fun (q : Quad) =>
    let used := q.layered || q.pending.isSome
    { q with layered := used, pending := none, failed := false, failRun := [], spareReady := !used && !q.retired.contains q.spare }
  let s : State := { s with
    quads := m.quads.map (fun e => (e.1, quad e.2)),
    pond := { s.pond with
      pcs := m.pcs.map (fun e => (e.1, { phys := e.2.phys })),
      halves := m.halves.map (fun e => (e.1, { spare := e.2.spare, spareReady := !e.2.layered && !e.2.spareRetired, layered := e.2.layered,
                                               spareRetired := e.2.spareRetired })) },
    farm := { s.farm with
      clusters := m.clusters.map (fun (e : Nat × Cluster) => (e.1, { retired := e.2.retired, layered := e.2.layered, spareReady := !e.2.layered && !e.2.retired.contains 16, empty := e.2.empty, parked := e.2.empty })) },
    gov := { s.gov with phases := m.phases },
    layer := { s.layer with units := m.units, log := m.log, base := m.time, boots := s.layer.boots + 1 } }
  let s := m.lanes.foldl (fun s l => s.modLane l (fun y => { y with st := 7 })) s
  let s := m.pool.foldl (fun s e => s.modLane e.1 (fun y => { y with group := e.2.1, slot := e.2.2 })) s
  let s := m.pairs.foldl (fun s g => s.setLink g { s.link g with spareIn := true }) s
  let s := (List.range 16).foldl (fun s k => s.unitNoSpare (256 * (k / 4 + 1) + k % 4) (!(s.quad k).spareReady)) s
  let s := (List.range 4).foldl (fun s h => s.unitNoSpare (0x0600 + h) (!(s.half h).spareReady)) s
  let s := clusterNos.foldl (fun s k =>
    (s.unitNoSpare (0x0700 + k) (!(s.cluster k).spareReady)).unitDegraded (0x0700 + k) (decide ((s.cluster k).serving < 16))) s
  (List.range 6).foldl (fun s g => s.unitNoSpare (0x0900 + g) (decide (2 ≤ (s.retiredPhases g).length))) s

/-! ### BOOT_COMPLETE -/

/-- The first sequence of a converter and the limits it must meet (R364); M0 is named 0x100, M1 0x101. -/
def State.bootConverter (m : Nat) (codes : List Int) (s : State) : State :=
  if codes.length != 16 then s
  else
    let x := (s.conv m).calibrate codes
    let s := s.setConv m x
    if x.offsets.any (fun o => decide (64 < o.natAbs)) || decide (2000 < x.corr.natAbs) then s.uncovered 0x16 0x00FF 0xFFFF (0x100 + m) 0 else s

/-- Clocks and channels run, and the epoch begins (R67, R280); a fault that nothing covered in Boot shows now (R28; log entry 76). -/
def State.bootClocks (i : BootIn) (s : State) : State :=
  let now := s.clk.now
  let f := s.fan
  let ref := if i.ref ≤ 2 then i.ref else 3
  let here := ref == 1 || ref == 2
  let s := { s with
    dev := if s.fault.cause.isSome then .faulted else .run,
    clk := { s.clk with epochBase := now, runSince := now, runBefore := 0 },
    fan := { f with tb := if f.tb == 4 then 4 else if here then (if i.disciplined then 2 else 1) else 0,
                    detected := ref, inUse := if here then ref else 0, meas := [ref, ref], freqError := i.freq,
                    presentSince := if here then some now else none, corrAt := now, acqBy := now + acquireTime i.freq,
                    sscApplied := f.sscStored * 65536 },
    mon := { s.mon with crossAt := now }, layer := { s.layer with recomputed := now },
    pond := { s.pond with scrubAt := now, passStart := now, creditAt := now },
    tail := { s.tail with markerAt := now } }
  let s := laneNos.foldl (fun s l => s.modLane l (fun y => { y with trainFrom := now })) s
  let s := s.wr O.SSC_CTL f.sscStored
  let s := s.modGov (fun g => { g with boot := 0, power := 0, evalAt := now })
  let on := s.gov.rails.contains 0
  chanNos.foldl (fun s c => s.setChan c { ready := on }) s

/-- The state in which the timebase stands counts as an entry (R261). -/
def State.bootRef (s : State) : State := if s.fan.tb == 2 then s else s.unrefEntry true

/-- Go on with what a write leaves, or leave things as they are. -/
def State.andThen (r : WRes) (s : State) : State :=
  match r with
  | .ok t => t
  | .error _ => s

/-- When Boot ends, every latch of both paths holds its window's default row as that row then stands (R413); the rows that Boot may
have filled are latched. -/
def State.latchRows (p : Path) (s : State) : State :=
  let s := s.andThen (writeFaultRow p 0 s)
  let s := s.andThen (writeTraceRow p 0 s)
  let s := s.andThen (writeWearUnit p 0x0100 s)
  let s := s.andThen (writeDressUnit p 0x0100 s)
  let s := s.andThen (writeSqRow p 0 s)
  if s.timer.gen == 0 then s else s.andThen (writeTtRow p 0 s)

/-- BOOT_COMPLETE: start-up completes, or cannot complete and ends in Faulted. -/
def State.bootComplete (i : BootIn) (s : State) : State :=
  if s.dev != .boot || s.gov.boot != 2 then s
  else
    let s := ((s.bootClocks i).loadMap).commObjects
    let s := { s with net := { s.net with serving := true }, fault := { s.fault with prev := s.fault.flash },
                      upd := { s.upd with trialEnd := if s.upd.sel.trial then some (s.clk.now + sec 600) else none } }
    let s := s.loadCal
    let s := i.fails.foldl (fun s f => s.bootFail f) s
    let s := i.codes.zipIdx.foldl (fun s e => if e.2 < 2 then s.bootConverter e.2 e.1 else s) s
    let s := s.gov.railsBad.foldl (fun s g => s.uncovered 0x16 0x00FF 0xFFFF g 0) s
    let s := if s.fan.tb == 4 then s.uncovered 0x16 0x00FF 0xFFFF 8 0 else s
    let s := match i.late with | some d => s.uncovered 0x16 0x00FF 0xFFFF d 0 | none => s
    ((s.bootRef.joinNetwork i.balls).latchRows .sdo).latchRows .od

def execBootComplete (i : BootIn) (s : State) : Host.Outcome State Fault Refusal := s.finish (s.bootComplete i)

end Sys2Proof.Machine
end

