-- ==== Sys2Proof/Machine/Comm.lean ====
section
/-!
DEFINITION. Writes of the communication objects 1000h to 1FFFh (R375, R382, R383, R385, R386), whose sub-indices follow CiA 1301
(PRESUMED, log entry 9): the PDO parameters and mappings, "save" and "load", the error history.
-/

namespace Sys2Proof.Machine

/-- The signatures "save" and "load" as UNSIGNED32. -/
def sigSave : Int := 0x65766173
def sigLoad : Int := 0x64616F6C

/-- Keys of PDO n's COB-ID and of its mapping's first sub-index; `t`: a TPDO. -/
def pdoKey (t : Bool) (n sub : Nat) : Nat := objKey ((if t then 0x1800 else 0x1400) + n) sub
def mapKey (t : Bool) (n sub : Nat) : Nat := objKey ((if t then 0x1A00 else 0x1600) + n) sub

/-- A PDO is valid while bit 31 of its COB-ID is clear (R382). -/
def State.pdoValid (s : State) (t : Bool) (n : Nat) : Bool := !bit (s.rdN (pdoKey t n 1)) 31

/-- Transmission type (R383). -/
def State.pdoType (s : State) (t : Bool) (n : Nat) : Nat := s.rdN (pdoKey t n 2)

/-- The bytes that a mapping entry takes: index [31:16], sub-index [15:8], bits [7:0]. -/
def mapBytes (w : Nat) : Nat := w % 256 / 8
def mapIdx (w : Nat) : Nat := w / 65536 % 65536
def mapSub (w : Nat) : Nat := w / 256 % 256

/-- May the object be mapped (R382)? Every type but DOMAIN, in its whole length, readable in a TPDO, writable in an RPDO. -/
def mappable (t : Bool) (w : Nat) : Bool :=
  match findRow (mapIdx w) (mapSub w) with
  | some r => r.ty != .dom && w % 256 == 8 * r.ty.bytes && (if t then r.acc != .wo else r.acc != .ro)
  | none => t && mapSub w == 0 && decide (0x2000 ≤ mapIdx w) && knownIdx (mapIdx w) && w % 256 == 8

/-- The first `k` entries of a PDO's mapping, and the mapping in force. -/
def State.mapFirst (s : State) (t : Bool) (n k : Nat) : List Nat := (List.range k).map (fun i => s.rdN (mapKey t n (i + 1)))
def State.mapping (s : State) (t : Bool) (n : Nat) : List Nat := s.mapFirst t n (s.rdN (mapKey t n 0))

/-- Bytes of a mapping. -/
def mapLen (m : List Nat) : Nat := (m.map mapBytes).foldl (· + ·) 0

def mapTooLong : WRes := .error { abort := Why.pdoLength, reason := Why.PDO_LENGTH }
def mapBad : WRes := .error { abort := Why.notMappable, reason := Why.PDO_NOT_MAPPABLE }

/-- A write to the mapping of an invalid PDO: the number of entries (`sub` 0), or an entry. -/
def writeMapping (t : Bool) (n sub : Nat) (v : Int) (s : State) : WRes :=
  if s.pdoValid t n then notNow Why.PDO_PROCEDURE
  else
    let w := v.toNat
    if sub == 0 then
      if 16 < w then mapTooLong
      else
        let m := s.mapFirst t n w
        if !m.all (mappable t) then mapBad else if 64 < mapLen m then mapTooLong else s.put (mapKey t n 0) v
    else if w != 0 && !mappable t w then mapBad
    else
      let u := s.wr (mapKey t n sub) v
      if 64 < mapLen (u.mapping t n) then mapTooLong else .ok u

/-- A write to the communication parameters of a PDO: a valid one may only be made invalid (R382). -/
def writePdo (t : Bool) (n sub : Nat) (v : Int) (s : State) : WRes :=
  if s.pdoValid t n && !(sub == 1 && bit v.toNat 31) then notNow Why.PDO_PROCEDURE
  else if sub == 2 && 240 < v && v < 254 then bad Why.RESERVED_VALUE
  else if sub == 6 && v == 1 then bad Why.RESERVED_VALUE
  else
    let s := if t && sub == 1 then { s with net := { s.net with tpdo := tdel n s.net.tpdo } } else s
    s.put (pdoKey t n sub) v

/-- "save" stores the communication objects, "load" drops what is stored: the defaults return at the next reset (R378, R383). -/
def writeStore (v : Int) (s : State) : WRes :=
  if v = sigSave then
    .ok { s with net := { s.net with saved := some (s.od.filter (fun e => decide (0x100000 ≤ e.1) && decide (e.1 < 0x200000))) } }
  else bad Why.VALUE_RANGE

def writeRestore (v : Int) (s : State) : WRes :=
  if v = sigLoad then .ok { s with net := { s.net with saved := none } } else bad Why.VALUE_RANGE

/-- 1003h.00 := 0 (R386). -/
def writeHistory (s : State) : WRes := .ok { s with net := { s.net with history := [] } }

/-- NODE_ID_OVERRIDE (sub-index 2) and CAN_DATA_RATE (4): stored for the next reset (R377). -/
def writeNode (sub : Nat) (v : Int) (s : State) : WRes :=
  let n := { s.net with storePending := true }
  .ok { s with net := if sub == 2 then { n with storedNode := v.toNat } else { n with storedRate := v.toNat } }

/-- A write of a communication object. -/
def writeComm (idx sub : Nat) (v : Int) (s : State) : WRes :=
  if idx = 0x1003 then writeHistory s
  else if idx = 0x1010 then writeStore v s
  else if idx = 0x1011 then writeRestore v s
  else if idx = 0x1019 then (if v = 1 then bad Why.RESERVED_VALUE else s.put (objKey idx sub) v)
  else if 0x1400 ≤ idx ∧ idx < 0x1408 then writePdo false (idx - 0x1400) sub v s
  else if 0x1600 ≤ idx ∧ idx < 0x1608 then writeMapping false (idx - 0x1600) sub v s
  else if 0x1800 ≤ idx ∧ idx < 0x1810 then writePdo true (idx - 0x1800) sub v s
  else if 0x1A00 ≤ idx ∧ idx < 0x1A10 then writeMapping true (idx - 0x1A00) sub v s
  else s.put (objKey idx sub) v

end Sys2Proof.Machine
end

