-- ==== Sys2Proof/Machine/MirrorsA.lean ====
section
/-!
DEFINITION. What the readable objects of chapters 02 to 08 show where it is not a stored value: the mirrors of the front end,
the Bolters, the Sluice, the plans and the directory, the Millpond, the runner farm and the planes.
-/

namespace Sys2Proof.Machine

/-- A truth value as an object shows it. -/
def flag (b : Bool) : Int := (b2n b : Nat)

/-- A pass in progress on quad n of the 16, alone or with its channel (R71, R286). -/
def State.dressingQuad (s : State) (n : Nat) : Bool := s.dress.passes.any (fun p => 2 ≤ p.stage && (quadsOf p.unit).contains n)

/-- QUAD_STATUS of quad q of channel c (R71). -/
def State.quadStatus (s : State) (c q : Nat) : Nat :=
  let x := s.quad (4 * c + q)
  at_ x.failed 0 + at_ x.layered 1 + at_ x.spareReady 2 + at_ (s.dressingQuad (4 * c + q)) 3

/-- 3000h to 3300h (R69 to R71). -/
def State.mirror30 (s : State) (c sub : Nat) : Option Int :=
  let ch := s.chan c
  match sub with
  | 4 => some ch.rangeApplied
  | 5 => some ch.offsetApplied
  | 6 => some (s.feStatus c)
  | 7 => some (wrapU 64 ch.lastSwitch)
  | 8 => some (F64.rnd (fullScale ch.rangeApplied) 1022 0).r32
  | 10 => some ch.gaps.length
  | 11 => some (s.quadStatus c 0)
  | 12 => some (s.quadStatus c 1)
  | 13 => some (s.quadStatus c 2)
  | 14 => some (s.quadStatus c 3)
  | _ => none

/-- BOLTER_STATUS (R91). FADING from the first faded output, number ceil(reach / D), to the last (R85). -/
def State.bolterStatus (s : State) (c : Nat) : Nat :=
  let ch := s.chan c
  let fading := match ch.swap with
    | some sw => let k0 := ceilDiv ch.cfg.reach ch.cfg.d; decide (k0 ≤ sw.k) && decide (sw.k < k0 + sw.fade)
    | none => false
  at_ ch.swap.isSome 0 + at_ fading 1 + at_ ch.swapQueued 2 + at_ (!ch.held.isEmpty) 3 + at_ (ch.settleLeft != 0) 4
    + at_ (s.rd (O.DELAY_FRAC c) != 0 && s.rd (O.MODE c) != 3) 5

/-- 3400h to 3700h (R90, R91). The three module-wide objects are one (R90). -/
def State.mirror34 (s : State) (c sub : Nat) : Option Int :=
  let ch := s.chan c
  match sub with
  | 6 => some (s.bolterStatus c)
  | 9 => some ch.bank
  | 10 => some (wrapU 64 ch.swapIndex)
  | 13 => some ch.settleLeft
  | 14 => some (wrapU 64 s.origin.o)
  | 15 => some (s.rd (O.DECIM_SYNC_ENABLE 0))
  | 16 => some (s.rd (O.DECIM_SYNC_COUNT 0))
  | 18 => some (s.rd (O.DECIM_SYNC_IGNORED 0))
  | _ => none

/-- The coefficient windows (R84). -/
def State.mirrorCoef (s : State) (p : Path) (c sub : Nat) : Option Int :=
  let ch := s.chan c
  let i := s.rdN (win p (O.COEF_INDEX c))
  let st := s.coefStage p c
  match sub with
  | 3 => some (((ch.editCopy p).1[i]?).getD 0)
  | 4 => some (ch.editCopy p).2
  | 5 => some (stageTaps st)
  | 6 => some (((ch.coefs ch.bank st).1[i]?).getD 0)
  | 7 => some (ch.coefs ch.bank st).2
  | _ => none

/-- SLUICE_STATUS (R124). -/
def State.sluiceStatus (s : State) : Nat :=
  at_ (s.dress.active.contains 0x0500) 0 + at_ s.sluice.ctbClk 1 + at_ s.rasterPresent 2
    + at_ (s.blindNow 0) 8 + at_ (s.blindNow 1) 9 + at_ (s.blindNow 2) 10 + at_ (s.blindNow 3) 11

/-- 4000h (R123 to R125). A read of LAST_TRIG_INDEX latches its companions, in the router. -/
def State.mirror40 (s : State) (sub : Nat) : Option Int :=
  match sub with
  | 1 => some s.sluiceStatus
  | 8 => some s.sluice.qnow
  | 9 => some (wrapU 64 s.sluice.last.index)
  | 10 => some s.sluice.latched.fraction
  | 11 => some s.sluice.latched.slots
  | 12 => some s.sluice.latched.info
  | 14 => some s.sluice.ctbAnswer
  | _ => none

/-- SLOT_STATUS (R127): BLIND for a slot that has a source channel. -/
def State.slotStatus (s : State) (n : Nat) : Nat :=
  let x := s.slot n
  let blind := (x.cfg.kind == 1 || x.cfg.kind == 2) && s.blindNow x.cfg.ch
  let hold := match x.holdTo with | some h => decide (s.idx ≤ h) | none => x.cfg.hmode == 2 && x.skip != 0
  at_ hold 0 + at_ x.seqOpen.isSome 1 + at_ blind 2 + at_ (s.slotInvalid n) 3
    + (match s.boundTo n with | some q => 2048 + q % 16 * 4096 | none => 0)

/-- 4030h (R112, R129). -/
def State.mirror4030 (s : State) (sub : Nat) : Option Int :=
  let r := s.sluice.raster
  match sub with
  | 2 => some r.now.frame
  | 3 => some ((r.now.line.getD 65535 : Nat))
  | 4 => some r.lines
  | 5 => some r.period
  | _ => none

/-- 4100h to 410Fh (R159). -/
def State.mirror41 (s : State) (q sub : Nat) : Option Int :=
  let p := s.plan q
  match sub with
  | 1 => some p.st
  | 17 => some p.done
  | 20 => some (wrapU 64 p.fill)
  | 21 => some p.taken
  | 22 => some p.base
  | 23 => some p.lastSeq
  | 24 => some (wrapU 64 p.lastTaken)
  | _ => none

/-- The directory window (R160): a row never written reads zeros and ENTRY_STATE 0. -/
def State.mirror4200 (s : State) (p : Path) (sub : Nat) : Option Int :=
  if sub = 1 then none
  else
    match tfind s.dir.win (side p) with
    | none => some 0
    | some e =>
      match sub with
      | 2 => some e.seq
      | 3 => some e.seg.info
      | 4 => some e.seg.trig.slots
      | 5 => some e.seg.epoch
      | 6 => some e.seg.flags
      | 7 => some e.seg.trig.fraction
      | 8 => some e.seg.segNo
      | 9 => some (wrapU 64 e.seg.trig.index)
      | 10 => some (wrapU 64 e.seg.startIdx)
      | 11 => some e.seg.startGrain
      | 12 => some e.count
      | 13 => some e.seg.trigOff
      | _ => some e.state

/-- 4201h (R160). -/
def State.mirror4201 (s : State) (sub : Nat) : Option Int :=
  match sub with
  | 1 => some s.dir.nextSeq
  | 2 => some s.dir.oldest
  | 3 => some ((262144 - s.rowsUsed : Nat))
  | 4 => some s.dir.hostAck
  | 9 => some s.dir.epochs
  | _ => none

/-- Bytes of a class served within the last 1 ms, in 0.1 GB/s. Of class 2 refresh counts as time equivalent, by a share the
manual does not give: a free value up to what R174 allows, and 0 before any time has passed (log entry 71). -/
def State.bandwidth (s : State) (cls : Nat) : Nat :=
  let own := (s.pond.recent.filter (fun e => e.2.1 == cls && decide (s.clk.now < e.1 + ms 1))).foldl (fun n e => n + e.2.2) 0
  min 65535 (own / 100000 + if cls == 2 then s.fv (1152 * min s.clk.now (ms 1) / ms 1 + 1) else 0)

/-- POND_STATUS (R192). -/
def State.pondStatus (s : State) : Nat :=
  let lim := match s.pond.ranDry with | some t => decide (s.clk.now < t + ms 1) | none => false
  at_ (!s.stopped 2 && !s.pond.selfRefresh) 0 + at_ lim 1 + at_ (s.pond.copy.isSome || (List.range 60).any s.switching) 2
    + at_ s.pond.behind 3 + at_ s.pond.selfRefresh 4

/-- HALF_STATUS (R193). -/
def State.halfStatus (s : State) (h : Nat) : Nat :=
  let x := s.half h
  at_ x.failed 0 + at_ x.layered 1 + at_ x.spareReady 2
    + at_ (match s.pond.copy with | some l => halfNo l == h | none => false) 3

/-- 4400h (R191). -/
def State.mirror4400 (s : State) (sub : Nat) : Option Int :=
  match sub with
  | 1 => some s.pondStatus
  | 2 => some (regionGrains (s.rdN O.PLANE_FRAMES))
  | 7 => some (s.largestFree 0)
  | 8 => some (s.largestFree 1)
  | 9 => some (s.largestFree 2)
  | 10 => some (s.largestFree 3)
  | 13 => some (s.bandwidth 1)
  | 14 => some (s.bandwidth 2)
  | 15 => some (s.bandwidth 3)
  | 16 => some (s.bandwidth 4)
  | 17 => some (s.bandwidth 5)
  | 20 => some s.pond.gaps.length
  | 21 => some s.pond.passes
  | 22 => some s.pond.passMs
  | 23 => some (s.halfStatus 0)
  | 24 => some (s.halfStatus 1)
  | 25 => some (s.halfStatus 2)
  | 26 => some (s.halfStatus 3)
  | 27 => some (match s.pond.copy with | some l => (((s.pc l).copied * 100 / 768 : Nat) : Int) | none => 0)
  | _ => none

/-- The gap window (R194): a row without a record reads zeros. -/
def State.mirror4401 (s : State) (p : Path) (sub : Nat) : Option Int :=
  let g := tget (fun _ => ({} : GapRec)) s.pond.gapWin (side p)
  match sub with
  | 2 => some g.kind
  | 3 => some g.ch
  | 4 => some (wrapU 64 g.first)
  | 5 => some g.grains
  | 6 => some g.addr
  | 7 => some g.pc
  | 8 => some g.epoch
  | _ => none

/-- FARM_LOAD: 0 while no runner has worked within 1 ms; else open, at most 100 (log entry 72). -/
def State.farmLoad (s : State) : Nat :=
  let worked := match s.farm.busyAt with | some t => decide (s.clk.now < t + ms 1) | none => false
  if s.farm.insts.isEmpty && !worked then 0 else s.fv 101

/-- CLUSTER_STATUS (R229). -/
def State.clusterStatus (s : State) (k : Nat) : Nat :=
  let x := s.cluster k
  let retry := s.farm.insts.any (fun (i : Inst) => i.retry.isSome && (match i.run with | some r => r / 32 == k | none => false))
  at_ (decide (x.serving < 16)) 0 + at_ x.layered 1 + at_ x.spareReady 2 + at_ (x.parked || x.empty) 3 + at_ retry 4

/-- 4800h (R228). -/
def State.mirror4800 (s : State) (sub : Nat) : Option Int :=
  match sub with
  | 1 => some ((Config.catalogueVersion % 2 ^ 32 : Nat))
  | 2 => some s.runnersActive
  | 3 => some ((s.parkedClusters.foldl (fun n k => n + 2 ^ k) 0 : Nat))
  | 4 => some ((s.fan.runN * 50 : Nat))
  | 7 => some s.backlog
  | 8 => some s.farmLoad
  | k => if 16 ≤ k ∧ k ≤ 31 then some (s.clusterStatus (k - 16)) else none

/-- Clock-recovery and parameter windows (R230). -/
def State.mirror4810 (s : State) (p : Path) (sub : Nat) : Option Int :=
  let x := s.crCopy p
  match sub with
  | 2 => some x.order
  | 3 => some x.ui
  | 4 => some x.k1
  | 5 => some x.k2
  | 6 => some x.edges
  | 7 => some x.settle
  | _ => none

def State.mirror4820 (s : State) (p : Path) (sub : Nat) : Option Int :=
  let x := s.paramCopy p
  match sub with
  | 2 => some x.method
  | 3 => some x.histMin
  | 4 => some x.midMode
  | 5 => some x.midPct
  | 6 => some x.midAbs
  | 7 => some x.hyst
  | 8 => some x.sense
  | _ => none

/-- The gate window (R231). -/
def State.mirror4A00 (s : State) (p : Path) (sub : Nat) : Option Int :=
  let g := s.gateCopy p
  let x := g.cfg
  match sub with
  | 2 => some (flag x.enable)
  | 3 => some x.kind
  | 4 => some x.slot
  | 5 => some x.fmode
  | 6 => some x.fval
  | 7 => some x.fmod
  | 8 => some x.line
  | 9 => some x.off
  | 10 => some x.len
  | 11 => some x.chans
  | 12 => some x.meas
  | 13 => some x.cr
  | 14 => some x.param
  | 15 => some x.plane
  | 16 => some x.policy
  | 18 => some g.seq
  | 19 => some g.instances
  | 20 => some g.misfits
  | _ => none

/-- The result window (R232). -/
def State.mirror4C00 (s : State) (p : Path) (sub : Nat) : Option Int :=
  let r := s.resCopy p
  match sub with
  | 2 => some r.last.bits
  | 3 => some r.min_.bits
  | 4 => some r.max_.bits
  | 5 => some r.mean.bits
  | 6 => some r.std.bits
  | 7 => some r.count
  | 8 => some (wrapU 64 r.index)
  | 9 => some r.seq
  | 10 => some r.status
  | _ => none

/-- The plane window (R251 to R253). -/
def State.mirror4E00 (s : State) (p : Path) (sub : Nat) : Option Int :=
  let x := s.planeCopy p
  match sub with
  | 2 => some x.cfg.kind
  | 3 => some x.cfg.uis
  | 4 => some x.cfg.lo
  | 5 => some x.cfg.hi
  | 6 => some x.cfg.width
  | 7 => some x.cfg.nv
  | 10 => some x.latched
  | 11 => some x.points
  | 12 => some x.outside
  | 13 => some x.unlocked
  | 14 => some x.hits
  | 15 => some x.satLost
  | 16 => some x.lostTiles
  | 17 => some x.lostLines
  | 18 => some x.mask.length
  | k => if 20 ≤ k ∧ k ≤ 51 then some ((tget (fun _ => 0) x.cfg.verts (k - 20) : Nat)) else none

/-- SNAP_STATE: 0 no snapshot, 1 PENDING, 2 READY (R244). -/
def State.snapState (s : State) : Nat :=
  match s.windowSnap with
  | some x => if x.ready then 2 else 1
  | none => 0

/-- The snapshot window (R254). Header and bins without a READY snapshot are free values (log entry 73). -/
def State.mirror4E10 (s : State) (sub : Nat) : Option Int :=
  let snap := s.windowSnap.filter (fun x => x.ready)
  match sub with
  | 2 => some s.snapState
  | 3 => some (match snap with | some x => ((ofLe x.header : Nat) : Int) | none => ((s.fv (2 ^ 512) : Nat) : Int))
  | 5 => some (match snap with | some x => ((ofLe (x.row (s.rdN O.SNAP_ROW)) : Nat) : Int) | none => ((s.fv (2 ^ 16384) : Nat) : Int))
  | _ => none

/-- The display window (R255). A grain that the buffer does not hold is a free value (log entry 73). -/
def State.mirror4E20 (s : State) (sub : Nat) : Option Int :=
  let x := s.disp (s.rdN O.DISP_BUFFER)
  match sub with
  | 2 => some x.entry
  | 3 => some x.ch
  | 4 => some x.start
  | 5 => some x.len
  | 6 => some x.factor
  | 8 => some x.state
  | 9 => some x.pairs
  | 11 => some (match x.grains[s.rdN O.DISP_GRAIN_ROW]? with | some g => ((ofLe g.bytes : Nat) : Int) | none => ((s.fv (2 ^ 768) : Nat) : Int))
  | _ => none

/-- 4E30h (R256). -/
def State.mirror4E30 (s : State) (sub : Nat) : Option Int :=
  match sub with
  | 1 => some s.planesInUse
  | 2 => some s.farm.snaps.length
  | 3 => some (((List.range 16).filter (fun f => !(s.farm.snaps.any (fun x => x.frame == f)))).length : Nat)
  | _ => none

/-- The mirrors of chapters 02 to 08. -/
def State.mirrorA (s : State) (p : Path) (idx sub : Nat) : Option Int :=
  if idx / 1024 = 12 then s.mirror30 (idx / 256 % 4) sub
  else if idx / 1024 = 13 then
    (if idx % 256 = 0x10 then s.mirrorCoef p (idx / 256 % 4) sub else s.mirror34 (idx / 256 % 4) sub)
  else if idx = 0x4000 then s.mirror40 sub
  else if 0x4010 ≤ idx ∧ idx < 0x4018 then (if sub = 24 then some ((s.slotStatus (idx - 0x4010) : Nat)) else none)
  else if idx = 0x4030 then s.mirror4030 sub
  else if idx / 256 = 0x41 then s.mirror41 (idx % 256) sub
  else if idx = 0x4200 then s.mirror4200 p sub
  else if idx = 0x4201 then s.mirror4201 sub
  else if idx = 0x4400 then s.mirror4400 sub
  else if idx = 0x4401 then s.mirror4401 p sub
  else if idx = 0x4800 then s.mirror4800 sub
  else if idx = 0x4810 then s.mirror4810 p sub
  else if idx = 0x4820 then s.mirror4820 p sub
  else if idx = 0x4A00 then s.mirror4A00 p sub
  else if idx = 0x4C00 then s.mirror4C00 p sub
  else if idx = 0x4E00 then s.mirror4E00 p sub
  else if idx = 0x4E10 then s.mirror4E10 sub
  else if idx = 0x4E20 then s.mirror4E20 sub
  else if idx = 0x4E30 then s.mirror4E30 sub
  else none

end Sys2Proof.Machine
end

