-- ==== Sys2Proof/Machine/MirrorsB.lean ====
section
/-!
DEFINITION. What the readable objects of chapters 09 to 13 show where it is not a stored value: Fantail, dressing, layering and
faults, the Governor, the event timer and the monitor converters.
-/

namespace Sys2Proof.Machine

/-! ### Chapter 09 -/

/-- FANTAIL_STATUS (R282). -/
def State.fantailStatus (s : State) : Nat :=
  let up := fun (l : Nat) => (s.loop l).lock && (s.loop l).gate
  at_ (s.loop 0).lock 0 + at_ (s.loop 1).lock 1 + at_ (up 2) 2 + at_ (up 3) 3 + at_ (up 4) 4 + at_ (up 5) 5 + at_ (up 6) 6
    + at_ s.fan.fallback 8 + at_ (s.fan.active == 1) 9 + at_ s.fan.standbyReady 10

/-- 2300h (R281). -/
def State.mirror2300 (s : State) (sub : Nat) : Option Int :=
  match sub with
  | 1 => some s.fan.tb
  | 3 => some s.fan.detected
  | 4 => some (roundDiv s.correctionNow 1000)
  | 5 => some s.fan.phaseError
  | 7 => some s.fantailStatus
  | 8 => some s.fan.sscApplied
  | _ => none

/-! ### Chapter 10 -/

/-- DRESS_STATUS (R299). -/
def State.dressStatus (s : State) : Nat :=
  at_ (s.rd O.GAP_DRESS_ENABLE == 1) 0 + at_ (!s.dress.applying.isEmpty) 1 + at_ s.dress.commit.isSome 2 + at_ s.dress.uncommitted 3
    + at_ s.dress.fallback 4

/-- 5000h (R298). -/
def State.mirror5000 (s : State) (sub : Nat) : Option Int :=
  match sub with
  | 1 => some s.dressStatus
  | 2 => some s.dress.passes.length
  | 4 => some s.dress.generation
  | 5 => some ((at_ s.dress.copyA.isSome 0 + at_ s.dress.copyB.isSome 1 + at_ (s.dress.inForce == 1) 2 : Nat))
  | 6 => some s.dress.commitResult
  | _ => none

/-- A quality figure of a unit: as loaded from flash, or measured, as a REAL32 pattern (R300). -/
def UnitDress.figure (x : UnitDress) (u n : Nat) : Nat :=
  if x.qFlash then Config.quality u n % 2 ^ 32
  else match n with
    | 0 => x.q1
    | 1 => x.q2
    | _ => x.q3

/-- The unit window (R300): of the event timer's unit 0x0803 only the figures. -/
def State.mirror5010 (s : State) (p : Path) (sub : Nat) : Option Int :=
  let (u, stage, x, left) := tget (fun _ => ((0x0100, 0, {}, 0) : Nat × Nat × UnitDress × Nat)) s.dress.win (side p)
  let own := fun (v : Int) => if u == 0x0803 then 0 else v
  match sub with
  | 2 => some (own stage)
  | 3 => some (own x.outcome)
  | 4 => some (x.figure u 0)
  | 5 => some (x.figure u 1)
  | 6 => some (x.figure u 2)
  | 7 => some (own x.disagree)
  | 8 => some (own left)
  | 9 => some (own (wrapU 64 x.index))
  | 10 => some (own x.epoch)
  | 11 => some (own x.passes)
  | _ => none

/-- Seconds of Run time since the earliest acceptance among the items given (R301). -/
def State.oldestAge (s : State) (items : List Nat) : Int :=
  match (items.filterMap (fun i => tfind s.dress.ages i)) with
  | [] => 0xFFFFFFFF
  | t :: ts => (((s.runTime - ts.foldl min t) / sec 1 : Nat) : Int)

/-- 5020h (R301). -/
def State.mirror5020 (s : State) (sub : Nat) : Option Int :=
  if 1 ≤ sub ∧ sub ≤ 5 then some (s.oldestAge [sub - 1])
  else if 6 ≤ sub ∧ sub ≤ 9 then some (s.oldestAge ((List.range 64).map (fun j => 5 + 64 * (sub - 6) + j)))
  else none

/-! ### Chapter 11 -/

/-- Unused, unretired spares of each kind, in the order of 5200h.19 to .24 (R322). -/
def State.spareSlices (s : State) : Nat :=
  ((List.range 16).filter (fun k => let q := s.quad k; !q.layered && !q.failed && q.pending.isNone && !q.retired.contains q.spare)).length
def State.sparePcs (s : State) : Nat := ((List.range 4).filter (fun h => !(s.half h).layered && !(s.half h).failed && !(s.half h).spareRetired)).length
def State.spareRunners (s : State) : Nat :=
  (clusterNos.filter (fun k => !(s.cluster k).layered && !(s.cluster k).retired.contains 16)).length
def State.spareLanes (s : State) : Nat := ([16, 17].filter (fun l => 4 ≤ (s.lane l).group && (s.lane l).st != 7)).length
def State.sparePairs (s : State) : Nat :=
  ([4, 5].filter (fun g => !(s.link g).spareIn && !(s.link g).out && !(pairLanes g true).any (fun l => (s.lane l).st == 7))).length
def State.sparePhases (s : State) : Nat := ((List.range 6).map (fun g => 2 - (s.retiredPhases g).length)).foldl (· + ·) 0

/-- LAYER_STATUS (R323). -/
def State.layerStatus (s : State) : Nat :=
  at_ s.layeringNow 0 + at_ s.layer.mapDue.isSome 1 + at_ (!s.layer.asks.isEmpty) 2
    + at_ (wearUnits.any (fun u => s.policy u == 2 && s.worn u)) 3

/-- 5200h (R322). -/
def State.mirror5200 (s : State) (sub : Nat) : Option Int :=
  match sub with
  | 1 => some s.layerStatus
  | 16 => some s.layer.asks.length
  | 19 => some s.spareSlices
  | 20 => some s.sparePcs
  | 21 => some s.spareRunners
  | 22 => some s.spareLanes
  | 23 => some s.sparePairs
  | 24 => some s.sparePhases
  | 25 => some (flag s.fan.standbyReady)
  | _ => none

/-- The wear window (R324). -/
def State.mirror5210 (s : State) (p : Path) (sub : Nat) : Option Int :=
  let (_, w, st, left) := tget (fun _ => ((0x0100, {}, 0, 0) : Nat × UnitWear × Nat × Nat)) s.layer.win (side p)
  match sub with
  | 2 => some w.w
  | 3 => some w.src
  | 4 => some w.peak
  | 5 => some st
  | 6 => some left
  | 7 => some w.layerings
  | _ => none

/-- FAULT_STATUS (R326). -/
def State.faultStatus (s : State) : Nat := at_ (s.dev == .faulted) 0 + at_ s.fault.faultN 1 + at_ (!s.fault.prev.isEmpty) 2

/-- 5400h (R325). -/
def State.mirror5400 (s : State) (sub : Nat) : Option Int :=
  match sub with
  | 1 => some s.faultStatus
  | 2 => some s.fault.next
  | 4 => some s.fault.uncovered
  | 5 => some ((s.fault.cause.getD 0xFFFFFFFF : Nat))
  | k =>
    if 10 ≤ k ∧ k ≤ 17 then
      some (match s.fault.prev[k - 10]? with
        | some r => ((ofLe { r with flags := setBit r.flags 1 true }.bytes : Nat) : Int)
        | none => 0)
    else none

/-- The fault window (R327): an empty row reads zeros. -/
def State.mirror5410 (s : State) (p : Path) (sub : Nat) : Option Int :=
  if sub = 1 then none
  else
    match tfind s.fault.win (side p) with
    | none => some 0
    | some r =>
      match sub with
      | 2 => some ((ofLe r.bytes : Nat))
      | 3 => some r.seq
      | 4 => some r.kind
      | 5 => some r.unit
      | 6 => some r.outcome
      | _ => some (wrapU 64 r.index)

/-! ### Chapter 12 -/

/-- GOV_STATUS (R347). -/
def State.govStatus (s : State) : Nat :=
  let g := s.gov
  at_ g.winSince.isSome 0 + at_ g.pgood 1 + at_ g.capLimited 2 + at_ g.lidLimited 3 + at_ (g.step == 11) 4 + at_ g.closed 5
    + at_ g.vinLow 6 + at_ g.vinHigh 7 + at_ s.mon.distrust.isSome 8

/-- 2200h (R346). -/
def State.mirror2200 (s : State) (sub : Nat) : Option Int :=
  match sub with
  | 1 => some s.govStatus
  | 2 => some s.gov.power
  | 6 => some s.gov.step
  | 18 => some ((s.gov.energy / 1000 : Nat))
  | 27 => some s.gov.shutdown
  | _ => none

/-! ### Chapter 13 -/

/-- TIMER_STATUS (R369). -/
def State.timerStatus (s : State) : Nat :=
  let t := s.timer
  let dead := match t.rearm with | some r => decide (4096 * s.coarse < r) | none => false
  at_ (s.rd O.TIMER_MODE != 0 && s.timerRuns && !dead && t.pair.isNone) 0 + at_ t.pair.isSome 1 + at_ (t.queue.length == 16) 2
    + at_ s.timerDead 3

/-- 2400h (R368). STAMP_NEXT, whose read removes a record, is the router's. -/
def State.mirror2400 (s : State) (sub : Nat) : Option Int :=
  match sub with
  | 1 => some s.timerStatus
  | 5 => some s.timer.queue.length
  | 7 => some s.timer.seq
  | 12 => some s.timer.gen
  | 13 => some (wrapS 32 (Config.pathDelay 0))
  | 14 => some (wrapS 32 (Config.pathDelay 1))
  | _ => none

/-- MON_STATUS (R372). -/
def State.monStatus (s : State) : Nat :=
  at_ s.monOn 0 + at_ ((s.conv 0).next.isSome || (s.conv 1).next.isSome) 1 + at_ (s.conv 0).inSequence 2 + at_ (s.conv 1).inSequence 3
    + at_ s.mon.distrust.isSome 4

/-- MON_OFFSET: four INTEGER8 codes, gain 1 lowest. -/
def MonConv.packed (x : MonConv) : Nat := ofLe (x.offsets.map (wrapU 8))

/-- 2500h (R371). -/
def State.mirror2500 (s : State) (sub : Nat) : Option Int :=
  match sub with
  | 1 => some s.monStatus
  | 6 => some (s.conv 0).packed
  | 7 => some (s.conv 1).packed
  | 9 => some (s.conv 0).result
  | 10 => some (s.conv 1).result
  | 11 => some (s.conv 0).corr
  | 12 => some (s.conv 1).corr
  | _ => none

/-- The table window (R363, R374): the selected entry of the shadow table itself. -/
def State.mirror2510 (s : State) (sub : Nat) : Option Int :=
  let (m, r) := s.mon.sel
  let e := ((s.conv m).shadow[r]?).getD (0, 1, 0)
  match sub with
  | 3 => some e.1
  | 4 => some e.2.1
  | 5 => some e.2.2
  | 6 => some (s.conv (s.rdN O.MT_CONVERTER)).shadowLen
  | _ => none

/-- The sequence window (R364, R374). -/
def State.mirror2520 (s : State) (p : Path) (sub : Nat) : Option Int :=
  let (_, r, code) := tget (fun _ => ((0, 0, 0) : Nat × Nat × Nat)) s.mon.win (side p)
  let e := sequenceRow r
  match sub with
  | 3 => some e.1
  | 4 => some e.2.1
  | 5 => some e.2.2
  | 6 => some code
  | _ => none

/-- The mirrors of chapters 09 to 13. -/
def State.mirrorB (s : State) (p : Path) (idx sub : Nat) : Option Int :=
  if idx = 0x2300 then s.mirror2300 sub
  else if idx = 0x5000 then s.mirror5000 sub
  else if idx = 0x5010 then s.mirror5010 p sub
  else if idx = 0x5020 then s.mirror5020 sub
  else if idx = 0x5200 then s.mirror5200 sub
  else if idx = 0x5210 then s.mirror5210 p sub
  else if idx = 0x5400 then s.mirror5400 sub
  else if idx = 0x5410 then s.mirror5410 p sub
  else if idx = 0x2200 then s.mirror2200 sub
  else if idx = 0x2400 then s.mirror2400 sub
  else if idx = 0x2410 then (if sub = 4 then some ((tget (fun _ => 0) s.timer.win (side p) : Nat)) else none)
  else if idx = 0x2500 then s.mirror2500 sub
  else if idx = 0x2510 then s.mirror2510 sub
  else if idx = 0x2520 then s.mirror2520 p sub
  else none

end Sys2Proof.Machine
end

