-- ==== Sys2Proof/Machine/MirrorsC.lean ====
section
/-!
DEFINITION. What the readable objects of chapters 14 to 18 show where it is not a stored value, the communication objects among
them; then the value of any readable object (R380, R400, R412).
-/

namespace Sys2Proof.Machine

/-! ### Chapters 14 and 15 -/

/-- CAN_STATUS (R398). -/
def State.canStatus (s : State) : Nat := at_ (s.net.nodeId == 0) 0 + at_ s.net.passive 1 + at_ s.net.busOff 2 + at_ s.net.storePending 3

/-- 2F00h (R397). -/
def State.mirror2F00 (s : State) (sub : Nat) : Option Int :=
  match sub with
  | 1 => some s.net.nodeId
  | 2 => some s.net.storedNode
  | 3 => some s.net.balls
  | 4 => some s.net.storedRate
  | 5 => some s.canStatus
  | 10 => some s.net.sdoMax
  | 11 => some s.net.odMax
  | _ => none

/-- The last refusal (R395). -/
def State.mirror2F10 (s : State) (sub : Nat) : Option Int :=
  let r := s.net.refusal
  match sub with
  | 1 => some r.reason
  | 2 => some r.abort
  | 3 => some r.object
  | 4 => some r.command
  | 5 => some r.plan
  | 6 => some r.path
  | 7 => some r.count
  | _ => none

/-- MODULE_STATUS (R407). -/
def State.moduleStatus (s : State) : Nat :=
  at_ (s.dev == .faulted) 0 + at_ (!s.dress.passes.isEmpty) 1 + at_ (!s.layer.asks.isEmpty) 2 + at_ s.upd.session.isSome 3
    + at_ s.dress.uncommitted 4 + at_ s.gov.closed 5 + at_ (!s.fault.degraded.isEmpty) 6 + at_ s.spareLow 7 + at_ s.unref 8

/-- FW_VERSION: the release running is that of the bank Boot started. -/
def State.fwRunning (s : State) : Nat := (s.bank s.upd.sel.active).version % 2 ^ 32

/-- 2000h (R406). -/
def State.mirror2000 (s : State) (sub : Nat) : Option Int :=
  match sub with
  | 1 => some 0x00044280
  | 2 => some s.devState
  | 3 => some s.acq
  | 4 => some ((Config.serialNumber % 2 ^ 32 : Nat))
  | 5 => some ((Config.hwRevision % 2 ^ 16 : Nat))
  | 6 => some s.fwRunning
  | 7 => some ((Config.dictionaryVersion % 2 ^ 32 : Nat))
  | 8 => some s.layer.boots
  | 9 => some ((s.runTime / sec 1 : Nat))
  | 10 => some s.seq
  | 11 => some s.moduleStatus
  | _ => none

/-- 2100h (R409). -/
def State.mirror2100 (s : State) (sub : Nat) : Option Int :=
  match sub with
  | 2 => some s.net.lastCmd
  | 3 => some s.net.cmds
  | 4 => some s.net.lastCmdPath
  | _ => none

/-- Communication objects that show more than a stored value: 1000h, 1001h, 1003h, 1014h, 1018h (R321, R386, R405). -/
def State.mirrorComm (s : State) (idx sub : Nat) : Option Int :=
  if idx = 0x1001 then some s.errReg
  else if idx = 0x1003 then
    some (if sub = 0 then ((s.net.history.length : Nat) : Int) else (((s.net.history[sub - 1]?).getD 0 : Nat) : Int))
  else if idx = 0x1014 then some ((tfind s.od 0x101400).getD ((0x80 + s.net.nodeId : Nat)))
  else if idx = 0x1018 then
    match sub with
    | 1 => some ((Config.vendorId % 2 ^ 32 : Nat))
    | 2 => some 0x00044280
    | 3 => some ((s.fwRunning % 65536 + s.fwRunning / 2 ^ 24 % 256 * 65536 : Nat))
    | 4 => some ((Config.serialNumber % 2 ^ 32 : Nat))
    | _ => none
  else none

/-! ### Chapters 16 to 18 -/

/-- The stream window (R445). -/
def State.mirror5610 (s : State) (sub : Nat) : Option Int :=
  let x := s.stream s.streamRow
  match sub with
  | 2 => some x.group
  | 3 => some x.kind
  | 4 => some x.a
  | 5 => some x.b
  | 6 => some x.chans
  | 9 => some x.state
  | 10 => some x.credit
  | 11 => some x.frames
  | _ => none

/-- 5700h (R446). -/
def State.mirror5700 (s : State) (sub : Nat) : Option Int :=
  match sub with
  | 1 => some s.hedgeStatus
  | 3 => some (s.nb 4).epoch
  | 4 => some (s.nb 5).epoch
  | 5 => some (s.nb 4).offset
  | 6 => some (s.nb 5).offset
  | 7 => some (s.nb 4).latency
  | 8 => some (s.nb 5).latency
  | _ => none

/-- BANK_STATE (R464): 0 no marker, 1 complete, 2 candidate, 3 rejected, 4 active and confirmed, 5 active on trial. -/
def State.bankState (s : State) (b : Nat) : Nat :=
  let w := s.upd.sel
  if w.active == b then (if w.trial then 5 else 4)
  else if w.candidate == some b then 2
  else if bit w.rejected b then 3
  else b2n (s.bank b).marker.isSome

/-- Seconds left to confirm, rounded down (R462). -/
def State.confirmLeft (s : State) : Nat := match s.upd.trialEnd with | some t => (t - s.clk.now) / sec 1 | none => 0

/-- 5800h (R464). -/
def State.mirror5800 (s : State) (sub : Nat) : Option Int :=
  match sub with
  | 1 => some s.upd.state
  | 2 => some s.upd.source
  | 7 => some s.upd.staging.length
  | 10 => some s.confirmLeft
  | 11 => some s.upd.sel.active
  | 12 => some (s.bankState 0)
  | 13 => some (s.bankState 1)
  | 14 => some (((s.bank 0).version % 2 ^ 32 : Nat))
  | 15 => some (((s.bank 1).version % 2 ^ 32 : Nat))
  | 16 => some s.upd.sel.gen
  | 17 => some s.upd.sel.boots
  | 18 => some s.upd.outcome
  | 19 => some s.upd.reject
  | 21 => some (s.fwd 0).state
  | 22 => some (s.fwd 1).state
  | _ => none

/-- COUNTER_ALL (R468): the 512 places as 4,096 bytes. -/
def State.counterAll (s : State) : Nat := ofLe ((List.range 512).flatMap (fun n => leBytes 8 (s.place n)))

/-- 5F00h (R476). -/
def State.mirror5F00 (s : State) (sub : Nat) : Option Int :=
  match sub with
  | 1 => some s.traceStatus
  | 2 => some s.trace.next
  | 3 => some s.oldestTrace
  | 6 => some s.trace.queue.length
  | 7 => some s.counterAll
  | _ => none

/-- The trace window (R478): a row never written reads zeros. -/
def State.mirror5F10 (s : State) (p : Path) (sub : Nat) : Option Int :=
  if sub = 1 then none
  else
    match tfind s.trace.win (side p) with
    | none => some 0
    | some e =>
      match sub with
      | 2 => some ((ofLe e.bytes : Nat))
      | 3 => some e.seq
      | 4 => some e.event
      | _ => some (wrapU 64 e.index)

/-- The mirrors of chapters 14 to 18. -/
def State.mirrorC (s : State) (p : Path) (idx sub : Nat) : Option Int :=
  if idx < 0x2000 then s.mirrorComm idx sub
  else if idx = 0x2000 then s.mirror2000 sub
  else if idx = 0x2100 then s.mirror2100 sub
  else if idx = 0x2F00 then s.mirror2F00 sub
  else if idx = 0x2F10 then s.mirror2F10 sub
  else if idx = 0x5600 then (if sub = 1 then some ((s.tailStatus : Nat)) else none)
  else if idx = 0x5601 then some ((s.laneStatus (sub - 1) : Nat))
  else if idx = 0x5602 then some ((s.groupStatus (sub - 1) : Nat))
  else if idx = 0x5610 then s.mirror5610 sub
  else if idx = 0x5700 then s.mirror5700 sub
  else if idx = 0x5701 then (if sub = 7 then some ((s.sluice.ctbLevels : Nat)) else none)
  else if idx = 0x5800 then s.mirror5800 sub
  else if 0x5E00 ≤ idx ∧ idx < 0x5E40 then some ((s.place (8 * (idx - 0x5E00) + (sub - 1)) : Nat))
  else if idx = 0x5F00 then s.mirror5F00 sub
  else if idx = 0x5F10 then s.mirror5F10 p sub
  else none

/-! ### Any readable object -/

/-- Objects of which each path has its own copy (R412, R452): the rows and selectors of the latched windows, and the parameters of
an update session. -/
def perPath (idx sub : Nat) : Bool :=
  [0x3410, 0x3510, 0x3610, 0x3710, 0x2410, 0x2520, 0x4200, 0x4401, 0x4810, 0x4820, 0x4A00, 0x4C00, 0x4E00, 0x5010, 0x5210, 0x5410,
    0x5F10].contains idx || (idx == 0x5800 && 3 ≤ sub && sub ≤ 5)

/-- The value of a readable object on a path. -/
def State.value (s : State) (p : Path) (idx sub : Nat) : Int :=
  let k := objKey idx sub
  match (if idx < 0x2F11 ∨ 0x5600 ≤ idx then s.mirrorC p idx sub else none) with
  | some v => v
  | none =>
    match s.mirrorA p idx sub with
    | some v => v
    | none =>
      match s.mirrorB p idx sub with
      | some v => v
      | none => s.rd (if perPath idx sub then win p k else k)

end Sys2Proof.Machine
end

