-- ==== Sys2Proof/Machine/Router.lean ====
section
/-!
DEFINITION. The Miller: what a read or a write of any object does (R380, R399 to R403), the commands (R389 to R393), and the
rows of the table that are an access: the thirteen commands, OBJECT_WRITE, LAST_TRIG_INDEX_READ; then GATE_REOPEN and LOOP_LOCK_TIMEOUT,
after which accesses that waited for a stopped domain are served (R23, R264, R265).
-/

namespace Sys2Proof.Machine

/-! ### Reads -/

/-- The length of an object's content in bytes, as a read returns it. -/
def objLen (idx sub : Nat) : Nat :=
  match findRow idx sub with
  | some r => if r.ty == .dom then r.hi.toNat else r.ty.bytes
  | none => 1

/-- May the object be read (R394, R399, R400, R402)? -/
def readCheck (idx sub : Nat) : Except Rej Unit :=
  match findRow idx sub with
  | some r => if r.acc == .wo then .error { abort := Why.writeOnly, reason := Why.ACCESS_WRITE_ONLY } else .ok ()
  | none =>
    if !knownIdx idx then .error { abort := Why.noObject, reason := Why.OBJECT_UNKNOWN }
    else if sub == 0 && decide (0x2000 ≤ idx) then .ok ()
    else .error { abort := Why.noSub, reason := Why.SUBINDEX_UNKNOWN }

/-- A read of an object on a path: its value, and what the read does where it does something (R403): STAMP_NEXT, LAST_TRIG_INDEX,
the snapshot window's time-out. -/
def readObject (p : Path) (idx sub : Nat) (s : State) : RRes :=
  match readCheck idx sub with
  | .error e => .error e
  | .ok _ =>
    if sub == 0 && decide (0x2000 ≤ idx) then .ok (s, (topSub idx : Nat))
    else if idx == 0x2400 && sub == 6 then readStamp s
    else if idx == 0x4000 && sub == 9 then .ok (s.latchTrig, s.value p idx sub)
    else if idx == 0x4E10 then
      if sub == 5 && s.snapState == 1 then .error { abort := Why.badState, reason := Why.PLANE_SNAPSHOT_PENDING }
      else .ok (s.touchSnap, s.value p idx sub)
    else .ok (s, s.value p idx sub)

/-! ### Writes -/

/-- A write whose row checks have passed, in the front end, the Bolters and the Sluice. -/
def writeFront (p : Path) (idx sub : Nat) (v : Int) (s : State) : WRes :=
  let c := idx / 256 % 4
  let k := objKey idx sub
  if idx < 0x3400 then
    match sub with
    | 1 => writeEnable c v s
    | 2 => writeRange c false v s
    | 3 => writeRange c true v s
    | _ => writeFeStatus c v s
  else if idx < 0x3800 && idx % 256 == 0x10 then
    match sub with
    | 1 => writeCoefStage p c v s
    | 2 => writeCoefIndex p c v s
    | 3 => writeCoefValue p c v s
    | 4 => writeCoefShift p c v s
    | 8 => writeCoefPreset p c s
    | _ => writeCoefApply p c s
  else if idx < 0x3800 then
    match sub with
    | 7 => writeFade c v s
    | 8 => writeBankSwap c s
    | 15 => s.put (canonKey k) v
    | _ => writeBolter c sub v s
  else if 0x4010 ≤ idx ∧ idx < 0x4018 then writeSlot (idx - 0x4010) sub v s
  else if 0x4020 ≤ idx ∧ idx < 0x4024 then writeLevel k v s
  else if k == O.RASTER_FRAME_COUNT then writeFrameCount v s
  else s.put k v

/-- In plans, directory, Millpond, farm and planes. -/
def writeStored (p : Path) (idx sub : Nat) (v : Int) (s : State) : WRes :=
  let k := objKey idx sub
  if idx / 256 = 0x41 then writePlan (idx % 256) sub v s
  else if idx = 0x4200 then writeDirRow p v s
  else if idx = 0x4201 then writeAck v s
  else if idx = 0x4400 then (if shareSub sub then writeShare sub v s else writeBwLimit v s)
  else if idx = 0x4401 then writeGapRow p v s
  else if k = O.RESULT_INTERVAL then writeInterval v s
  else if idx = 0x4810 then
    match sub with
    | 1 => writeCrRow p v s
    | 8 => writeCrApply p s
    | _ => writeCrField p sub v s
  else if idx = 0x4820 then
    match sub with
    | 1 => writeParamRow p v s
    | 9 => writeParamApply p s
    | _ => writeParamField p sub v s
  else if idx = 0x4A00 then
    match sub with
    | 1 => writeGateRow p v s
    | 17 => writeGateApply p s
    | 21 => writeGateReset p s
    | _ => writeGateField p sub v s
  else if idx = 0x4C00 then writeResRow p v s
  else if idx = 0x4E00 then
    match sub with
    | 1 => writePlaneRow p v s
    | 8 => writePlaneApply p s
    | 9 => writePlaneClear p s
    | _ => writePlaneField p sub v s
  else if idx = 0x4E10 then
    match sub with
    | 1 => writeSnapPlane v s
    | 6 => writeSnapRelease s
    | _ => s.touchSnap.put k v
  else if idx = 0x4E20 then
    match sub with
    | 1 => s.put k v
    | 7 => writeDispGo s
    | 10 => s.put k v
    | _ => writeDispField sub v s
  else s.put k v

/-- In Fantail, dressing, layering, Governor, event timer and monitor converters. -/
def writeClocks (p : Path) (idx sub : Nat) (v : Int) (s : State) : WRes :=
  let k := objKey idx sub
  if idx = 0x2300 then
    match sub with
    | 2 => writeRefSelect v s
    | 18 => writeSscCommit v s
    | 19 => s.put k v
    | _ => writeSsc k v s
  else if idx = 0x5000 then writeGapEnable v s
  else if idx = 0x5010 then writeDressUnit p v s
  else if idx = 0x5200 then
    match sub with
    | 12 => s.put k v
    | 13 => s.put k v
    | 14 => writeAnswer 1 v s
    | 15 => writeAnswer 7 v s
    | _ => writePolicy k v s
  else if idx = 0x5210 then writeWearUnit p v s
  else if idx = 0x5410 then writeFaultRow p v s
  else if idx = 0x2200 then
    match sub with
    | 20 => writeDozeNow s
    | 5 => writeRunMax v s
    | _ => s.put k v
  else if idx = 0x2400 then (if sub = 2 then writeTimerMode v s else s.put k v)
  else if idx = 0x2410 then (if sub = 3 then writeTtRow p v s else s.put (win p k) v)
  else if idx = 0x2500 then (if sub = 5 then writeMonTest v s else writeInject v s)
  else if idx = 0x2510 then
    match sub with
    | 1 => s.put k v
    | 2 => writeMtRow v s
    | 6 => writeMtLength v s
    | 7 => writeMtApply s
    | _ => writeMtField k v s
  else if idx = 0x2520 then (if sub = 2 then writeSqRow p v s else s.put (win p k) v)
  else s.put k v

/-- In field network, Tailrace, Hedge, CTB, update and observation; `len` the data's length. -/
def writeLinks (p : Path) (idx sub len : Nat) (v : Int) (s : State) : WRes :=
  let k := objKey idx sub
  if idx = 0x2F00 then writeNode sub v s
  else if idx = 0x5610 then
    match sub with
    | 1 => s.put k v
    | 7 => writeStreamGo s
    | 8 => writeStreamAbort s
    | _ => writeStreamField sub v s
  else if idx = 0x5701 then writeCtbRole sub v s
  else if idx = 0x5800 then
    match sub with
    | 5 => s.put (win p k) v
    | 6 => writeUpdData p len v s
    | 8 => writeUpdAbort p s
    | 9 => writeConfirm s
    | 20 => s.put k v
    | _ => writeUpdParam p k v s
  else if idx = 0x5F10 then writeTraceRow p v s
  else s.put k v

/-- What a write does once its row checks have passed, but for COMMAND and GATE_BULK. -/
def writeEffect (p : Path) (idx sub len : Nat) (v : Int) (s : State) : WRes :=
  if idx < 0x2000 then writeComm idx sub v s
  else if onlyZero (objKey idx sub) then .ok (s.clearCounter (objKey idx sub))
  else if 0x3000 ≤ idx ∧ idx < 0x4100 then writeFront p idx sub v s
  else if 0x4100 ≤ idx ∧ idx < 0x5000 then writeStored p idx sub v s
  else if idx = 0x2F00 ∨ 0x5600 ≤ idx then writeLinks p idx sub len v s
  else writeClocks p idx sub v s

/-! ### Commands (R389 to R393) -/

/-- The codes of R390. -/
def cmdCodes : List Nat := [0x01, 0x02, 0x03, 0x04, 0x05, 0x10, 0x11, 0x20, 0x21, 0x30, 0x31, 0x40, 0x50]

/-- A cell of the legality matrix (R392). -/
inductive Cell where
  | accept | noEffect | refuse
  deriving DecidableEq, Repr

/-- Columns: Idle, Armed, Holding, Dressing, Sleep, Faulted. -/
def matrixRow (code : Nat) : List Cell :=
  match code with
  | 0x02 | 0x03 => [.noEffect, .accept, .noEffect, .accept, .refuse, .noEffect]
  | 0x01 | 0x04 | 0x10 | 0x11 => [.accept, .accept, .accept, .accept, .refuse, .refuse]
  | 0x20 => [.accept, .refuse, .accept, .refuse, .refuse, .refuse]
  | 0x21 => [.accept, .noEffect, .accept, .noEffect, .refuse, .noEffect]
  | _ => [.accept, .accept, .accept, .accept, .refuse, .accept]

/-- The column of the device state being entered (R30). In the recovery service of R461 commands are accepted as in Idle. -/
def State.matrixCol (s : State) : Nat :=
  match s.dev with
  | .boot => 0
  | .sleep => 4
  | .faulted => 5
  | .run => if !s.dress.passes.isEmpty then 3 else s.acqEntering - 1

def State.cell (s : State) (code : Nat) : Cell := ((matrixRow code)[s.matrixCol]?).getD .refuse

/-- Checks 1 and 2 of R391. -/
def cmdWordCheck (code rsv arg : Nat) : Option Nat :=
  if !cmdCodes.contains code then some Why.COMMAND_UNKNOWN
  else if rsv != 0 then some Why.COMMAND_ARGUMENT
  else if 0x11 ≤ code && arg != 0 then some Why.COMMAND_ARGUMENT
  else if code == 0x10 && !unitKnown arg then some Why.UNIT_INVALID
  else if code ≤ 0x05 && arg == 0 then some Why.PLAN_MASK_EMPTY
  else none

/-- RESET_STATS: results, planes and every counter that accepts only 0 (R223, R246). -/
def State.resetStats (s : State) : State :=
  let gates : List Nat := s.farm.gates.map (fun (e : Nat × Gate) => e.1) ++ s.farm.recs.map (fun (e : Nat × Rec) => e.1 / 32)
    ++ s.farm.insts.map (fun (i : Inst) => i.gate)
  let s := gates.eraseDups.foldl (fun (s : State) g => s.resetGate g) s
  let planes : List Nat := s.farm.planes.map (fun (e : Nat × Plane) => e.1) ++ s.farm.insts.map (fun (i : Inst) => i.cfg.plane)
  let s := (planes.eraseDups.filter (· < 4096)).foldl (fun (s : State) n => s.clearPlane n) s
  { s with od := s.od.filter (fun e => !onlyZero e.1), net := { s.net with sdoMax := 0, odMax := 0 }, gov := { s.gov with energy := 0 } }

/-- DECIM_SYNC (R88, R89): at the first raw-grain boundary after it reaches the GRAIN domain; between the registration of a SYNC_IN edge
and sample 0 of its epoch, at that sample. -/
def cmdDecim (s : State) : WRes :=
  if s.gov.power == 2 then notNow Why.POWER_STATE
  else
    .ok { s.adv with origin := { s.origin with resets := s.origin.resets ++ [s.clk.now + s.fv 4000 + 1] } }

/-- A refusal leaves the state as it was. -/
def orSame (s : State) (r : WRes) : BothRes :=
  match r with
  | .ok t => (t, none, 0)
  | .error e => (s, some e, 0)

/-- Check 4 of R391 and the effect, by code. -/
def cmdEffect (p : Path) (code arg : Nat) (s : State) : BothRes :=
  let governed := fun (r : WRes) => let s' := countLimit s r; orSame s' r
  match code with
  | 0x01 => governed (cmdArm arg s)
  | 0x02 => orSame s (cmdStop arg s)
  | 0x03 => orSame s (cmdHold arg s)
  | 0x04 => orSame s (cmdForce arg s)
  | 0x05 => orSame s (cmdRelease arg s)
  | 0x10 => governed (cmdDressGov arg s)
  | 0x11 => orSame s (cmdCommit s)
  | 0x20 => orSame s (cmdSleep p s)
  | 0x21 => orSame s (cmdWake s)
  | 0x30 => orSame s (cmdUpdateBegin p s)
  | 0x31 =>
    match s.endUpdate (pathSource p) with
    | (t, none) => (t, none, 0)
    | (t, some why) => (t, some { abort := Why.badState, reason := why }, 0)
  | 0x40 => (s.resetStats, none, 0)
  | _ => orSame s (cmdDecim s)

/-- An accepted command is recorded and traced (R409, R472). -/
def State.noteCommand (p : Path) (w : Nat) (s : State) : State :=
  let s := { s with net := { s.net with lastCmd := w, lastCmdPath := p.code, cmds := (s.net.cmds + 1) % 2 ^ 32 } }.bump 463
  s.trace_ 6 0 0xFFFF (w + p.code * 2 ^ 32)

/-- A command word judged and obeyed (R391, R392). -/
def writeCommand (p : Path) (w : Nat) (s : State) : BothRes :=
  let code := w % 256
  let arg := w / 65536
  match cmdWordCheck code (w / 256 % 256) arg with
  | some why => (s, some { abort := Why.badValue, reason := why }, 0)
  | none =>
    match s.cell code with
    | .refuse => (s, some { abort := Why.badState, reason := Why.DEVICE_STATE }, 0)
    | .noEffect => (s.noteCommand p w, none, 0)
    | .accept =>
      match cmdEffect p code arg s with
      | (t, none, n) => (t.noteCommand p w, none, n)
      | r => r

/-! ### One access -/

def Acc.isCommand (a : Acc) : Bool := a.write && a.idx == 0x2100 && a.sub == 1

/-- What a write comes to, with DETAIL of R430. -/
def performWrite (a : Acc) (s : State) : BothRes :=
  if a.isCommand then
    match writeCheck a.idx a.sub a.len a.v with
    | .error e => (s, some e, 0)
    | .ok _ => writeCommand a.path a.v.toNat s
  else if a.idx == 0x5604 && a.sub == 1 then s.bothChecked a (writeGateBulk a.len a.v)
  else s.bothChecked a (fun s => orSame s (writeEffect a.path a.idx a.sub a.len a.v s))

/-- Bytes that an expedited SDO frame carries, and bytes of a segment (PRESUMED, log entry 9). -/
def sdoShort : Nat := 56
def sdoSegment : Nat := 60

/-- A read over SDO of a longer content goes on in segments, from the content as it stood (R379). -/
def State.openRead (a : Acc) (s : State) : State :=
  let n := objLen a.idx a.sub
  if a.path == .sdo && s.net.last.abort == 0 && sdoShort < n then
    let x : Xfer := { idx := a.idx, sub := a.sub, write := false, size := n, moved := 0, data := s.net.last.value.toNat, last := s.clk.now }
    { s with net := { s.net with xfer := some x } }
  else s

/-- The Miller serves an access (R380). -/
def State.serveAcc (asked : Time) (a : Acc) (s : State) : State :=
  if a.write then State.answerBoth a (if a.isCommand then wrapU 32 a.v else 0) asked (performWrite a s)
  else (s.serveRead a asked (readObject a.path a.idx a.sub)).openRead a

/-- An access from outside. -/
def State.hostAccess (a : Acc) (s : State) : State := s.access a (fun s => s.serveAcc s.clk.now a)

/-! ### The rows -/

/-- A command word from a path. -/
def State.command (p : Path) (code rsv arg : Nat) (s : State) : State :=
  s.hostAccess { path := p, write := true, idx := 0x2100, sub := 1, len := 4, v := (arg * 65536 + rsv % 256 * 256 + code : Nat) }

def execArm (p : Path) (rsv arg : Nat) (s : State) : Host.Outcome State Fault Refusal := s.done (s.command p 0x01 rsv arg)
def execStop (p : Path) (rsv arg : Nat) (s : State) : Host.Outcome State Fault Refusal := s.done (s.command p 0x02 rsv arg)
def execHold (p : Path) (rsv arg : Nat) (s : State) : Host.Outcome State Fault Refusal := s.done (s.command p 0x03 rsv arg)
def execForce (p : Path) (rsv arg : Nat) (s : State) : Host.Outcome State Fault Refusal := s.done (s.command p 0x04 rsv arg)
def execRelease (p : Path) (rsv arg : Nat) (s : State) : Host.Outcome State Fault Refusal := s.done (s.command p 0x05 rsv arg)
def execDress (p : Path) (rsv arg : Nat) (s : State) : Host.Outcome State Fault Refusal := s.done (s.command p 0x10 rsv arg)
def execCommitDress (p : Path) (rsv arg : Nat) (s : State) : Host.Outcome State Fault Refusal := s.done (s.command p 0x11 rsv arg)
def execSleep (p : Path) (rsv arg : Nat) (s : State) : Host.Outcome State Fault Refusal := s.done (s.command p 0x20 rsv arg)
def execWake (p : Path) (rsv arg : Nat) (s : State) : Host.Outcome State Fault Refusal := s.done (s.command p 0x21 rsv arg)
def execUpdateBegin (p : Path) (rsv arg : Nat) (s : State) : Host.Outcome State Fault Refusal := s.done (s.command p 0x30 rsv arg)
def execUpdateEnd (p : Path) (rsv arg : Nat) (s : State) : Host.Outcome State Fault Refusal := s.done (s.command p 0x31 rsv arg)
def execResetStats (p : Path) (rsv arg : Nat) (s : State) : Host.Outcome State Fault Refusal := s.done (s.command p 0x40 rsv arg)
def execDecimSync (p : Path) (rsv arg : Nat) (s : State) : Host.Outcome State Fault Refusal := s.done (s.command p 0x50 rsv arg)

/-- OBJECT_WRITE: `len` bytes of data of value `v`. -/
def execObjectWrite (p : Path) (idx sub len : Nat) (v : Int) (s : State) : Host.Outcome State Fault Refusal :=
  s.done (s.hostAccess { path := p, write := true, idx := idx, sub := sub, len := len, v := v })

/-- LAST_TRIG_INDEX_READ (R123). -/
def execLastTrigIndexRead (p : Path) (s : State) : Host.Outcome State Fault Refusal :=
  s.done (s.hostAccess { path := p, write := false, idx := 0x4000, sub := 9, len := 0, v := 0 })

/-- NODE_ID_WRITE (R377), STORE_PARAMETERS, RESTORE_PARAMETERS (R383), ERROR_HISTORY_CLEAR (R386). -/
def execNodeIdWrite (p : Path) (sub : Nat) (v : Int) (s : State) : Host.Outcome State Fault Refusal :=
  s.done (if sub == 2 || sub == 4 then s.write p (objKey 0x2F00 sub) v (writeNode sub v) else s)
def execStoreParameters (p : Path) (v : Int) (s : State) : Host.Outcome State Fault Refusal := s.done (s.write p (objKey 0x1010 2) v (writeStore v))
def execRestoreParameters (p : Path) (v : Int) (s : State) : Host.Outcome State Fault Refusal := s.done (s.write p (objKey 0x1011 2) v (writeRestore v))
def execErrorHistoryClear (p : Path) (v : Int) (s : State) : Host.Outcome State Fault Refusal := s.done (s.write p (objKey 0x1003 0) v writeHistory)

/-! ### RPDOs at the Miller, and GATE_REOPEN -/

/-- The accesses of an RPDO (R384), in mapping order. -/
def rpdoAccs : List Nat → List Nat → List Acc
  | [], _ => []
  | w :: ws, data =>
    let n := mapBytes w
    let u := ofLe (data.take n)
    let v : Int := match findRow (mapIdx w) (mapSub w) with
      | some r => (match r.ty with | .i8 | .i16 | .i32 | .i64 => wrapS (8 * n) u | _ => u)
      | none => u
    { path := .rpdo, write := true, idx := mapIdx w, sub := mapSub w, len := n, v := v } :: rpdoAccs ws (data.drop n)

/-- Every access of an RPDO is applied or refused on its own. -/
def State.applyRpdo (n : Nat) (data : List Nat) (s : State) : State :=
  (rpdoAccs (s.mapping false n) data).foldl (fun s a => s.hostAccess a) s

/-- What waits at the Miller, in order of arrival: single accesses, and RPDOs applied on receipt. -/
def mergeWaiting : Nat → List (Time × Acc) → List (Time × Nat × List Nat) → List (Time × (Acc ⊕ Nat × List Nat))
  | 0, _, _ => []
  | _ + 1, [], rs => rs.map (fun r => (r.1, .inr r.2))
  | _ + 1, as, [] => as.map (fun a => (a.1, .inl a.2))
  | n + 1, a :: as, r :: rs =>
    if a.1 ≤ r.1 then (a.1, .inl a.2) :: mergeWaiting n as (r :: rs) else (r.1, .inr r.2) :: mergeWaiting n (a :: as) rs

/-- RPDO n is applied at a SYNC. -/
def State.syncRpdo (s : State) (n : Nat) : Bool := decide (s.pdoType false n ≤ 240)

/-- One that waited is served, or goes on waiting: for its own section, or behind one that does. -/
def State.serveHeld (e : Time × (Acc ⊕ Nat × List Nat)) (s : State) : State :=
  match e.2 with
  | .inl a => if s.waits a.idx then { s with net := { s.net with held := s.net.held ++ [(e.1, a)] } } else s.serveAcc e.1 a
  | .inr (n, data) =>
    if s.net.held.isEmpty then s.applyRpdo n data else { s with net := { s.net with rpdos := s.net.rpdos ++ [(e.1, n, data)] } }

/-- The Miller takes up what waited, in order (R23, R24, R380). -/
def State.serveWaiting (s : State) : State :=
  if s.stopped 4 then s
  else
    let (keep, go) := s.net.rpdos.partition (fun r => s.syncRpdo r.2.1)
    let w := mergeWaiting (s.net.held.length + go.length) s.net.held go
    w.foldl (fun s e => s.serveHeld e) { s with net := { s.net with held := [], rpdos := keep } }

/-- GATE_REOPEN (R265, R23): the gate of loop l opens, and what waited behind it goes on. -/
def State.reopen (l : Nat) (s : State) : State :=
  let t := s.gateReopen l
  if s.stopped l && !t.stopped l then (if l == 2 then t.serveReads else t).serveWaiting
  else t

/-- LOOP_LOCK_TIMEOUT (R264): for a domain that is lost for good nothing waits any longer. -/
def State.searchOver (l : Nat) (s : State) : State :=
  let t := s.lockFailed l
  if (t.loop l).dead && !(s.loop l).dead then t.serveWaiting else t

def execLoopLockTimeout (l : Nat) (s : State) : Host.Outcome State Fault Refusal := s.finish (s.searchOver l)

def execGateReopen (l : Nat) (s : State) : Host.Outcome State Fault Refusal := s.finish (s.reopen l)

end Sys2Proof.Machine
end

