-- ==== Sys2Proof/Machine/Net.lean ====
section
/-!
DEFINITION. The field network (chapter 14): SDO requests (R379), PDOs and SYNC (R382 to R385), EMCY, heartbeat and the CAN
controller's states (R386, R387), NMT (R32, R378); and OD requests on the Tailrace (R388, R430).
-/

namespace Sys2Proof.Machine

/-- The CAN controller runs: not in Boot, Off, from the end of the way down to the wake, or while its clock, CTL divided by 10, stands
still (R21, R33, R266, R339). -/
def State.canOn (s : State) : Bool := s.net.serving && !s.gov.canOff && !s.gov.off && !s.stopped 4

/-- It sends, and obeys what it receives: its node-ID is not 0 (R377). -/
def State.canServes (s : State) : Bool := s.canOn && s.net.nodeId != 0

/-- It may send a frame now. -/
def State.canSends (s : State) : Bool := s.canServes && !s.net.busOff

/-- A frame leaves under a COB-ID. -/
def State.sendCan (cob len data : Nat) (s : State) : State := { s with net := { s.net with sent := tset cob { len := len, data := data } s.net.sent } }

/-! ### SDO (R379) -/

/-- An SDO access. -/
def sdoAcc (write : Bool) (idx sub len : Nat) (v : Int) : Acc := { path := .sdo, write := write, idx := idx, sub := sub, len := len, v := v }

/-- Refuse the request at hand: the transfer, if any, is over. -/
def State.sdoFail (idx sub : Nat) (r : Rej) (s : State) : State :=
  let a := sdoAcc true idx sub 0 0
  ((s.dropXfer .sdo).refuse a 0 r).respond a s.clk.now 0 r.abort r.reason

def protocolError : Rej := { abort := Why.specifier, reason := Why.PROTOCOL }

/-- A data type whose values are signed. -/
def signedAt (idx sub : Nat) : Bool :=
  match findRow idx sub with
  | some r => (match r.ty with | .i8 | .i16 | .i32 | .i64 => true | _ => false)
  | none => false

/-- Bytes of a written value, little-endian, as its type reads them. -/
def valueOf (idx sub len u : Nat) : Int := if signedAt idx sub then wrapS (8 * len) u else u

/-- A segment of a write in progress; the last one applies the whole. -/
def State.sdoSegmentIn (x : Xfer) (len v : Nat) (last : Bool) (s : State) : State :=
  let moved := x.moved + len
  if sdoSegment < len then s.sdoFail x.idx x.sub protocolError
  else if x.size < moved || (last && moved != x.size) then s.sdoFail x.idx x.sub { abort := Why.typeLength, reason := Why.TYPE_LENGTH }
  else
    let data := x.data + v % 256 ^ len * 256 ^ x.moved
    if last then s.hostAccess (sdoAcc true x.idx x.sub x.size (valueOf x.idx x.sub x.size data))
    else
      let s := { s with net := { s.net with xfer := some { x with moved := moved, data := data, last := s.clk.now } } }
      s.respond (sdoAcc true x.idx x.sub 0 0) s.clk.now 0 0 0

/-- The next segment of a read in progress. -/
def State.sdoSegmentOut (x : Xfer) (s : State) : State :=
  let n := min sdoSegment (x.size - x.moved)
  let moved := x.moved + n
  let s := { s with net := { s.net with xfer := if moved == x.size then none else some { x with moved := moved, last := s.clk.now } } }
  s.respond (sdoAcc false x.idx x.sub 0 0) s.clk.now ((x.data / 256 ^ x.moved % 256 ^ n : Nat) : Int) 0 0

/-- SDO_REQUEST: requests that the NMT state or a silent controller does not allow are ignored (R378). -/
def State.sdoRequest (r : SdoIn) (s : State) : State :=
  if !s.admits .sdo || s.stopped 4 then s
  else
    match r with
    | .read idx sub => s.hostAccess (sdoAcc false idx sub 0 0)
    | .write idx sub len v => if sdoShort < len then s.sdoFail idx sub protocolError else s.hostAccess (sdoAcc true idx sub len v)
    | .begin_ idx sub size =>
      let x : Xfer := { idx := idx, sub := sub, write := true, size := size, moved := 0, data := 0, last := s.clk.now }
      let s := { s with net := { s.net with xfer := some x } }
      s.respond (sdoAcc true idx sub 0 0) s.clk.now 0 0 0
    | .segment len v last =>
      match s.net.xfer with
      | some x => if x.write then s.sdoSegmentIn x len v last else s.sdoFail x.idx x.sub protocolError
      | none => s.sdoFail 0 0 protocolError
    | .next =>
      match s.net.xfer with
      | some x => if x.write then s.sdoFail x.idx x.sub protocolError else s.sdoSegmentOut x
      | none => s.sdoFail 0 0 protocolError
    | .abort => s.dropXfer .sdo
    | .malformed => s.sdoFail 0 0 protocolError

def execSdoRequest (r : SdoIn) (s : State) : Host.Outcome State Fault Refusal := s.done (s.sdoRequest r)

/-- TRANSFER_TIMEOUT: 1 s without the next segment. -/
def State.transferTimeout (s : State) : State :=
  match s.net.xfer with
  | some x =>
    if s.due (x.last + sec 1) then
      let r : Rej := { abort := Why.timedOut, reason := Why.TRANSFER_TIMEOUT }
      let s := (s.dropXfer .sdo).refuse (sdoAcc x.write x.idx x.sub 0 0) 0 r
      { s with net := { s.net with last := { path := .sdo, idx := x.idx, sub := x.sub, value := 0, abort := r.abort, reason := r.reason } } }
    else s
  | none => s

def execTransferTimeout (s : State) : Host.Outcome State Fault Refusal := s.done s.transferTimeout

/-! ### PDOs (R382 to R384) -/

/-- Bit 4 of 1001h is set for 1 s, and a message of the network's own codes goes out (R386). -/
def State.busError (code : Nat) (s : State) : State :=
  let s := { s with fault := { s.fault with canUntil := some (s.clk.now + sec 1) } }
  s.emcyCode code

/-- RPDO_RECEIVED: RPDO n, its data as bytes. A synchronous one waits for SYNC; another is applied, or waits while an access waits at the
Miller. The queue holds 16. -/
def State.rpdoReceived (n : Nat) (data : List Nat) (s : State) : State :=
  if !s.canServes || s.net.nmt != .operational || 8 ≤ n || !s.pdoValid false n then s
  else if data.length != mapLen (s.mapping false n) then s.busError 0x8210
  else if !s.syncRpdo n && s.net.held.isEmpty then
    { s with net := { s.net with overrun := false } }.applyRpdo n data
  else if s.net.rpdos.length < 16 then
    { s with net := { s.net with overrun := false, rpdos := s.net.rpdos ++ [(s.clk.now, n, data)] } }
  else
    let first := !s.net.overrun
    let s := { s.sat O.RPDO_LOST with net := { (s.sat O.RPDO_LOST).net with overrun := true } }
    if first then s.busError 0x8110 else s

def execRpdoReceived (n : Nat) (data : List Nat) (s : State) : Host.Outcome State Fault Refusal := s.done (s.rpdoReceived n data)

def State.tpdoSt (s : State) (n : Nat) : TpdoSt := tget (fun _ => {}) s.net.tpdo n
def State.setTpdo (n : Nat) (x : TpdoSt) (s : State) : State := { s with net := { s.net with tpdo := tset n x s.net.tpdo } }

/-- A sampling of a mapping: its values, and what reading them does (R383). -/
def State.sampleMap : List Nat → State → State × List Int
  | [], s => (s, [])
  | w :: ws, s =>
    let (s, v) := match readObject .sdo (mapIdx w) (mapSub w) s with
      | .ok (t, v) => (t, v)
      | .error _ => (s, 0)
    let (s, vs) := s.sampleMap ws
    (s, v :: vs)
termination_by structural l => l

/-- The data field that values of a mapping make, as a little-endian number. -/
def packMap (m : List Nat) (vs : List Int) : Nat :=
  ofLe ((m.zip vs).flatMap (fun e => leBytes (mapBytes e.1) (wrapU (8 * mapBytes e.1) e.2)))

/-- TPDO n is sent with sampled values. -/
def State.sendTpdo (n : Nat) (m : List Nat) (vs : List Int) (x : TpdoSt) (s : State) : State :=
  let s := s.sendCan (s.rdN (pdoKey true n 1) % 2048) (mapLen m) (packMap m vs)
  s.setTpdo n { x with sentAt := some s.clk.now, sampled := vs, changed := false }

/-- A SYNC as a synchronous TPDO sees it: type 0 is sent when a value has changed since it was last sent, type k at every kth SYNC,
counted from the SYNC whose counter equals the start value (CiA 1301). -/
def State.syncTpdo (counter : Option Nat) (n : Nat) (s : State) : State :=
  let ty := s.pdoType true n
  if !s.pdoValid true n || 240 < ty then s
  else
    let m := s.mapping true n
    let x := s.tpdoSt n
    let start := s.rdN (pdoKey true n 6)
    if start != 0 && s.rdN 0x101900 != 0 && x.syncs == 0 && x.sentAt.isNone && counter != some start then s
    else if ty == 0 then
      let (s, vs) := s.sampleMap m
      if vs != x.sampled then s.sendTpdo n m vs { x with syncs := 1 } else s.setTpdo n { x with syncs := 1 }
    else if ty ≤ x.syncs + 1 then
      let (s, vs) := s.sampleMap m
      s.sendTpdo n m vs { x with syncs := 0 }
    else s.setTpdo n { x with syncs := x.syncs + 1 }

/-- SYNC_RECEIVED (R385): synchronous TPDOs in ascending number, then the synchronous RPDOs received, in ascending number. -/
def State.syncReceived (counter : Option Nat) (s : State) : State :=
  if !s.canServes || (s.net.nmt != .preOp && s.net.nmt != .operational) then s
  else
    let s := { s with net := { s.net with syncCount := s.net.syncCount + 1 } }
    if s.net.nmt != .operational then s
    else
      let s := if s.net.busOff then s else (List.range 16).foldl (fun (s : State) n => s.syncTpdo counter n) s
      let (go, keep) := s.net.rpdos.partition (fun r => s.syncRpdo r.2.1)
      let s := { s with net := { s.net with rpdos := keep } }
      (List.range 8).foldl (fun (s : State) n => (go.filter (fun r => r.2.1 == n)).foldl (fun (s : State) r => s.applyRpdo n r.2.2) s) s

def execSyncReceived (counter : Option Nat) (s : State) : Host.Outcome State Fault Refusal := s.done (s.syncReceived counter)

/-- TPDO_EVENT: a 1 ms sampling of event-driven TPDO n (R383). The first sampling after it became valid, or after Start Remote Node, only
sets what a change is judged against. -/
def State.tpdoEvent (n : Nat) (s : State) : State :=
  let ty := s.pdoType true n
  if !s.canSends || s.net.nmt != .operational || 16 ≤ n || !s.pdoValid true n || ty < 254 then s
  else
    let m := s.mapping true n
    let x := s.tpdoSt n
    let (s, vs) := s.sampleMap m
    match x.sentAt with
    | none => s.setTpdo n { x with sentAt := some s.clk.now, sampled := vs }
    | some t =>
      let changed := x.changed || vs != x.sampled
      let timer := s.rdN (pdoKey true n 5)
      let expired := timer != 0 && s.due (t + ms timer)
      let free := s.due (t + us (100 * s.rdN (pdoKey true n 3)))
      if (changed || expired) && free then s.sendTpdo n m vs x else s.setTpdo n { x with sampled := vs, changed := changed }

def execTpdoEvent (n : Nat) (s : State) : Host.Outcome State Fault Refusal := s.done (s.tpdoEvent n)

/-! ### Heartbeat, EMCY, the controller (R375, R386, R387) -/

/-- The NMT state as a heartbeat shows it (CiA 1301). -/
def Nmt.code (m : Nmt) : Nat :=
  match m with
  | .init => 0
  | .stopped => 4
  | .operational => 5
  | .preOp => 127

/-- HEARTBEAT: at the period of 1017h, at most 1 ms early. -/
def State.heartbeat (s : State) : State :=
  let period := s.rdN 0x101700
  let due := match s.net.hbAt with | some t => s.due (t + ms (period - 1)) | none => true
  if !s.canSends || s.net.nmt == .init || period == 0 || !due then s
  else { s.sendCan (0x700 + s.net.nodeId) 1 s.net.nmt.code with net := { (s.sendCan (0x700 + s.net.nodeId) 1 s.net.nmt.code).net with hbAt := some s.clk.now } }

def execHeartbeat (s : State) : Host.Outcome State Fault Refusal := s.done s.heartbeat

/-- The eight bytes of an EMCY message: error code, error register, unit and SEQUENCE (R320, R386). -/
def Emcy.data (m : Emcy) : Nat := m.code % 2 ^ 16 + m.reg % 2 ^ 8 * 2 ^ 16 + m.unit % 2 ^ 16 * 2 ^ 24 + m.seq % 2 ^ 24 * 2 ^ 40

/-- The COB-ID of 1014h (R386). -/
def State.emcyCob (s : State) : Nat := ((tfind s.od 0x101400).getD ((0x80 + s.net.nodeId : Nat))).toNat

/-- May a message leave the queue? Not behind the inhibit time, bus-off, NMT Stopped or a silent controller. -/
def State.emcyFree (s : State) : Bool :=
  s.canSends && s.net.nmt != .stopped && s.net.nmt != .init && !bit s.emcyCob 31 &&
    (match s.net.emcyAt with | some t => s.due (t + us (100 * s.rdN 0x101500)) | none => true)

/-- EMCY_SEND: the oldest message is sent, counted, and, unless it announces the return to zero, entered in the history. -/
def State.emcySend (s : State) : State :=
  match s.fault.emcy with
  | m :: rest =>
    if s.emcyFree then
      let entry := m.code % 2 ^ 16 + m.hist % 2 ^ 16 * 2 ^ 16
      let s := (s.sendCan (s.emcyCob % 2048) 8 m.data).bump 464
      let history := if m.code == 0 then s.net.history else (entry :: s.net.history).take 16
      { s with fault := { s.fault with emcy := rest }, net := { s.net with emcyAt := some s.clk.now, history := history } }
    else s
  | [] => s

def execEmcySend (s : State) : Host.Outcome State Fault Refusal := s.done s.emcySend

/-- CAN_FRAME_IGNORED (R375): counted while the controller runs; a dominant edge wakes the module from Sleep all the same (R340). -/
def execCanFrameIgnored (s : State) : Host.Outcome State Fault Refusal :=
  s.done (if s.canOn then s.sat O.RX_IGNORED else s).canRxWake

/-- CAN_ERROR_STATE: 0 error active, 1 error passive, 2 bus-off. Leaving bus-off is the recovery that BUS_OFF_COUNT counts (R386). -/
def State.canError (e : Nat) (s : State) : State :=
  if !s.canOn then s
  else
    let s0 := s
    let set := fun (p b : Bool) (s : State) =>
      let up := !p && !b
      { s with net := { s.net with passive := p, busOff := b, activeSince := if up then some s.clk.now else none },
               fault := { s.fault with canBit := true } }
    match e with
    | 0 =>
      if s.net.busOff then ((set false false s).sat O.BUS_OFF_COUNT).emcyCode 0x8140
      else if s.net.passive then set false false s
      else s
    | 1 =>
      if s.net.passive then s
      else
        let s := set true false s
        let s := if s0.net.busOff then (s.sat O.BUS_OFF_COUNT).emcyCode 0x8140 else s
        s.emcyCode 0x8120
    | _ => if s.net.busOff then s else set false true s

def execCanErrorState (e : Nat) (s : State) : Host.Outcome State Fault Refusal := s.done (s.canError e)

/-- ERROR_REGISTER_BIT_4_CLEAR (R386): 1 s of error active, and 1 s after the last 0x8110 or 0x8210. -/
def State.bit4Clear (s : State) : State :=
  let f := s.fault
  let active := match s.net.activeSince with | some t => s.due (t + sec 1) | none => false
  let until_ := match f.canUntil with | some t => if s.due t then none else some t | none => none
  { s with fault := { f with canBit := f.canBit && !active, canUntil := until_ } }

def execErrorRegisterBit4Clear (s : State) : Host.Outcome State Fault Refusal := s.done s.bit4Clear

/-! ### NMT (R32, R378) -/

/-- Is an NMT command for this node, and does the node obey? -/
def State.nmtMine (s : State) (node : Nat) : Bool := s.canServes && s.net.nmt != .init && (node == 0 || node == s.net.nodeId)

def State.setNmt (m : Nmt) (s : State) : State := { s with net := { s.net with nmt := m } }

/-- On entering Operational what TPDOs judge changes against is taken anew; RPDOs received before are gone. -/
def State.startNode (s : State) : State :=
  if s.net.nmt == .operational then s else { s with net := { s.net with nmt := .operational, tpdo := [], rpdos := [], overrun := false } }

def execStartRemoteNode (node : Nat) (s : State) : Host.Outcome State Fault Refusal := s.done (if s.nmtMine node then s.startNode else s)

def execStopRemoteNode (node : Nat) (s : State) : Host.Outcome State Fault Refusal :=
  s.done (if s.nmtMine node then (s.setNmt .stopped).dropXfer .sdo else s)

def execEnterPreOperational (node : Nat) (s : State) : Host.Outcome State Fault Refusal := s.done (if s.nmtMine node then s.setNmt .preOp else s)

/-- RESET_NODE: as RESET_N, once a flash write has ended; obeyed on the way down into Sleep while the controller still runs. -/
def execResetNode (node : Nat) (s : State) : Host.Outcome State Fault Refusal := s.done (if s.nmtMine node then s.resetModule else s)

/-- RESET_COMMUNICATION: communication objects, node-ID and data rate afresh; the transfer is abandoned, the EMCY queue kept. -/
def State.resetComm (balls : Nat) (s : State) : State :=
  let s := s.commObjects
  let n := { s.net with xfer := none, rpdos := [], overrun := false, tpdo := [], history := [] }
  { s with net := n }.joinNetwork balls

def execResetCommunication (node balls : Nat) (s : State) : Host.Outcome State Fault Refusal :=
  s.done (if s.nmtMine node then s.resetComm balls else s)

/-! ### OD requests (R388, R430) -/

/-- The response to a request: sub-header and data. -/
def odResponse (q : OdReq) (r : Resp) (detail : Nat) : Frame :=
  let n := if q.op == 0 && r.abort == 0 then objLen q.idx q.sub else 0
  let head := leBytes 2 q.tag ++ [q.op, 0] ++ leBytes 2 q.idx ++ [q.sub, 0] ++ leBytes 4 n ++ leBytes 4 r.abort ++ leBytes 2 r.reason ++ [0, 0]
    ++ leBytes 4 detail
  { typ := 7, stream := 0, data := head ++ leBytes n (wrapU (8 * n) r.value) }

/-- The access that a request spells. -/
def OdReq.acc (q : OdReq) : Acc :=
  { path := .od, write := q.op != 0, idx := q.idx, sub := q.sub, len := q.data.length, v := valueOf q.idx q.sub q.data.length (ofLe q.data) }

/-- A request served: the state with its response recorded, and DETAIL. -/
def State.odServe (q : OdReq) (s : State) : State × Nat :=
  let a := q.acc
  if 1 < q.op then ((s.refuse a 0 protocolError).respond a s.clk.now 0 protocolError.abort protocolError.reason, 0)
  else if q.op == 0 then (s.serveAcc s.clk.now a, 0)
  else
    let r := performWrite a s
    let detail := if a.idx == 0x5604 && a.sub == 1 then r.2.2 else 0
    (State.answerBoth a (if a.isCommand then wrapU 32 a.v else 0) s.clk.now r, detail)

/-- OD_REQUEST: the oldest request reaches the Miller, while the queue of 8 frames takes its response (R15, R23); its response leaves on the group that brought it, and its credit returns (R432). -/
def State.odRequest (s : State) : State :=
  match s.tail.odQueue with
  | q :: rest =>
    if s.waits q.idx || 8 ≤ (s.tail.out.filter (fun e => decide (e.1 < 4))).length then s
    else
      let s := { s with tail := { s.tail with odQueue := rest } }
      let s := s.returnCredit q.group { typ := 6, stream := 0 }
      if s.admits .od || s.recovers q.acc then
        let (t, detail) := s.odServe q
        t.submit q.group (odResponse q t.net.last detail)
      else s
  | [] => s

def execOdRequest (s : State) : Host.Outcome State Fault Refusal := s.done s.odRequest

end Sys2Proof.Machine
end

