-- ==== Sys2Proof/Machine/Dispatch.lean ====
section
/-!
DEFINITION. One arm per command: its meaning, or its rejection by name.
-/

namespace Sys2Proof.Machine

/-- What a command does to everything but the queue. -/
def exec (i : Instr) (s : State) : Host.Outcome State Fault Refusal :=
  match i with
  | .arm p rsv arg => Sys2Proof.Machine.execArm p rsv arg s
  | .stop p rsv arg => Sys2Proof.Machine.execStop p rsv arg s
  | .hold p rsv arg => Sys2Proof.Machine.execHold p rsv arg s
  | .force p rsv arg => Sys2Proof.Machine.execForce p rsv arg s
  | .release p rsv arg => Sys2Proof.Machine.execRelease p rsv arg s
  | .dress p rsv arg => Sys2Proof.Machine.execDress p rsv arg s
  | .commitDress p rsv arg => Sys2Proof.Machine.execCommitDress p rsv arg s
  | .sleep p rsv arg => Sys2Proof.Machine.execSleep p rsv arg s
  | .wake p rsv arg => Sys2Proof.Machine.execWake p rsv arg s
  | .updateBegin p rsv arg => Sys2Proof.Machine.execUpdateBegin p rsv arg s
  | .updateEnd p rsv arg => Sys2Proof.Machine.execUpdateEnd p rsv arg s
  | .resetStats p rsv arg => Sys2Proof.Machine.execResetStats p rsv arg s
  | .decimSync p rsv arg => Sys2Proof.Machine.execDecimSync p rsv arg s
  | .objectWrite p idx sub len v => Sys2Proof.Machine.execObjectWrite p idx sub len v s
  | .rangeOffsetWrite p c isOffset v => Sys2Proof.Machine.execRangeOffsetWrite p c isOffset v s
  | .rangeSwitch c => Sys2Proof.Machine.execRangeSwitch c s
  | .chEnableWrite p c v => Sys2Proof.Machine.execChEnableWrite p c v s
  | .channelReady c => Sys2Proof.Machine.execChannelReady c s
  | .feStatusWrite p c v => Sys2Proof.Machine.execFeStatusWrite p c v s
  | .counterClear p idx sub v => Sys2Proof.Machine.execCounterClear p idx sub v s
  | .bolterConfigWrite p c sub v => Sys2Proof.Machine.execBolterConfigWrite p c sub v s
  | .bolterChangeApply c => Sys2Proof.Machine.execBolterChangeApply c s
  | .bankSwap p c v => Sys2Proof.Machine.execBankSwap p c v s
  | .swapBegin c => Sys2Proof.Machine.execSwapBegin c s
  | .swapComplete c => Sys2Proof.Machine.execSwapComplete c s
  | .coefStageLatch p c v => Sys2Proof.Machine.execCoefStageLatch p c v s
  | .coefLoadPreset p c v => Sys2Proof.Machine.execCoefLoadPreset p c v s
  | .coefApply p c v => Sys2Proof.Machine.execCoefApply p c v s
  | .decimSyncEdge => Sys2Proof.Machine.execDecimSyncEdge s
  | .decimationReset => Sys2Proof.Machine.execDecimationReset s
  | .grainCycle g => Sys2Proof.Machine.execGrainCycle g s
  | .holdoffEnd n => Sys2Proof.Machine.execHoldoffEnd n s
  | .sequenceWindowExpire n => Sys2Proof.Machine.execSequenceWindowExpire n s
  | .trigOutPulseEnd => Sys2Proof.Machine.execTrigOutPulseEnd s
  | .ctbTriggerAssert => Sys2Proof.Machine.execCtbTriggerAssert s
  | .ctbQuery asserted => Sys2Proof.Machine.execCtbQuery asserted s
  | .ctbClkAbsent => Sys2Proof.Machine.execCtbClkAbsent s
  | .ctbClkPresent => Sys2Proof.Machine.execCtbClkPresent s
  | .rasterFrameEdge m => Sys2Proof.Machine.execRasterFrameEdge m s
  | .rasterLineEdge m => Sys2Proof.Machine.execRasterLineEdge m s
  | .rasterAbsent => Sys2Proof.Machine.execRasterAbsent s
  | .lastTrigIndexRead p => Sys2Proof.Machine.execLastTrigIndexRead p s
  | .slotConfigWrite p n sub v => Sys2Proof.Machine.execSlotConfigWrite p n sub v s
  | .rasterFrameCountWrite p v => Sys2Proof.Machine.execRasterFrameCountWrite p v s
  | .planCommandEffect q => Sys2Proof.Machine.execPlanCommandEffect q s
  | .segmentEnd q => Sys2Proof.Machine.execSegmentEnd q s
  | .directoryWrite => Sys2Proof.Machine.execDirectoryWrite s
  | .entryComplete seg => Sys2Proof.Machine.execEntryComplete seg s
  | .entryReleased seq => Sys2Proof.Machine.execEntryReleased seq s
  | .hostAckSeqWrite p v => Sys2Proof.Machine.execHostAckSeqWrite p v s
  | .dirRowLatch p v => Sys2Proof.Machine.execDirRowLatch p v s
  | .syncInEdge => Sys2Proof.Machine.execSyncInEdge s
  | .epochStart => Sys2Proof.Machine.execEpochStart s
  | .gapRangeWrite c => Sys2Proof.Machine.execGapRangeWrite c s
  | .shareWrite p sub v => Sys2Proof.Machine.execShareWrite p sub v s
  | .gapRowLatch p v => Sys2Proof.Machine.execGapRowLatch p v s
  | .storeRead rd => Sys2Proof.Machine.execStoreRead rd s
  | .writeBack ecc => Sys2Proof.Machine.execWriteBack ecc s
  | .scrubBurst sc => Sys2Proof.Machine.execScrubBurst sc s
  | .pcHardFailure lam row => Sys2Proof.Machine.execPcHardFailure lam row s
  | .pcCopyStart lam => Sys2Proof.Machine.execPcCopyStart lam s
  | .pcCopyStep => Sys2Proof.Machine.execPcCopyStep s
  | .pcMapSwitch => Sys2Proof.Machine.execPcMapSwitch s
  | .pcLossMarking lam => Sys2Proof.Machine.execPcLossMarking lam s
  | .instanceStep st => Sys2Proof.Machine.execInstanceStep st s
  | .runnerResidueError id lost => Sys2Proof.Machine.execRunnerResidueError id lost s
  | .retryWindowExpire id lost => Sys2Proof.Machine.execRetryWindowExpire id lost s
  | .measTimeout id => Sys2Proof.Machine.execMeasTimeout id s
  | .resultWriteEvent g => Sys2Proof.Machine.execResultWriteEvent g s
  | .resultIntervalWrite p v => Sys2Proof.Machine.execResultIntervalWrite p v s
  | .dressingSweep c => Sys2Proof.Machine.execDressingSweep c s
  | .spareSelfTest k pass => Sys2Proof.Machine.execSpareSelfTest k pass s
  | .crRowLatch p v => Sys2Proof.Machine.execCrRowLatch p v s
  | .crApply p v => Sys2Proof.Machine.execCrApply p v s
  | .paramRowLatch p v => Sys2Proof.Machine.execParamRowLatch p v s
  | .paramApply p v => Sys2Proof.Machine.execParamApply p v s
  | .gateRowLatch p v => Sys2Proof.Machine.execGateRowLatch p v s
  | .gateApply p v => Sys2Proof.Machine.execGateApply p v s
  | .gateReset p v => Sys2Proof.Machine.execGateReset p v s
  | .resRowLatch p v => Sys2Proof.Machine.execResRowLatch p v s
  | .planeRowLatch p v => Sys2Proof.Machine.execPlaneRowLatch p v s
  | .planeApply p v => Sys2Proof.Machine.execPlaneApply p v s
  | .planeClear p v => Sys2Proof.Machine.execPlaneClear p v s
  | .tileSpill run plane tile bad => Sys2Proof.Machine.execTileSpill run plane tile bad s
  | .snapPlaneWrite p v => Sys2Proof.Machine.execSnapPlaneWrite p v s
  | .snapshotReady n => Sys2Proof.Machine.execSnapshotReady n s
  | .snapRelease p v => Sys2Proof.Machine.execSnapRelease p v s
  | .snapTimeout => Sys2Proof.Machine.execSnapTimeout s
  | .dispGo p v => Sys2Proof.Machine.execDispGo p v s
  | .displayJobDone b => Sys2Proof.Machine.execDisplayJobDone b s
  | .refMeasurement kind far corr phase => Sys2Proof.Machine.execRefMeasurement kind far corr phase s
  | .refEdgeTimeout => Sys2Proof.Machine.execRefEdgeTimeout s
  | .timebaseDisciplined => Sys2Proof.Machine.execTimebaseDisciplined s
  | .refSelectWrite p v => Sys2Proof.Machine.execRefSelectWrite p v s
  | .timebaseStopped => Sys2Proof.Machine.execTimebaseStopped s
  | .loopLossOfLock l => Sys2Proof.Machine.execLoopLossOfLock l s
  | .loopLockTimeout l => Sys2Proof.Machine.execLoopLockTimeout l s
  | .loopLocked l => Sys2Proof.Machine.execLoopLocked l s
  | .gateReopen l => Sys2Proof.Machine.execGateReopen l s
  | .loopCommit => Sys2Proof.Machine.execLoopCommit s
  | .sscCommit p v => Sys2Proof.Machine.execSscCommit p v s
  | .twinLossOfLock => Sys2Proof.Machine.execTwinLossOfLock s
  | .standbyReady => Sys2Proof.Machine.execStandbyReady s
  | .twinWearSwap => Sys2Proof.Machine.execTwinWearSwap s
  | .passBegin u => Sys2Proof.Machine.execPassBegin u s
  | .passWaitTimeout u => Sys2Proof.Machine.execPassWaitTimeout u s
  | .passStageEnd u m => Sys2Proof.Machine.execPassStageEnd u m s
  | .passCompare u q => Sys2Proof.Machine.execPassCompare u q s
  | .passEnd u => Sys2Proof.Machine.execPassEnd u s
  | .passRestart u => Sys2Proof.Machine.execPassRestart u s
  | .applyStep u => Sys2Proof.Machine.execApplyStep u s
  | .gapWindowComplete item w => Sys2Proof.Machine.execGapWindowComplete item w s
  | .gapDressEnableWrite p v => Sys2Proof.Machine.execGapDressEnableWrite p v s
  | .commitComplete first second => Sys2Proof.Machine.execCommitComplete first second s
  | .dressUnitLatch p v => Sys2Proof.Machine.execDressUnitLatch p v s
  | .wearRecompute m => Sys2Proof.Machine.execWearRecompute m s
  | .askTimeout => Sys2Proof.Machine.execAskTimeout s
  | .layerGrant p v => Sys2Proof.Machine.execLayerGrant p v s
  | .layerDecline p v => Sys2Proof.Machine.execLayerDecline p v s
  | .policyWrite p sub v => Sys2Proof.Machine.execPolicyWrite p sub v s
  | .sliceWearLayering c q => Sys2Proof.Machine.execSliceWearLayering c q s
  | .sliceHardFailure c q sl => Sys2Proof.Machine.execSliceHardFailure c q sl s
  | .runnerLayering k => Sys2Proof.Machine.execRunnerLayering k s
  | .laneWearLayering g => Sys2Proof.Machine.execLaneWearLayering g s
  | .phaseLayering hard g n => Sys2Proof.Machine.execPhaseLayering hard g n s
  | .layeringMapWrite => Sys2Proof.Machine.execLayeringMapWrite s
  | .prevFaultFlashWrite => Sys2Proof.Machine.execPrevFaultFlashWrite s
  | .wearUnitLatch p v => Sys2Proof.Machine.execWearUnitLatch p v s
  | .faultRowLatch p v => Sys2Proof.Machine.execFaultRowLatch p v s
  | .supplyCondition kind begins v => Sys2Proof.Machine.execSupplyCondition kind begins v s
  | .thermalCondition sensor v => Sys2Proof.Machine.execThermalCondition sensor v s
  | .shutdownRestart => Sys2Proof.Machine.execShutdownRestart s
  | .supplyEstablished => Sys2Proof.Machine.execSupplyEstablished s
  | .railGroupStart => Sys2Proof.Machine.execRailGroupStart s
  | .railGroupFail => Sys2Proof.Machine.execRailGroupFail s
  | .resetN low ns => Sys2Proof.Machine.execResetN low ns s
  | .bootComplete b => Sys2Proof.Machine.execBootComplete b s
  | .firmwareBootDecision => Sys2Proof.Machine.execFirmwareBootDecision s
  | .idlePowerChange => Sys2Proof.Machine.execIdlePowerChange s
  | .dozeNow p v => Sys2Proof.Machine.execDozeNow p v s
  | .dozeAfterExpire => Sys2Proof.Machine.execDozeAfterExpire s
  | .dozeExitComplete => Sys2Proof.Machine.execDozeExitComplete s
  | .sleepReached => Sys2Proof.Machine.execSleepReached s
  | .wakeNLow ns held => Sys2Proof.Machine.execWakeNLow ns held s
  | .canRxWake => Sys2Proof.Machine.execCanRxWake s
  | .runReached => Sys2Proof.Machine.execRunReached s
  | .wakeTimeout late => Sys2Proof.Machine.execWakeTimeout late s
  | .governorEvaluation pin => Sys2Proof.Machine.execGovernorEvaluation pin s
  | .timerEdge start falling k f => Sys2Proof.Machine.execTimerEdge start falling k f s
  | .pairLimitExpire => Sys2Proof.Machine.execPairLimitExpire s
  | .timerRearm => Sys2Proof.Machine.execTimerRearm s
  | .timerModeWrite p v => Sys2Proof.Machine.execTimerModeWrite p v s
  | .stampNext p => Sys2Proof.Machine.execStampNext p s
  | .ttRowLatch p v => Sys2Proof.Machine.execTtRowLatch p v s
  | .monitorTableEntry m raw => Sys2Proof.Machine.execMonitorTableEntry m raw s
  | .monitorSequenceEnd m codes => Sys2Proof.Machine.execMonitorSequenceEnd m codes s
  | .monTest p v => Sys2Proof.Machine.execMonTest p v s
  | .crossCheck a22 b22 a23 b23 => Sys2Proof.Machine.execCrossCheck a22 b22 a23 b23 s
  | .injRequest p v => Sys2Proof.Machine.execInjRequest p v s
  | .injectedConversion m raw => Sys2Proof.Machine.execInjectedConversion m raw s
  | .mtApply p v => Sys2Proof.Machine.execMtApply p v s
  | .sqRowLatch p v => Sys2Proof.Machine.execSqRowLatch p v s
  | .sdoRequest r => Sys2Proof.Machine.execSdoRequest r s
  | .transferTimeout => Sys2Proof.Machine.execTransferTimeout s
  | .rpdoReceived n data => Sys2Proof.Machine.execRpdoReceived n data s
  | .syncReceived counter => Sys2Proof.Machine.execSyncReceived counter s
  | .tpdoEvent n => Sys2Proof.Machine.execTpdoEvent n s
  | .heartbeat => Sys2Proof.Machine.execHeartbeat s
  | .emcySend => Sys2Proof.Machine.execEmcySend s
  | .canFrameIgnored => Sys2Proof.Machine.execCanFrameIgnored s
  | .canErrorState e => Sys2Proof.Machine.execCanErrorState e s
  | .startRemoteNode node => Sys2Proof.Machine.execStartRemoteNode node s
  | .stopRemoteNode node => Sys2Proof.Machine.execStopRemoteNode node s
  | .enterPreOperational node => Sys2Proof.Machine.execEnterPreOperational node s
  | .resetNode node => Sys2Proof.Machine.execResetNode node s
  | .resetCommunication node balls => Sys2Proof.Machine.execResetCommunication node balls s
  | .nodeIdWrite p sub v => Sys2Proof.Machine.execNodeIdWrite p sub v s
  | .storeParameters p v => Sys2Proof.Machine.execStoreParameters p v s
  | .restoreParameters p v => Sys2Proof.Machine.execRestoreParameters p v s
  | .errorHistoryClear p v => Sys2Proof.Machine.execErrorHistoryClear p v s
  | .odRequest => Sys2Proof.Machine.execOdRequest s
  | .markerBoundary inv => Sys2Proof.Machine.execMarkerBoundary inv s
  | .markerReceived l m => Sys2Proof.Machine.execMarkerReceived l m s
  | .symbolLock l skew => Sys2Proof.Machine.execSymbolLock l skew s
  | .laneLossOfLock l n => Sys2Proof.Machine.execLaneLossOfLock l n s
  | .laneLockTimeout l => Sys2Proof.Machine.execLaneLockTimeout l s
  | .laneRejoin l => Sys2Proof.Machine.execLaneRejoin l s
  | .frameReceived g bytes => Sys2Proof.Machine.execFrameReceived g bytes s
  | .replayTimeout g => Sys2Proof.Machine.execReplayTimeout g s
  | .replayEscalation g => Sys2Proof.Machine.execReplayEscalation g s
  | .gateBulk p len v => Sys2Proof.Machine.execGateBulk p len v s
  | .streamGo p v => Sys2Proof.Machine.execStreamGo p v s
  | .streamAbort p v => Sys2Proof.Machine.execStreamAbort p v s
  | .deliveryFrame n => Sys2Proof.Machine.execDeliveryFrame n s
  | .creditTimeout n => Sys2Proof.Machine.execCreditTimeout n s
  | .hedgeEpochRecord g => Sys2Proof.Machine.execHedgeEpochRecord g s
  | .laneEnableWrite p v => Sys2Proof.Machine.execLaneEnableWrite p v s
  | .ctbRoleWrite p sub v => Sys2Proof.Machine.execCtbRoleWrite p sub v s
  | .updData p len v => Sys2Proof.Machine.execUpdData p len v s
  | .updateFrame => Sys2Proof.Machine.execUpdateFrame s
  | .sessionInactivity => Sys2Proof.Machine.execSessionInactivity s
  | .updAbort p v => Sys2Proof.Machine.execUpdAbort p v s
  | .bankWriteComplete good => Sys2Proof.Machine.execBankWriteComplete good s
  | .hedgeOffer => Sys2Proof.Machine.execHedgeOffer s
  | .hedgeAnswer => Sys2Proof.Machine.execHedgeAnswer s
  | .hedgeEnd => Sys2Proof.Machine.execHedgeEnd s
  | .forwardRetry k => Sys2Proof.Machine.execForwardRetry k s
  | .confirm p v => Sys2Proof.Machine.execConfirm p v s
  | .trialTimeout => Sys2Proof.Machine.execTrialTimeout s
  | .traceWrite => Sys2Proof.Machine.execTraceWrite s
  | .tracePortSend => Sys2Proof.Machine.execTracePortSend s
  | .traceRowLatch p v => Sys2Proof.Machine.execTraceRowLatch p v s
  | .railFault g v => Sys2Proof.Machine.execRailFault g v s
  | .errorRegisterBit4Clear => Sys2Proof.Machine.execErrorRegisterBit4Clear s

end Sys2Proof.Machine
end

