-- ==== Sys2Proof/Machine/Step.lean ====
section
/-!
DEFINITION. One step: the command at the front of the queue, or 64 sample periods of waiting.
-/

namespace Sys2Proof.Machine

/-- Nothing is commanded for one grain's time, 0.8 ns (DESIGN CHOICE, log entry 3). -/
def State.idle (s : State) : State := { s with clk := { s.clk with now := s.clk.now + 64 } }

/-- The command at the front of the queue has its effect on everything but the queue, which keeps the rest. -/
def step (s : State) : Host.Outcome State Fault Refusal :=
  match s.pending with
  | [] => .next s.idle
  | c :: rest => exec c { s with pending := rest }

/-- The state with the command that a table word spells at the front of its queue. -/
def State.withFetchWord (s : State) (nbits w : Nat) : State :=
  match decodeTableWord nbits w with
  | some c => { s with pending := c :: s.pending }
  | none => s

end Sys2Proof.Machine
end

