-- ==== Sys2Proof/WellFormed.lean ====
section
/-!
DEFINITION. Which operands a command or event of the table can have: numbers within the fields that carry them (R389, R401), units
that the module has (R19), and inputs that the pins, converters and sensors can bring.
-/

namespace Sys2Proof

/-- A byte, and a list of bytes. -/
def isByte (b : Nat) : Bool := decide (b < 256)
def areBytes (bs : List Nat) : Bool := bs.all isByte

/-- The 64 codes of each of the four channels (R41, R43), and names of channels, slices and pins that exist. -/
def GrainIn.wellFormed (g : GrainIn) : Bool :=
  decide (g.codes.length = 4) && g.codes.all (fun l => decide (l.length = 64) && l.all (fun x => decide (-512 ≤ x) && decide (x ≤ 511)))
    && g.big.all (fun c => decide (c < 4)) && g.fails.all (fun f => decide (f.1 < 4) && decide (f.2.1 < 4) && decide (f.2.2 < 17))
    && g.residue.all (fun e => decide (e.1 < 4) && decide (e.2 < 64)) && decide (g.ext < 16) && decide (g.ctb < 16)

/-- A read names one of the three regions and one of the classes 3 to 5; a grain has three bursts, a line two (R167, R174, R178). -/
def StoreRead.wellFormed (r : StoreRead) : Bool :=
  decide (3 ≤ r.cls) && decide (r.cls ≤ 5) && decide (r.region < 3) && decide (r.row < 16777216) && decide (r.ecc.length ≤ if r.region = 0 then 3 else 2)

/-- A runner of a cluster (R195). -/
def StepIn.wellFormed (i : StepIn) : Bool := decide (i.cluster < 16) && decide (i.runner < 17)

def AtRunner.wellFormed (i : AtRunner) : Bool := decide (i.cluster < 16) && decide (i.runner < 17)

/-- Tiles of planes, which a spill writes (R241, R242). -/
def areTiles (l : List (Nat × Nat)) : Bool := l.all (fun e => decide (e.1 < 4096) && decide (e.2 < 256))

/-- The straps have seven bits, and a reference is absent, 10 MHz or 100 MHz (R258, R377). -/
def BootIn.wellFormed (i : BootIn) : Bool := decide (i.balls < 128) && decide (i.ref ≤ 2) && decide (i.codes.length ≤ 2)

/-- An index of 16 bits, a sub-index of 8, and a segment no longer than its frame (R379). -/
def SdoIn.wellFormed (r : SdoIn) : Bool :=
  match r with
  | .read idx sub => decide (idx < 65536) && decide (sub < 256)
  | .write idx sub len _ => decide (idx < 65536) && decide (sub < 256) && decide (len ≤ 56)
  | .begin_ idx sub _ => decide (idx < 65536) && decide (sub < 256)
  | .segment len _ _ => decide (len ≤ 60)
  | .next => true
  | .abort => true
  | .malformed => true

/-- Can the command occur with these operands? -/
def Instr.wellFormed (i : Instr) : Bool :=
  match i with
  | .arm _ rsv arg | .stop _ rsv arg | .hold _ rsv arg | .force _ rsv arg | .release _ rsv arg | .dress _ rsv arg
  | .commitDress _ rsv arg | .sleep _ rsv arg | .wake _ rsv arg | .updateBegin _ rsv arg | .updateEnd _ rsv arg
  | .resetStats _ rsv arg | .decimSync _ rsv arg => decide (rsv < 256) && decide (arg < 65536)
  | .objectWrite _ idx sub _ _ | .counterClear _ idx sub _ => decide (idx < 65536) && decide (sub < 256)
  | .rangeOffsetWrite _ c _ _ | .chEnableWrite _ c _ | .feStatusWrite _ c _ | .bankSwap _ c _ | .coefStageLatch _ c _
  | .coefLoadPreset _ c _ | .coefApply _ c _ | .rangeSwitch c | .channelReady c | .bolterChangeApply c | .swapBegin c
  | .swapComplete c | .gapRangeWrite c | .dressingSweep c => decide (c < 4)
  | .bolterConfigWrite _ c sub _ => decide (c < 4) && decide (1 ≤ sub) && decide (sub ≤ 5)
  | .slotConfigWrite _ n sub _ => decide (n < 8) && decide (1 ≤ sub) && decide (sub ≤ 21)
  | .holdoffEnd n | .sequenceWindowExpire n => decide (n < 8)
  | .planCommandEffect q | .segmentEnd q => decide (q < 16)
  | .grainCycle g => g.wellFormed
  | .storeRead r => r.wellFormed
  | .scrubBurst sc => sc.rd.wellFormed
  | .instanceStep st => st.wellFormed
  | .runnerResidueError id lost => id.wellFormed && areTiles lost
  | .retryWindowExpire _ lost => areTiles lost
  | .measTimeout id => id.wellFormed
  | .governorEvaluation pin => pin < 65536
  | .bootComplete b => b.wellFormed
  | .sdoRequest r => r.wellFormed
  | .pcHardFailure lam row => decide (lam < 60) && decide (row < 16777216)
  | .pcCopyStart lam | .pcLossMarking lam => decide (lam < 60)
  | .sliceWearLayering c q => decide (c < 4) && decide (q < 4)
  | .sliceHardFailure c q sl => decide (c < 4) && decide (q < 4) && decide (sl < 17)
  | .resultWriteEvent g => decide (g < 65536)
  | .spareSelfTest k _ | .runnerLayering k => decide (k < 16)
  | .tileSpill _ plane tile _ => decide (plane < 4096) && decide (tile < 256)
  | .displayJobDone b => decide (b < 16)
  | .refMeasurement kind _ _ _ => decide (kind ≤ 3)
  | .loopLossOfLock l | .loopLockTimeout l | .loopLocked l | .gateReopen l => decide (l < 7)
  | .phaseLayering _ g n => decide (g < 6) && decide (n < 8)
  | .railFault g _ => decide (g < 6)
  | .supplyCondition kind _ _ => decide (kind ≤ 6)
  | .thermalCondition sensor _ => decide (sensor < 12)
  | .monitorTableEntry m _ | .injectedConversion m _ => decide (m < 2)
  | .monitorSequenceEnd m codes => decide (m < 2) && decide (codes.length = 16)
  | .rpdoReceived n data => decide (n < 8) && areBytes data && decide (data.length ≤ 64)
  | .tpdoEvent n => decide (n < 16)
  | .canErrorState e => decide (e < 3)
  | .startRemoteNode node | .stopRemoteNode node | .enterPreOperational node | .resetNode node => decide (node < 128)
  | .resetCommunication node balls => decide (node < 128) && decide (balls < 128)
  | .markerReceived l _ | .symbolLock l _ | .laneLossOfLock l _ | .laneLockTimeout l | .laneRejoin l => decide (l < 26)
  | .frameReceived g bytes => decide (g < 6) && areBytes bytes
  | .replayTimeout g | .replayEscalation g => decide (g < 6)
  | .laneWearLayering g => decide (g < 6)
  | .hedgeEpochRecord g => decide (4 ≤ g) && decide (g < 6)
  | .deliveryFrame n | .creditTimeout n => decide (n < 18)
  | .forwardRetry k => decide (k < 2)
  | .passBegin u | .passWaitTimeout u | .passEnd u | .passRestart u | .applyStep u | .passStageEnd u _ | .passCompare u _ =>
    decide (u < 65536)
  | .gapWindowComplete item _ => decide (item ≤ 260)
  | .shareWrite _ sub _ | .policyWrite _ sub _ | .nodeIdWrite _ sub _ | .ctbRoleWrite _ sub _ => decide (sub < 256)
  | .rasterFrameCountWrite _ _ | .hostAckSeqWrite _ _ | .dirRowLatch _ _ | .gapRowLatch _ _ | .resultIntervalWrite _ _
  | .crRowLatch _ _ | .crApply _ _ | .paramRowLatch _ _ | .paramApply _ _ | .gateRowLatch _ _ | .gateApply _ _ | .gateReset _ _
  | .resRowLatch _ _ | .planeRowLatch _ _ | .planeApply _ _ | .planeClear _ _ | .snapPlaneWrite _ _ | .snapRelease _ _
  | .dispGo _ _ | .refSelectWrite _ _ | .sscCommit _ _ | .gapDressEnableWrite _ _ | .dressUnitLatch _ _ | .layerGrant _ _
  | .layerDecline _ _ | .wearUnitLatch _ _ | .faultRowLatch _ _ | .dozeNow _ _ | .timerModeWrite _ _ | .ttRowLatch _ _
  | .monTest _ _ | .injRequest _ _ | .mtApply _ _ | .sqRowLatch _ _ | .storeParameters _ _ | .restoreParameters _ _
  | .errorHistoryClear _ _ | .streamGo _ _ | .streamAbort _ _ | .laneEnableWrite _ _ | .updAbort _ _ | .confirm _ _
  | .traceRowLatch _ _ | .gateBulk _ _ _ | .updData _ _ _ | .lastTrigIndexRead _ | .stampNext _ => true
  | .decimSyncEdge | .decimationReset | .trigOutPulseEnd | .ctbTriggerAssert | .ctbQuery _ | .ctbClkAbsent | .ctbClkPresent
  | .rasterFrameEdge _ | .rasterLineEdge _ | .rasterAbsent | .directoryWrite | .entryComplete _ | .entryReleased _ | .syncInEdge
  | .epochStart | .writeBack _ | .pcCopyStep | .pcMapSwitch | .snapshotReady _ | .snapTimeout | .refEdgeTimeout | .timebaseDisciplined | .timebaseStopped | .loopCommit | .twinLossOfLock
  | .standbyReady | .twinWearSwap | .commitComplete _ _ | .wearRecompute _ | .askTimeout | .layeringMapWrite
  | .prevFaultFlashWrite | .shutdownRestart | .supplyEstablished | .railGroupStart | .railGroupFail | .resetN _ _
  | .firmwareBootDecision | .idlePowerChange | .dozeAfterExpire | .dozeExitComplete | .sleepReached | .wakeNLow _ _ | .canRxWake
  | .runReached | .wakeTimeout _ | .timerEdge _ _ _ _ | .pairLimitExpire | .timerRearm | .crossCheck _ _ _ _ | .transferTimeout
  | .syncReceived _ | .heartbeat | .emcySend | .canFrameIgnored | .odRequest | .markerBoundary _ | .updateFrame
  | .sessionInactivity | .bankWriteComplete _ | .hedgeOffer | .hedgeAnswer | .hedgeEnd | .trialTimeout | .traceWrite
  | .tracePortSend | .errorRegisterBit4Clear => true

end Sys2Proof
end

