-- ==== Sys2Proof/Safety.lean ====
section
/-!
DEFINITION. What claims speak of: which parts of the state a command leaves as they were, what it is for an access to be served, which
constructors are commands of 2100h and which are writes of an object, and the consistency of the states that a host can see.
-/

namespace Sys2Proof.Machine

/-! ### Parts of the state, and frames -/

/-- The parts of the state, but for the queue and for ACQ_STATE, STATE_SEQUENCE and what they were made from. -/
inductive Part where
  | clk | dev | od | ctr | free | fault | trace | net | chans | quads | origin | sluice | plans | dir | pond | fan | dress | gov
  | pins | farm | layer | timer | mon | tail | upd
  deriving DecidableEq, Repr

/-- What is left of the fault part and of the trace without what ends every command: the queues' contents and the register remembered, the
next SEQUENCE and the note of a loss. -/
def FaultSt.bare (f : FaultSt) : FaultSt := { f with emcy := [], lastReg := 0 }
def TraceSt.bare (t : TraceSt) : TraceSt := { t with queue := [], next := 0, dropped := false, dropAt := none }

/-- The part is as it was, but for what ends every command (`State.settle`): a message or trace entry that joins its queue, and the counts
of those that were lost. -/
def Part.same (x : Part) (s t : State) : Prop :=
  match x with
  | .clk => t.clk = s.clk
  | .dev => t.dev = s.dev
  | .od => ∀ k, k ≠ O.EMCY_LOST → t.rd k = s.rd k
  | .ctr => ∀ n, n ≠ 465 → n ≠ 467 → t.place n = s.place n
  | .free => t.free = s.free
  | .fault => s.fault.emcy <+: t.fault.emcy ∧ t.fault.bare = s.fault.bare
  | .trace => s.trace.queue <+: t.trace.queue ∧ t.trace.bare = s.trace.bare
  | .net => t.net = s.net
  | .chans => t.chans = s.chans
  | .quads => t.quads = s.quads
  | .origin => t.origin = s.origin
  | .sluice => t.sluice = s.sluice
  | .plans => t.plans = s.plans
  | .dir => t.dir = s.dir
  | .pond => t.pond = s.pond
  | .fan => t.fan = s.fan
  | .dress => t.dress = s.dress
  | .gov => t.gov = s.gov
  | .pins => t.pins = s.pins
  | .farm => t.farm = s.farm
  | .layer => t.layer = s.layer
  | .timer => t.timer = s.timer
  | .mon => t.mon = s.mon
  | .tail => t.tail = s.tail
  | .upd => t.upd = s.upd

/-- The queue and every part not named are as they were. -/
def KeepsBut (changed : List Part) (s t : State) : Prop := t.pending = s.pending ∧ ∀ x, x ∉ changed → x.same s t

/-- Every object but those named holds what it held. -/
def OdBut (ks : List Nat) (s t : State) : Prop := ∀ k, k ∉ ks → k ≠ O.EMCY_LOST → t.rd k = s.rd k

/-- Every counter place but those named holds what it held. -/
def CtrBut (ns : List Nat) (s t : State) : Prop := ∀ n, n ∉ ns → n ≠ 465 → n ≠ 467 → t.place n = s.place n

/-! ### Accesses -/

/-- An access on the path to an object's index is served at once: admitted (R32, R378), the CTL domain and the section's own running with no
access waiting before it (R23, R380), and no way down into Sleep (R393). -/
def State.serves (s : State) (p : Path) (idx : Nat) : Prop := s.admits p = true ∧ s.waits idx = false ∧ s.dev ≠ .sleep

/-- The row checks of R399, R401 and R402 pass for a value of the object's own length. -/
def RowOk (k : Nat) (v : Int) : Prop := ∃ r, writeCheck (k / 256 % 65536) (k % 256) (natLen k) v = .ok r

/-- A write of `v` to object `k` is served and meets its row's checks. -/
def Admitted (s : State) (p : Path) (k : Nat) (v : Int) : Prop := s.serves p (k / 256 % 65536) ∧ RowOk k v

/-- The field network's part after the answer `r` to an access on its path: a transfer of the SDO channel is dropped by an SDO access
(R379), and the longest response times follow the time `m` it took (R381, R388). -/
def answered (r : Resp) (m : Nat) (n : NetSt) : NetSt :=
  { n with
    last := r,
    xfer := if r.path = .sdo then none else n.xfer,
    sdoMax := if r.path = .sdo then max n.sdoMax m else n.sdoMax,
    odMax := if r.path = .od then max n.odMax m else n.odMax }

/-- How the field network's part stands after a served access to object `k`: an answer without abort, and nothing else. -/
def Answered (p : Path) (k : Nat) (value : Int) (s t : State) : Prop :=
  ∃ m, t.net = answered { path := p, idx := k / 256 % 65536, sub := k % 256, value := value } m s.net

/-- A refused access `a` (with `cmd` as its command word, 0 where it is none): abort and reason in the answer and, with the plan whose check
failed, in the refusal window (R395), the counts of both, and nothing else of the state changed. -/
def RefusedWith (a : Acc) (cmd abort reason plan : Nat) (s t : State) : Prop :=
  (∃ m, t.net =
    { answered { path := a.path, idx := a.idx, sub := a.sub, abort := abort, reason := reason } m s.net with
      refusal := { reason := reason, abort := abort, object := a.idx * 65536 + a.sub * 256, command := cmd, plan := plan,
                   path := a.path.code, count := (s.net.refusal.count + 1) % 2 ^ 32 } }) ∧
    KeepsBut [.net, .ctr, .free, .od] s t ∧ OdBut [O.RPDO_REFUSED] s t ∧ CtrBut [460, 461, 462] s t

/-- What a served write of object `k` changes beside its effect: the answer, and a response counted (R466). -/
def Written (p : Path) (k : Nat) (s t : State) : Prop := Answered p k 0 s t ∧ CtrBut [460, 461] s t

/-- The parts that an access touches whatever it does. -/
def accessParts : List Part := [.net, .ctr, .free]

/-- The operation as a command word: path, code, reserved bits, argument (R389, R390). -/
def asCommand (i : Instr) : Option (Path × Nat × Nat × Nat) :=
  match i with
  | .arm p rsv arg => some (p, 0x01, rsv, arg)
  | .stop p rsv arg => some (p, 0x02, rsv, arg)
  | .hold p rsv arg => some (p, 0x03, rsv, arg)
  | .force p rsv arg => some (p, 0x04, rsv, arg)
  | .release p rsv arg => some (p, 0x05, rsv, arg)
  | .dress p rsv arg => some (p, 0x10, rsv, arg)
  | .commitDress p rsv arg => some (p, 0x11, rsv, arg)
  | .sleep p rsv arg => some (p, 0x20, rsv, arg)
  | .wake p rsv arg => some (p, 0x21, rsv, arg)
  | .updateBegin p rsv arg => some (p, 0x30, rsv, arg)
  | .updateEnd p rsv arg => some (p, 0x31, rsv, arg)
  | .resetStats p rsv arg => some (p, 0x40, rsv, arg)
  | .decimSync p rsv arg => some (p, 0x50, rsv, arg)
  | _ => none

/-- The access that a write of `v` to object `k` is. -/
def accOf (p : Path) (k : Nat) (v : Int) : Acc :=
  { path := p, write := true, idx := k / 256 % 65536, sub := k % 256, len := natLen k, v := v }

/-- The operation as a write of one object: path, object, value. GATE_BULK and UPD_DATA, whose objects are DOMAINs, and OBJECT_WRITE are
not among them. -/
def asWrite (i : Instr) : Option (Path × Nat × Int) :=
  match i with
  | .rangeOffsetWrite p c isOffset v => some (p, if isOffset then O.OFFSET c else O.RANGE c, v)
  | .chEnableWrite p c v => some (p, O.CH_ENABLE c, v)
  | .feStatusWrite p c v => some (p, O.FE_STATUS c, v)
  | .counterClear p idx sub v => if onlyZero (objKey idx sub) then some (p, objKey idx sub, v) else none
  | .bolterConfigWrite p c sub v => some (p, O.MODE c + sub - 1, v)
  | .bankSwap p c v => some (p, O.BANK_SWAP c, v)
  | .coefStageLatch p c v => some (p, O.COEF_STAGE c, v)
  | .coefLoadPreset p c v => some (p, O.COEF_LOAD_PRESET c, v)
  | .coefApply p c v => some (p, O.COEF_APPLY c, v)
  | .slotConfigWrite p n sub v => some (p, O.SLOT_KIND n + sub - 1, v)
  | .rasterFrameCountWrite p v => some (p, O.RASTER_FRAME_COUNT, v)
  | .hostAckSeqWrite p v => some (p, O.HOST_ACK_SEQ, v)
  | .dirRowLatch p v => some (p, O.DIR_ROW, v)
  | .shareWrite p sub v => if shareSub sub then some (p, 0x440000 + sub, v) else none
  | .gapRowLatch p v => some (p, O.GAP_ROW, v)
  | .resultIntervalWrite p v => some (p, O.RESULT_INTERVAL, v)
  | .crRowLatch p v => some (p, O.CR_ROW, v)
  | .crApply p v => some (p, O.CR_APPLY, v)
  | .paramRowLatch p v => some (p, O.PARAM_ROW, v)
  | .paramApply p v => some (p, O.PARAM_APPLY, v)
  | .gateRowLatch p v => some (p, O.GATE_ROW, v)
  | .gateApply p v => some (p, O.GATE_APPLY, v)
  | .gateReset p v => some (p, O.GATE_RESET, v)
  | .resRowLatch p v => some (p, O.RES_ROW, v)
  | .planeRowLatch p v => some (p, O.PLANE_ROW, v)
  | .planeApply p v => some (p, O.PLANE_APPLY, v)
  | .planeClear p v => some (p, O.PLANE_CLEAR, v)
  | .snapPlaneWrite p v => some (p, O.SNAP_PLANE, v)
  | .snapRelease p v => some (p, O.SNAP_RELEASE, v)
  | .dispGo p v => some (p, O.DISP_GO, v)
  | .refSelectWrite p v => some (p, O.REF_SELECT, v)
  | .sscCommit p v => some (p, O.SSC_COMMIT, v)
  | .gapDressEnableWrite p v => some (p, O.GAP_DRESS_ENABLE, v)
  | .dressUnitLatch p v => some (p, O.DRESS_UNIT, v)
  | .layerGrant p v => some (p, O.LAYER_GRANT, v)
  | .layerDecline p v => some (p, O.LAYER_DECLINE, v)
  | .policyWrite p sub v => some (p, policyObj sub, v)
  | .wearUnitLatch p v => some (p, O.WEAR_UNIT, v)
  | .faultRowLatch p v => some (p, O.FAULT_ROW, v)
  | .dozeNow p v => some (p, O.DOZE_NOW, v)
  | .timerModeWrite p v => some (p, O.TIMER_MODE, v)
  | .ttRowLatch p v => some (p, O.TT_ROW, v)
  | .monTest p v => some (p, O.MON_TEST, v)
  | .injRequest p v => some (p, O.INJ_REQUEST, v)
  | .mtApply p v => some (p, O.MT_APPLY, v)
  | .sqRowLatch p v => some (p, O.SQ_ROW, v)
  | .nodeIdWrite p sub v => if sub == 2 || sub == 4 then some (p, objKey 0x2F00 sub, v) else none
  | .storeParameters p v => some (p, objKey 0x1010 2, v)
  | .restoreParameters p v => some (p, objKey 0x1011 2, v)
  | .errorHistoryClear p v => some (p, objKey 0x1003 0, v)
  | .streamGo p v => some (p, O.STREAM_GO, v)
  | .streamAbort p v => some (p, O.STREAM_ABORT, v)
  | .laneEnableWrite p v => some (p, O.LANE_ENABLE, v)
  | .ctbRoleWrite p sub v => if 1 ≤ sub && sub ≤ 6 then some (p, 0x570100 + sub, v) else none
  | .updAbort p v => some (p, O.UPD_ABORT, v)
  | .confirm p v => some (p, O.CONFIRM, v)
  | .traceRowLatch p v => some (p, O.TRACE_ROW, v)
  | _ => none

/-- Some objects whose write only stores the value (R402). -/
def plainObjects : List Nat :=
  [O.TRIG_OUT_PLANS, O.TRIG_OUT_SLOTS, O.EXT_TRIG_POLARITY, O.HEARTBEAT_TIME, O.DOZE_AFTER, O.PAIR_LIMIT]

/-- The path is admitted, the CTL domain runs and no access waits at the Miller: it judges a command now, whatever the device state (R391,
R392). -/
def State.judges (s : State) (p : Path) : Prop := s.admits p = true ∧ s.waits 0x2100 = false

/-- The word of a command (R389). -/
def cmdWord (code rsv arg : Nat) : Nat := arg * 65536 + rsv * 256 + code

/-- The access that a command word is. -/
def accOfWord (p : Path) (w : Nat) : Acc := { path := p, write := true, idx := 0x2100, sub := 1, len := 4, v := w }

/-- An accepted command: LAST_COMMAND and its companions tell of it (R409), the answer is without abort, and nothing else of the field
network's part has changed. -/
def CommandNoted (p : Path) (w : Nat) (s t : State) : Prop :=
  ∃ m, t.net = { answered { path := p, idx := 0x2100, sub := 1 } m s.net with
    lastCmd := w, lastCmdPath := p.code, cmds := (s.net.cmds + 1) % 2 ^ 32 }

/-- A refused command. -/
def CommandRefused (p : Path) (w abort reason : Nat) (s t : State) : Prop := RefusedWith (accOfWord p w) w abort reason 255 s t

/-- Counters of several chapters that accept only 0 (R69, R90, R129, R283, R397). -/
def someCounters : List Nat :=
  [O.OVERRANGE_COUNT 0, O.OVERRANGE_COUNT 3, O.CLAMP_COUNT 1, O.SLOT_EVENT_COUNT 0, O.SLOT_EXCESS_COUNT 7, O.MISSED_COUNT 0,
   O.COINCIDENCE_COUNT 15, O.FAILOVER_COUNT, O.SYNC_IGNORED, O.RESIDUE_COUNT, O.RPDO_LOST]

/-- A frame of the module's own waits for its link, or has left on it and stays in the replay buffer (R425, R429). -/
def State.sends (s : State) (g : Nat) (f : Frame) : Prop :=
  (g, f) ∈ s.tail.out ∨ ∃ e, e ∈ (s.link g).replay ∧ e.frame.typ = f.typ ∧ e.frame.stream = f.stream ∧ e.frame.data = f.data

/-! ### Records of faults and requests (R317, R318) -/

/-- A fault record was made, the next in order. -/
def Recorded (kind unit slice outcome intr : Nat) (s t : State) : Prop :=
  ∃ r, tfind t.fault.log (s.fault.next % 256) = some r ∧ r.seq = s.fault.next ∧ r.kind = kind ∧ r.unit = unit ∧ r.slice = slice ∧
    r.outcome = outcome ∧ r.interruption = intr

/-- The record with that sequence, where the log still holds it, has taken the outcome. -/
def OutcomeTold (seq outcome : Nat) (s t : State) : Prop :=
  ∀ r, tfind s.fault.log (seq % 256) = some r → r.seq = seq → tfind t.fault.log (seq % 256) = some { r with outcome := outcome }

/-! ### What a host sees -/

/-- ACQ_STATE is what the plan states amount to, and STATE_SEQUENCE has told of the states as they stand (R27, R408); while a command
has reached only some of its plans, both wait for the last of them. -/
def State.told (s : State) : Prop := s.midCommand = true ∨ (s.acq = acqOf s.planStates ∧ s.shown = s.allStates)

end Sys2Proof.Machine
end

