-- ==== Sys2Proof/Certificates/Slice0/Obligations.lean ====
section
/-!
DEFINITION. What is claimed of the model, for the provers. `Obligations.…` are propositions; each docstring names the rules of the spec it
states, or says that it rests on a choice of the model. `KeepsBut`, `Admitted`, `Written` and the other words are those of Safety.
-/

open Sys2Proof Sys2Proof.Machine

/-! ### The machine as a whole -/

/-- A step with a command waiting is the command's effect on the state whose queue is the rest. -/
def Obligations.StepRunsFront : Prop :=
  ∀ (c : Instr) (rest : List Instr) (s : State), step { s with pending := c :: rest } = exec c { s with pending := rest }

/-- With no command waiting 0.8 ns pass, and nothing else changes (the model's choice: log entry 3). -/
def Obligations.IdleStep : Prop :=
  ∀ s : State, s.pending = [] → step s = .next { s with clk := { s.clk with now := s.clk.now + 64 } }

/-- No command stops the machine, whatever the state and the operands, and none touches the queue of those that wait. R321: after every
command the error register as last reported is the error register. That no command stops is read from the whole of the spec (log entry
5). -/
def Obligations.EveryCommandAnswers : Prop :=
  (∀ (c : Instr) (s : State), ∃ t, exec c s = .next t ∧ t.pending = s.pending) ∧
  (∀ (c : Instr) (s : State), ∃ t, exec c s = .next t ∧ t.fault.lastReg = t.errReg)

/-- R27, R408: after every step the acquisition state is what the plans amount to and the states have been told of, unless a command has
reached some of its plans only. What counts as a step of STATE_SEQUENCE is log entry 14. -/
def Obligations.EveryStepKeepsTold : Prop := ∀ s t : State, s.told → step s = .next t → t.told

/-- R33, R28, R139, R150, R190, R429, R432, R454: as Boot ends (log entry 1 says which instant State.reset is) the device is in Run with no
plan armed and no entry made, the network pre-operational, every LINK_SEQ 0 and every credit that the module grants whole, no update
open; and the state has told of its states. The registers and links without a reset value in the spec are as log entries 6 and 44 say. -/
def Obligations.ResetState : Prop :=
  State.reset.told ∧ State.reset.pending = [] ∧ State.reset.dev = .run ∧ State.reset.acq = 1 ∧ State.reset.net.nmt = .preOp ∧
    State.reset.dress.passes = [] ∧ State.reset.gov.power = 0 ∧ State.reset.gov.off = false ∧
    (∀ q, q < 16 → (State.reset.plan q).st = 0 ∧ (State.reset.plan q).entries = 0 ∧ (State.reset.plan q).seg = none) ∧
    State.reset.dir.rows = [] ∧ State.reset.farm.insts = [] ∧ State.reset.upd.session = none ∧ State.reset.upd.state = 0 ∧
    State.reset.tail.grant0 = 8 ∧ State.reset.tail.grant1 = 256 ∧
    (∀ g, g < 6 → (State.reset.link g).nextTx = 0 ∧ (State.reset.link g).nextRx = 0 ∧ (State.reset.link g).replay = []) ∧
    (∀ n, n < 16 → (State.reset.stream n).state = 0) ∧ State.reset.trace.queue = [] ∧ State.reset.fault.degraded = []

/-! ### Accesses -/

/-- R32, R378: a write on a path that the NMT state does not allow has no effect at all; R21, R266: nor has one over the field network while
the CTL domain, whose clock the CAN controller divides, is stopped. R23, R380: while the CTL domain is stopped, or the domain of the
section that the object belongs to, or while an earlier access waits, the Miller holds an access that reaches it, the last in order; an
SDO access drops the transfer at hand (R379), and nothing else changes. R393: on the way down into Sleep a write that need not wait is
refused with abort 0x0800_0022 and reason DEVICE_STATE; R395: the refusal window tells of it. Nothing is written. -/
def Obligations.WriteNotServed : Prop :=
  (∀ (i : Instr) (p : Path) (k : Nat) (v : Int) (s : State), asWrite i = some (p, k, v) →
     (s.admits p = false ∧ s.recovers (accOf p k v) = false) ∨ (p ≠ .od ∧ s.stopped 4 = true) → ∃ t, exec i s = .next t ∧ KeepsBut [] s t) ∧
  (∀ (i : Instr) (p : Path) (k : Nat) (v : Int) (s : State), asWrite i = some (p, k, v) →
     s.admits p = true → p = .od ∨ s.stopped 4 = false → s.waits (k / 256 % 65536) = true → ∃ t, exec i s = .next t ∧ KeepsBut [.net] s t ∧
       t.net = { s.net with xfer := if p = .sdo then none else s.net.xfer, held := s.net.held ++ [(s.clk.now, accOf p k v)] }) ∧
  (∀ (i : Instr) (p : Path) (k : Nat) (v : Int) (s : State), asWrite i = some (p, k, v) →
     s.admits p = true → s.waits (k / 256 % 65536) = false → s.dev = .sleep →
       ∃ t, exec i s = .next t ∧ RefusedWith (accOf p k v) 0 0x08000022 0x0102 255 s t)

/-- R399, R401, R402, R395: a write that its object's row refuses leaves everything as it was, but for the answer, the refusal window and
the counters of both. R401: the data length is judged first: a write of another length than the object's type has is refused with abort
0x0607_0010 and reason TYPE_LENGTH, whatever its value. R402: OBJECT_WRITE of an object whose write only stores its value
(`plainObjects`) stores it, and changes nothing else but the answer. -/
def Obligations.RowChecks : Prop :=
  (∀ (i : Instr) (p : Path) (k : Nat) (v : Int) (s : State) (r : Rej), asWrite i = some (p, k, v) → s.serves p (k / 256 % 65536) →
     writeCheck (k / 256 % 65536) (k % 256) (natLen k) v = .error r →
       ∃ t, exec i s = .next t ∧ RefusedWith (accOf p k v) 0 r.abort r.reason 255 s t) ∧
  (∀ (p : Path) (idx sub len : Nat) (v : Int) (r : Row) (s : State), s.serves p idx → findRow idx sub = some r → r.acc ≠ .ro → r.ty ≠ .dom →
     len ≠ r.ty.bytes → ∃ t, exec (.objectWrite p idx sub len v) s = .next t ∧
       RefusedWith { path := p, write := true, idx := idx, sub := sub, len := len, v := v } 0 0x06070010 0x0005 255 s t) ∧
  (∀ (p : Path) (k : Nat) (v : Int) (s : State), k ∈ plainObjects → Admitted s p k v →
     ∃ t, exec (.objectWrite p (k / 256) (k % 256) (natLen k) v) s = .next t ∧ t.rd k = v ∧ OdBut [k] s t ∧ Written p k s t ∧
       KeepsBut [.net, .ctr, .free, .od] s t)

/-! ### Commands -/

/-- R391: a command word whose reserved bits are not 0, or whose argument is not 0 although the command takes none, is refused with abort
0x0609_0030 and reason COMMAND_ARGUMENT; a plan command with an empty mask with PLAN_MASK_EMPTY; DRESS of a unit that is none with
UNIT_INVALID. The device state plays no part. R392: in Sleep every command is refused with abort 0x0800_0022 and reason DEVICE_STATE,
and in Faulted ARM, FORCE, DRESS, COMMIT_DRESS and SLEEP are. -/
def Obligations.CommandsRefused : Prop :=
  (∀ (i : Instr) (p : Path) (code rsv arg : Nat) (s : State), asCommand i = some (p, code, rsv, arg) → rsv < 256 → arg < 65536 →
     s.judges p →
     (rsv ≠ 0 ∨ (0x11 ≤ code ∧ arg ≠ 0) →
       ∃ t, exec i s = .next t ∧ CommandRefused p (cmdWord code rsv arg) 0x06090030 0x0101 s t) ∧
     (rsv = 0 → code ≤ 0x05 → arg = 0 →
       ∃ t, exec i s = .next t ∧ CommandRefused p (cmdWord code rsv arg) 0x06090030 0x0103 s t) ∧
     (rsv = 0 → code = 0x10 → unitKnown arg = false →
       ∃ t, exec i s = .next t ∧ CommandRefused p (cmdWord code rsv arg) 0x06090030 0x0008 s t)) ∧
  (∀ (i : Instr) (p : Path) (code arg : Nat) (s : State), asCommand i = some (p, code, 0, arg) → arg < 65536 → s.judges p →
     cmdWordCheck code 0 arg = none →
     s.dev = .sleep ∨ (s.dev = .faulted ∧ code ∈ [0x01, 0x04, 0x10, 0x11, 0x20]) →
     ∃ t, exec i s = .next t ∧ CommandRefused p (cmdWord code 0 arg) 0x08000022 0x0102 s t)

/-- R392: STOP, HOLD and WAKE in Faulted, STOP and HOLD in Idle, and WAKE while Armed have no effect: they are accepted, recorded and
counted (R467), and nothing else changes. R391, R392, R409: a command that the matrix and its own checks accept has its effect, and is
recorded in LAST_COMMAND, LAST_COMMAND_PATH and COMMANDS_ACCEPTED. `u` is the state its own effect leads to. -/
def Obligations.CommandsAccepted : Prop :=
  (∀ (i : Instr) (p : Path) (code arg : Nat) (s : State), asCommand i = some (p, code, 0, arg) → arg < 65536 → s.judges p →
     cmdWordCheck code 0 arg = none →
     (s.dev = .faulted ∧ code ∈ [0x02, 0x03, 0x21]) ∨ (s.dev = .run ∧ s.dress.passes = [] ∧ s.acqEntering = 1 ∧ code ∈ [0x02, 0x03]) ∨
       (s.dev = .run ∧ s.dress.passes = [] ∧ s.acqEntering = 2 ∧ code = 0x21) →
     ∃ t, exec i s = .next t ∧ CommandNoted p (cmdWord code 0 arg) s t ∧ KeepsBut [.net, .ctr, .free] s t ∧ CtrBut [460, 461, 463] s t) ∧
  (∀ (i : Instr) (p : Path) (code arg n : Nat) (s u : State), asCommand i = some (p, code, 0, arg) → arg < 65536 → s.judges p →
     cmdWordCheck code 0 arg = none → s.cell code = .accept → cmdEffect p code arg (s.dropXfer p) = (u, none, n) →
     ∃ t, exec i s = .next t ∧ t.net.lastCmd = cmdWord code 0 arg ∧ t.net.lastCmdPath = p.code ∧
       t.net.cmds = (u.net.cmds + 1) % 2 ^ 32 ∧ t.net.last = { path := p, idx := 0x2100, sub := 1 } ∧
       ∀ x, x ∉ accessParts → x.same u t)

/-- R139, R137, R30: an accepted ARM sends every plan of its mask a command, on its way to the first raw-grain boundary after it reaches the
GRAIN domain, that carries the configuration which the plan's objects spell, with P and G of its first channel; the plan is then entering
FILLING, and stands otherwise as it was. The other plans are left alone. -/
def Obligations.ArmEffect : Prop :=
  ∀ (p : Path) (arg : Nat) (s u : State), 0 < arg → arg < 65536 → s.judges p → s.cell 0x01 = .accept → cmdArm arg (s.dropXfer p) = .ok u →
    ∃ t, exec (.arm p 0 arg) s = .next t ∧ CommandNoted p (cmdWord 0x01 0 arg) s t ∧
      (∀ q, q < 16 → bit arg q = true → (t.plan q).entering = 1 ∧ ∃ a : PlanArm, a.cfg = s.planObjs q ∧
        a.p = (a.cfg.bolt (a.cfg.chans.headD 0)).period ∧ a.g = (a.cfg.bolt (a.cfg.chans.headD 0)).g ∧
        t.plan q = { s.plan q with cmds := (s.plan q).cmds ++ [{ code := 1, b := s.cmdArrival, batch := s.dir.batch + 1, arm := some a }] }) ∧
      (∀ q, q < 16 → bit arg q = false → t.plan q = s.plan q) ∧
      t.dir = { s.dir with batch := s.dir.batch + 1 } ∧
      KeepsBut [.net, .ctr, .free, .od, .chans, .plans, .dir] s t ∧ CtrBut [460, 461, 463] s t ∧
      OdBut (chanNos.flatMap (fun c => [O.MODE c, O.PRESET c, O.FACTOR c])) s t

/-- R140, R141, R142, R137: STOP and FORCE join the commands of every Armed plan of their mask, HOLD those of the Armed plans that are not
FINISHING, with the boundary of their arrival in the GRAIN domain; a plan so stopped, with no other command on its way, is entering
RETAINING where it has an entry or a pending segment, and IDLE else. Nothing else of a plan changes, and no other plan. R143, R157:
RELEASE of plans none of which is Armed makes each RETAINING one IDLE at once, with every directory entry of it released; one that a
command on its way will make RETAINING has the release join its commands; the others of the mask, and those outside it, are left as they
are. -/
def Obligations.StopHoldForceRelease : Prop :=
  (∀ (p : Path) (arg : Nat) (s : State), 0 < arg → arg < 65536 → s.judges p →
     (s.cell 0x02 = .accept → ∃ t, exec (.stop p 0 arg) s = .next t ∧ CommandNoted p (cmdWord 0x02 0 arg) s t ∧
       (∀ q, q < 16 → if bit arg q = true ∧ armedSt (s.plan q).entering = true then
         t.plan q = { s.plan q with cmds := (s.plan q).cmds ++ [{ code := 2, b := s.cmdArrival, batch := s.dir.batch + 1 }] } ∧
           ((s.plan q).cmds = [] →
             (t.plan q).entering = if (s.plan q).entries ≠ 0 ∨ (s.plan q).seg.isSome = true then 5 else 0)
         else t.plan q = s.plan q) ∧ t.dir = { s.dir with batch := s.dir.batch + 1 } ∧
       KeepsBut [.net, .ctr, .free, .plans, .dir] s t ∧ CtrBut [460, 461, 463] s t) ∧
     (s.cell 0x03 = .accept → ∃ t, exec (.hold p 0 arg) s = .next t ∧ CommandNoted p (cmdWord 0x03 0 arg) s t ∧
       (∀ q, q < 16 → if bit arg q = true ∧ armedSt (s.plan q).entering = true ∧ (s.plan q).entering ≠ 4 then
         t.plan q = { s.plan q with cmds := (s.plan q).cmds ++ [{ code := 3, b := s.cmdArrival, batch := s.dir.batch + 1 }] }
         else t.plan q = s.plan q) ∧ t.dir = { s.dir with batch := s.dir.batch + 1 } ∧
       KeepsBut [.net, .ctr, .free, .plans, .dir] s t ∧ CtrBut [460, 461, 463] s t) ∧
     (s.cell 0x04 = .accept → (∃ q, q < 16 ∧ bit arg q = true ∧ armedSt (s.plan q).entering = true) →
       ∃ t, exec (.force p 0 arg) s = .next t ∧ CommandNoted p (cmdWord 0x04 0 arg) s t ∧
       (∀ q, q < 16 → if bit arg q = true ∧ armedSt (s.plan q).entering = true then
         t.plan q = { s.plan q with cmds := (s.plan q).cmds ++ [{ code := 4, b := s.cmdArrival, batch := s.dir.batch + 1 }] }
         else t.plan q = s.plan q) ∧ t.dir = { s.dir with batch := s.dir.batch + 1 } ∧
       KeepsBut [.net, .ctr, .free, .plans, .dir] s t ∧ CtrBut [460, 461, 463] s t)) ∧
  (∀ (p : Path) (arg : Nat) (s : State), 0 < arg → arg < 65536 → s.judges p → s.cell 0x05 = .accept →
     (∀ q, q < 16 → bit arg q = true → armedSt (s.plan q).entering = false) →
     ∃ t, exec (.release p 0 arg) s = .next t ∧ CommandNoted p (cmdWord 0x05 0 arg) s t ∧
       (∀ q, q < 16 → if bit arg q = true ∧ (s.plan q).entering = 5 then
           (if (s.plan q).cmds = [] then t.plan q = { s.plan q with st := 0, seg := none, force := none } ∧
               ∀ r e, (r, e) ∈ t.dir.rows → e.seg.plan = q → e.state = 3
             else t.plan q = { s.plan q with cmds := (s.plan q).cmds ++ [{ code := 5, b := s.cmdArrival, batch := s.dir.batch + 1 }] })
         else t.plan q = s.plan q) ∧
       KeepsBut [.net, .ctr, .free, .od, .plans, .dir, .pond, .farm] s t)

/-- R285, R286: an accepted DRESS adds one pass, WAITING, on the unit named, and counts it (R467); R296: COMMIT_DRESS begins a commit of the
calibration in force as it stands, which ends within 350 ms (the length is free within it). R339, R361: an accepted SLEEP puts the
device on its way down, run time stands still, and an open pair of the event timer is cut; R338: WAKE in Doze begins the way out of it,
and elsewhere changes nothing. R223, R246, R397: RESET_STATS clears every counter object that accepts only 0, the longest response times
and the energy, empties every result record, and starts every gate's counts and every plane's content afresh, its configuration and mask
kept; R88: DECIM_SYNC asks for one decimation reset, within 50 ns of the command's reaching the GRAIN domain. When a commit ends is log
entry 28. -/
def Obligations.DeviceCommands : Prop :=
  (∀ (p : Path) (s : State), s.judges p →
     (∀ u, u < 65536 → unitKnown u = true → s.cell 0x10 = .accept → s.dressRefusal u = none → (u = 0x0500 → s.gov.power ≠ 2) →
       (isChanUnit u = true → s.gov.closed = false) →
       ∃ t, exec (.dress p 0 u) s = .next t ∧ CommandNoted p (cmdWord 0x10 0 u) s t ∧
         t.dress = { s.dress with passes := s.dress.passes ++ [{ unit := u, stage := 1, asked := s.clk.now }] } ∧
         t.place 320 = (s.place 320 + 1) % 2 ^ 64 ∧ KeepsBut [.net, .ctr, .free, .dress] s t ∧ CtrBut [320, 460, 461, 463] s t) ∧
     (s.cell 0x11 = .accept → s.dress.commit = none →
       ∃ t due, exec (.commitDress p 0 0) s = .next t ∧ CommandNoted p (cmdWord 0x11 0 0) s t ∧
         t.dress = { s.dress with commit := some (due, s.calBody), acceptedSince := false } ∧
         s.clk.now ≤ due ∧ due < s.clk.now + ms 350 ∧ KeepsBut [.net, .ctr, .free, .dress] s t ∧ CtrBut [460, 461, 463] s t)) ∧
  (∀ (p : Path) (s : State), s.judges p →
     (s.cell 0x20 = .accept → s.gov.wakeN = false → s.dress.commit = none → s.upd.session = none → p = .sdo ∨ s.net.xfer = none →
       ∃ t, exec (.sleep p 0 0) s = .next t ∧ CommandNoted p (cmdWord 0x20 0 0) s t ∧ t.dev = .sleep ∧
         t.gov = { s.gov with downAt := some s.clk.now, latched := 0, idleSince := none, dozeEnd := none } ∧
         t.clk = { s.clk with runBefore := s.runTime, runSince := s.clk.now } ∧ t.timer.pair = none ∧ (s.timer.pair = none → t.timer = s.timer) ∧
         KeepsBut [.net, .ctr, .free, .od, .dev, .gov, .clk, .timer] s t ∧ OdBut [O.PAIRS_CUT] s t ∧ CtrBut [460, 461, 463] s t) ∧
     (s.cell 0x21 = .accept →
       ∃ t, exec (.wake p 0 0) s = .next t ∧ CommandNoted p (cmdWord 0x21 0 0) s t ∧
         t.gov = (if s.gov.power = 2 ∧ s.gov.dozeEnd = none then { s.gov with dozeEnd := some s.clk.now } else s.gov) ∧
         KeepsBut [.net, .ctr, .free, .gov] s t ∧ CtrBut [460, 461, 463] s t)) ∧
  (∀ (p : Path) (s : State), s.judges p →
     (s.cell 0x40 = .accept → ∃ t, exec (.resetStats p 0 0) s = .next t ∧ t.net.lastCmd = cmdWord 0x40 0 0 ∧
       t.net.last = { path := p, idx := 0x2100, sub := 1 } ∧ t.net.refusal = s.net.refusal ∧
       (∀ k, k ≠ O.EMCY_LOST → t.rd k = if onlyZero k = true then 0 else s.rd k) ∧ t.gov = { s.gov with energy := 0 } ∧
       t.farm.recs = [] ∧ (∀ g, (t.gate g).seq = 0 ∧ (t.gate g).instances = 0 ∧ (t.gate g).misfits = 0 ∧ (t.gate g).waiting = [] ∧
         (t.gate g).cfg = (s.gate g).cfg) ∧
       (∀ n, n < 4096 → t.planeOf n = { cfg := (s.planeOf n).cfg, mask := (s.planeOf n).mask }) ∧
       KeepsBut [.net, .ctr, .free, .od, .gov, .farm] s t ∧ CtrBut [460, 461, 463] s t) ∧
     (s.cell 0x50 = .accept → s.gov.power ≠ 2 →
       ∃ t at_, exec (.decimSync p 0 0) s = .next t ∧ CommandNoted p (cmdWord 0x50 0 0) s t ∧
         t.origin = { s.origin with resets := s.origin.resets ++ [at_] } ∧ s.clk.now < at_ ∧ at_ ≤ s.clk.now + 4000 ∧
         KeepsBut [.net, .ctr, .free, .origin] s t ∧ CtrBut [460, 461, 463] s t))

/-! ### Channels and Bolters -/

/-- R68: RANGE or OFFSET written on a disabled channel applies at once, without preparation, and LAST_SWITCH_INDEX stays. R63, R64: on an
enabled one the values of both objects are on their way to the GRAIN domain, behind those written earlier, and reach it within 50 ns. On
a channel that is being dressed the write is refused with reason CHANNEL_DRESSING. R63, R64: a write that has arrived in the GRAIN
domain starts the preparation, in place of one pending, of a switch 2,560 grains after the grain then being formed, unless it repeats
the applied values with none pending. R63, R65: at the switch grain the prepared range and offset apply, the raw grain that begins there
carries SETTLING as the switch grain, LAST_SWITCH_INDEX is its first sample's index, and the switch is counted. R67: 1.0 ms after its
enable a channel is ready, and its first grain carries SETTLING; its histories begin there. R67, R68: CH_ENABLE of a channel that no
plan uses: written 0 the channel is not ready, nothing of it is pending, and its range and offset apply as the objects hold them;
written 1 from 0 it is ready 1.0 ms later; written 1 again nothing changes. Of a channel in use the write is refused with reason
CHANNEL_IN_USE. -/
def Obligations.FrontEndWrites : Prop :=
  (∀ (p : Path) (c : Nat) (isOffset : Bool) (v : Int) (s : State), c < 4 →
     Admitted s p (if isOffset then O.OFFSET c else O.RANGE c) v →
     (s.dressingCh c = true → ∃ t, exec (.rangeOffsetWrite p c isOffset v) s = .next t ∧
       RefusedWith (accOf p (if isOffset then O.OFFSET c else O.RANGE c) v) 0 0x08000022 Why.CHANNEL_DRESSING 255 s t) ∧
     (s.dressingCh c = false → s.rd (O.CH_ENABLE c) = 0 → ∃ t, exec (.rangeOffsetWrite p c isOffset v) s = .next t ∧
       t.rd (if isOffset then O.OFFSET c else O.RANGE c) = v ∧
       (∃ range offset, range = (if isOffset then s.rdN (O.RANGE c) else v.toNat) ∧
         offset = (if isOffset then v else s.rd (O.OFFSET c)) ∧
         t.chan c = { s.chan c with rangeApplied := range, offsetApplied := offset, prep := none, writes := [],
                                    ranges := (s.dir.epochs % 256, s.idx, range, offset) :: (s.chan c).ranges }) ∧
       (∀ d, d ≠ c → t.chan d = s.chan d) ∧ OdBut [if isOffset then O.OFFSET c else O.RANGE c] s t ∧
       Written p (if isOffset then O.OFFSET c else O.RANGE c) s t ∧ KeepsBut [.net, .ctr, .free, .od, .chans] s t) ∧
     (s.dressingCh c = false → s.rd (O.CH_ENABLE c) ≠ 0 → ∃ t n, exec (.rangeOffsetWrite p c isOffset v) s = .next t ∧
       t.rd (if isOffset then O.OFFSET c else O.RANGE c) = v ∧ 0 < n ∧ n ≤ 4000 ∧
       t.chan c = { s.chan c with
         writes := (s.chan c).writes ++ [{ at_ := ((s.chan c).writes.map (fun w => w.at_)).foldl max (s.clk.now + n),
                                           range := if isOffset then s.rdN (O.RANGE c) else v.toNat,
                                           offset := if isOffset then v else s.rd (O.OFFSET c) }] } ∧
       (∀ d, d ≠ c → t.chan d = s.chan d) ∧ OdBut [if isOffset then O.OFFSET c else O.RANGE c] s t ∧
       Written p (if isOffset then O.OFFSET c else O.RANGE c) s t ∧ KeepsBut [.net, .ctr, .free, .od, .chans] s t)) ∧
  (∀ (c : Nat) (s : State), c < 4 →
     (∀ w, (s.chan c).writes = [w] → w.at_ < s.clk.now →
       s.clk.now < s.clk.epochBase + (w.at_ - s.clk.epochBase) / 64 * 64 + 2560 * 64 →
       (∀ p, (s.chan c).prep = some p → w.at_ < p.at_ ∧ s.clk.now < p.at_) → ∃ t, exec (.rangeSwitch c) s = .next t ∧
       t.chan c = { s.chan c with
         writes := [],
         prep := if (s.chan c).prep = none ∧ w.range = (s.chan c).rangeApplied ∧ w.offset = (s.chan c).offsetApplied then none
                 else some { at_ := s.clk.epochBase + (w.at_ - s.clk.epochBase) / 64 * 64 + 2560 * 64,
                             range := w.range, offset := w.offset } } ∧
       (∀ d, d ≠ c → t.chan d = s.chan d) ∧ KeepsBut [.chans] s t) ∧
     (∀ p, (s.chan c).writes = [] → (s.chan c).prep = some p → p.at_ ≤ s.clk.now → ∃ t, exec (.rangeSwitch c) s = .next t ∧
       t.chan c = { s.chan c with
         rangeApplied := p.range, offsetApplied := p.offset, prep := none, lastSwitch := s.idxAt p.at_, settleNext := true,
         switchNext := true, ranges := (s.dir.epochs % 256, s.idxAt p.at_, p.range, p.offset) :: (s.chan c).ranges } ∧
       (∀ d, d ≠ c → t.chan d = s.chan d) ∧ t.place (16 * c + 7) = (s.place (16 * c + 7) + 1) % 2 ^ 64 ∧ CtrBut [16 * c + 7] s t ∧
       KeepsBut [.chans, .ctr] s t) ∧
     (∀ x, (s.chan c).readyAt = some x → x ≤ s.clk.now → (s.chan c).swap = none → ∃ t, exec (.channelReady c) s = .next t ∧
       (∃ b, b = s.idxAt (s.grainAt s.clk.now) ∧ t.chan c = { s.chan c with
         ready := true, readyAt := none, settleNext := true, hist := [], lastValid := [], recoverTo := b - 1, zeroAt := b, chainAt := b,
         settleLeft := (s.chan c).cfg.settleAll, mm := none, inRun := false,
         out := { num := (s.chan c).cfg.outputFrom s.origin.o b / (s.chan c).cfg.n,
                  broken := (s.chan c).cfg.outputFrom s.origin.o b % (s.chan c).cfg.n != 0 } }) ∧
       (∀ d, d ≠ c → t.chan d = s.chan d) ∧ KeepsBut [.chans] s t)) ∧
  (∀ (p : Path) (c : Nat) (v : Int) (s : State), c < 4 → Admitted s p (O.CH_ENABLE c) v →
     (s.inUse c = true → ∃ t, exec (.chEnableWrite p c v) s = .next t ∧
       RefusedWith (accOf p (O.CH_ENABLE c) v) 0 0x08000022 Why.CHANNEL_IN_USE 255 s t) ∧
     (s.inUse c = false → ∃ t, exec (.chEnableWrite p c v) s = .next t ∧ t.rd (O.CH_ENABLE c) = v ∧
       t.chan c = (if v = 0 then { s.chan c with
           ready := false, readyAt := none, rangeApplied := s.rdN (O.RANGE c), offsetApplied := s.rd (O.OFFSET c), prep := none, writes := [],
           ranges := (s.dir.epochs % 256, s.idx, s.rdN (O.RANGE c), s.rd (O.OFFSET c)) :: (s.chan c).ranges }
         else if s.rd (O.CH_ENABLE c) = 0 then { s.chan c with ready := false, readyAt := some (s.clk.now + ms 1) } else s.chan c) ∧
       (∀ d, d ≠ c → t.chan d = s.chan d) ∧ OdBut [O.CH_ENABLE c] s t ∧ Written p (O.CH_ENABLE c) s t ∧
       KeepsBut [.net, .ctr, .free, .od, .chans] s t))

/-- R70: a write of FE_STATUS clears OVERRANGE_STICKY where it writes 1 there, and nothing else; R69, R397: a write of 0 to a counter clears
it (the counters of `someCounters`). -/
def Obligations.StatusAndCounterWrites : Prop :=
  ∀ (p : Path) (v : Int) (s : State),
    (∀ c, c < 4 → Admitted s p (O.FE_STATUS c) v → ∃ t, exec (.feStatusWrite p c v) s = .next t ∧
      t.chan c = (if bit v.toNat 4 then { s.chan c with sticky := false } else s.chan c) ∧ (∀ d, d ≠ c → t.chan d = s.chan d) ∧
      Written p (O.FE_STATUS c) s t ∧ KeepsBut [.net, .ctr, .free, .chans] s t) ∧
    (∀ k, k ∈ someCounters → Admitted s p k v → ∃ t, exec (.counterClear p (k / 256) (k % 256) v) s = .next t ∧ t.rd k = 0 ∧
      OdBut [k] s t ∧ Written p k s t ∧ KeepsBut [.net, .ctr, .free, .od] s t)

/-- R74, R75, R82: MODE, PRESET, FACTOR, DELAY_WHOLE or DELAY_FRAC of a channel without an Armed plan is stored, and when the effective
configuration differs the new one is on its way, behind earlier ones, to the first raw-grain boundary after it reaches the GRAIN domain,
within 50 ns. R73: a MODE or FACTOR that would make MINMAX with a FACTOR below 4 is refused with reason BOLTER_RATE; on a channel of an
Armed plan every such write is refused with CHANNEL_IN_USE. R88, R89: an edge at DECIM_SYNC is ignored and counted while it is disabled,
while the GRAIN domain does not run, or while a SYNC_IN edge is registered; else its reset waits for the next raw-grain boundary. There
each reset that waits is counted in DECIM_SYNC_COUNT and the sample that the boundary begins at is the new decimation origin, the
Bolters' histories being zeroed and their output grains abandoned. -/
def Obligations.BolterConfigAndDecimation : Prop :=
  (∀ (p : Path) (c sub : Nat) (v : Int) (s : State), c < 4 → 1 ≤ sub → sub ≤ 5 → Admitted s p (O.MODE c + sub - 1) v →
     (s.armedOn c = true → ∃ t, exec (.bolterConfigWrite p c sub v) s = .next t ∧
       RefusedWith (accOf p (O.MODE c + sub - 1) v) 0 0x08000022 Why.CHANNEL_IN_USE 255 s t) ∧
     (s.armedOn c = false →
       (((s.wr (O.MODE c + sub - 1) v).bolterObjs c).mode = 2 ∧ ((s.wr (O.MODE c + sub - 1) v).bolterObjs c).factor < 4 ∧
           (sub = 1 ∨ sub = 3) → ∃ t, exec (.bolterConfigWrite p c sub v) s = .next t ∧
         RefusedWith (accOf p (O.MODE c + sub - 1) v) 0 0x06090030 Why.BOLTER_RATE 255 s t) ∧
       (¬ (((s.wr (O.MODE c + sub - 1) v).bolterObjs c).mode = 2 ∧ ((s.wr (O.MODE c + sub - 1) v).bolterObjs c).factor < 4 ∧
           (sub = 1 ∨ sub = 3)) → ∃ t n, exec (.bolterConfigWrite p c sub v) s = .next t ∧ t.rd (O.MODE c + sub - 1) = v ∧
         0 < n ∧ n ≤ 4000 ∧
         t.chan c = { s.chan c with
           chgs := (s.chan c).chgs ++ (if (s.bolterObjs c).sameAll ((s.wr (O.MODE c + sub - 1) v).bolterObjs c) then []
             else [(((s.chan c).chgs.map (fun e => e.1)).foldl max (s.grainAt (s.clk.now + n)),
                    (s.wr (O.MODE c + sub - 1) v).bolterObjs c)]) } ∧
         (∀ d, d ≠ c → t.chan d = s.chan d) ∧ OdBut [O.MODE c + sub - 1] s t ∧ Written p (O.MODE c + sub - 1) s t ∧
         KeepsBut [.net, .ctr, .free, .od, .chans] s t))) ∧
  (∀ s : State,
     (s.rd (O.DECIM_SYNC_ENABLE 0) = 0 ∨ s.grainRuns = false ∨ s.fan.sync.isSome = true → ∃ t, exec .decimSyncEdge s = .next t ∧
       t.rd (O.DECIM_SYNC_IGNORED 0) = min (s.rd (O.DECIM_SYNC_IGNORED 0) + 1) 4294967295 ∧ OdBut [O.DECIM_SYNC_IGNORED 0] s t ∧
       KeepsBut [.od] s t) ∧
     (s.rd (O.DECIM_SYNC_ENABLE 0) ≠ 0 → s.grainRuns = true → s.fan.sync = none → ∃ t, exec .decimSyncEdge s = .next t ∧
       t.origin = { s.origin with resets := s.origin.resets ++ [s.clk.now] } ∧ KeepsBut [.origin] s t) ∧
     (s.origin.resets ≠ [] → (∀ r, r ∈ s.origin.resets → r ≤ s.clk.now) → s.fan.sync = none → s.grainRuns = true →
       ∃ t b, exec .decimationReset s = .next t ∧ b = s.idxAt (s.grainAt s.clk.now) ∧ t.origin.o = b ∧ t.origin.resets = [] ∧
       t.rd (O.DECIM_SYNC_COUNT 0) = min (s.rd (O.DECIM_SYNC_COUNT 0) + s.origin.resets.length) 4294967295 ∧
       (∀ c, c < 4 → (t.chan c).cfg = (s.chan c).cfg ∧ (t.chan c).zeroAt = b ∧ (t.chan c).swap = none ∧
         (t.chan c).settleLeft = (s.chan c).cfg.settleAll ∧
         (t.chan c).out = { num := (s.chan c).cfg.outputFrom b b / (s.chan c).cfg.n,
                            broken := (s.chan c).cfg.outputFrom b b % (s.chan c).cfg.n != 0 }) ∧
       OdBut (O.DECIM_SYNC_COUNT 0 :: O.MISSED_TOTAL :: (chanNos.map (fun c => O.SWAPS_DONE c) ++ planNos.map (fun q => O.MISSED_COUNT q))) s t ∧
       (∀ x, x ∈ [Part.clk, .dev, .net, .quads, .fan, .dress, .gov, .pins, .layer, .timer, .mon, .upd] → x.same s t)))

/-- R82, R75: of the changes whose boundary has come the last is in force, histories are zeroed, settling begins anew, and the output grain in
progress is abandoned. R85: a bank swap begins at its boundary with the other bank, over the fade length, and under a MODE other than 3
completes there; it completes once output k0 + F is formed, the other bank then serving with what COEF_APPLY held, is counted in SWAPS_DONE,
and (R86) a queued swap is then on its way to the next boundary. -/
def Obligations.BolterBoundaries : Prop :=
  ∀ (c : Nat) (s : State), c < 4 →
    (∀ x cfg, ((s.chan c).chgs.filter (fun e => s.due e.1)).getLast? = some (x, cfg) → (s.chan c).swap = none →
      ∃ t b, exec (.bolterChangeApply c) s = .next t ∧ b = s.idxAt (s.grainAt s.clk.now) ∧
      t.chan c = { s.chan c with
        cfg := cfg, chgs := (s.chan c).chgs.filter (fun e => !s.due e.1), zeroAt := b, chainAt := b, settleLeft := cfg.settleAll, mm := none,
        inRun := false,
        out := { num := cfg.outputFrom s.origin.o b / cfg.n, broken := cfg.outputFrom s.origin.o b % cfg.n != 0 } } ∧
      (∀ d, d ≠ c → t.chan d = s.chan d) ∧ KeepsBut [.chans] s t) ∧
    (∀ x, (s.chan c).swapReq = some x → (s.chan c).swap = none → x ≤ s.clk.now → ∃ t, exec (.swapBegin c) s = .next t ∧
        ((s.chan c).cfg.mode = 3 →
          t.chan c = { s.chan c with
            swapReq := none,
            swap := some { k := 0, start := s.idxAt (s.grainAt s.clk.now), fade := s.rdN (O.FADE_LENGTH c), bank := 1 - (s.chan c).bank } } ∧
          OdBut [] s t) ∧
        ((s.chan c).cfg.mode ≠ 3 → (t.chan c).swap = none ∧ (t.chan c).bank = 1 - (s.chan c).bank ∧
          t.rd (O.SWAPS_DONE c) = min (s.rd (O.SWAPS_DONE c) + 1) 4294967295 ∧ OdBut [O.SWAPS_DONE c] s t) ∧
        (∀ d, d ≠ c → t.chan d = s.chan d) ∧ KeepsBut [.chans, .od] s t) ∧
    (∀ sw, (s.chan c).swap = some sw → ceilDiv (s.chan c).cfg.reach (s.chan c).cfg.d + sw.fade < sw.k →
      ∃ t, exec (.swapComplete c) s = .next t ∧
        t.chan c = { s.chan c with
          swap := none, bank := sw.bank, chainAt := sw.start, held := [], swapQueued := false,
          swapReq := if (s.chan c).swapQueued then some (s.grainAt s.clk.now) else (s.chan c).swapReq,
          swapIndex := (s.chan c).cfg.reported s.origin.o ((s.chan c).cfg.outputFrom s.origin.o sw.start +
            (ceilDiv (s.chan c).cfg.reach (s.chan c).cfg.d + sw.fade : Nat)),
          banks := (s.chan c).held.foldl (fun b e => tset (4 * (1 - sw.bank) + e.1 % 4) e.2 b) (s.chan c).banks } ∧
        t.rd (O.SWAPS_DONE c) = min (s.rd (O.SWAPS_DONE c) + 1) 4294967295 ∧
        (∀ d, d ≠ c → t.chan d = s.chan d) ∧ OdBut [O.SWAPS_DONE c] s t ∧ KeepsBut [.chans, .od] s t)

/-- R85, R86: BANK_SWAP with no swap requested or under way is on its way to the first raw-grain boundary after it reaches the GRAIN domain,
within 50 ns; with one it is queued; with one queued it is refused with abort 0x0800_0022 and reason BOLTER_SWAP_PENDING. R84, R86,
R412: COEF_STAGE latches, for its path, the stage of the bank that is or will be inactive into the edit copy; COEF_LOAD_PRESET makes
that copy the stage's preset; COEF_APPLY writes it into the inactive bank, or holds it while a swap is under way. -/
def Obligations.BanksAndCoefficients : Prop :=
  (∀ (p : Path) (c : Nat) (v : Int) (s : State), c < 4 → Admitted s p (O.BANK_SWAP c) v →
     ((s.chan c).swapQueued = false → ∃ t n, exec (.bankSwap p c v) s = .next t ∧ 0 < n ∧ n ≤ 4000 ∧
       t.chan c = (if (s.chan c).swap.isSome ∨ (s.chan c).swapReq.isSome then { s.chan c with swapQueued := true }
                   else { s.chan c with swapReq := some (s.grainAt (s.clk.now + n)) }) ∧
       (∀ d, d ≠ c → t.chan d = s.chan d) ∧ Written p (O.BANK_SWAP c) s t ∧ KeepsBut [.net, .ctr, .free, .chans] s t) ∧
     ((s.chan c).swapQueued = true → ∃ t, exec (.bankSwap p c v) s = .next t ∧
       RefusedWith (accOf p (O.BANK_SWAP c) v) 0 0x08000022 0x0205 255 s t)) ∧
  (∀ (p : Path) (c : Nat) (v : Int) (s : State), c < 4 →
     (Admitted s p (O.COEF_STAGE c) v → ∃ t, exec (.coefStageLatch p c v) s = .next t ∧ t.rd (win p (O.COEF_STAGE c)) = v ∧
       t.chan c = { s.chan c with
         edit := tset (side p) ((s.chan c).coefs (s.chan c).targetBank (v.toNat - 1)) (s.chan c).edit } ∧
       (∀ d, d ≠ c → t.chan d = s.chan d) ∧ OdBut [win p (O.COEF_STAGE c)] s t ∧ Written p (O.COEF_STAGE c) s t ∧
       KeepsBut [.net, .ctr, .free, .od, .chans] s t) ∧
     (Admitted s p (O.COEF_LOAD_PRESET c) v → ∃ t, exec (.coefLoadPreset p c v) s = .next t ∧
       t.chan c = { s.chan c with edit := tset (side p) (presetBank (s.coefStage p c)) (s.chan c).edit } ∧
       (∀ d, d ≠ c → t.chan d = s.chan d) ∧ Written p (O.COEF_LOAD_PRESET c) s t ∧ KeepsBut [.net, .ctr, .free, .chans] s t) ∧
     (Admitted s p (O.COEF_APPLY c) v → ∃ t, exec (.coefApply p c v) s = .next t ∧
       t.chan c = (if (s.chan c).swap.isSome then
           { s.chan c with held := tset (s.coefStage p c) ((s.chan c).editCopy p) (s.chan c).held }
         else { s.chan c with banks := tset (4 * (1 - (s.chan c).bank) + s.coefStage p c) ((s.chan c).editCopy p) (s.chan c).banks }) ∧
       (∀ d, d ≠ c → t.chan d = s.chan d) ∧ Written p (O.COEF_APPLY c) s t ∧ KeepsBut [.net, .ctr, .free, .chans] s t))

/-! ### The Sluice -/

/-- R92, R10, R11: while the GRAIN domain runs and no SYNC_IN edge is registered, a GRAIN cycle forms the raw grain that begins at the next
boundary, and the time after it is the grain's end. R41, R43, R56: the raw grain of a channel that is enabled and ready, with no slice
failing, no failover and no dressing under way, holds the 64 codes converted, begins at the boundary's sample index, and is neither a
Gap grain nor Stale. R89: while the domain does not run a cycle brings nothing. The codes are the operand of the command (log entry 68). -/
def Obligations.GrainCycleTime : Prop :=
  ∀ (g : GrainIn) (s : State),
    (s.grainRuns = true → s.fan.sync = none → ∃ t, exec (.grainCycle g) s = .next t ∧ t.clk.now = s.grainAt s.clk.now + 64 ∧
      t.clk.epochBase = s.clk.epochBase ∧ t.sluice.ext = g.ext ∧ t.sluice.ctbLevels = g.ctb) ∧
    (∀ c l, c < 4 → g.codes[c]? = some l → l.length = 64 → g.fails = [] → s.grainRuns = true → s.fan.sync = none → s.fault.stop = false →
      (s.chan c).ready = true → s.rd (O.CH_ENABLE c) ≠ 0 → s.fan.failUntil = none → s.quadGap c (s.grainAt s.clk.now) = false →
      s.dress.passes = [] → s.dress.applying = [] → ∃ t x, exec (.grainCycle g) s = .next t ∧ x ∈ (t.chan c).hist ∧
        x.index = s.idxAt (s.grainAt s.clk.now) ∧ x.codes = l ∧ x.gap = false ∧ x.stale = false ∧ x.unref = s.unref) ∧
    (s.grainRuns = false → s.fault.stop = false → ∃ t, exec (.grainCycle g) s = .next t ∧ KeepsBut [] s t)

/-- R103: once its end lies behind the present sample a holdoff is over. R101: a sequence whose limit has passed without SEQ_B is over.
R105: a slot bound to no Armed plan takes a new value of its configuration; the configuration as it then stands is on its way, behind
earlier ones, to the first grain boundary after it reaches the GRAIN domain, within 50 ns. That of a bound slot is refused with abort
0x0800_0022 and reason SLOT_IN_USE. -/
def Obligations.SlotTimersAndConfig : Prop :=
  (∀ (n : Nat) (s : State),
     (∀ h, (s.slot n).holdTo = some h → h < s.idx → ∃ t, exec (.holdoffEnd n) s = .next t ∧
       t.slot n = { s.slot n with holdTo := none } ∧ (∀ m, m ≠ n → t.slot m = s.slot m) ∧ KeepsBut [.sluice] s t) ∧
     (∀ a, (s.slot n).seqOpen = some a → (s.slot n).cfg.limit ≠ 0 → a + (s.slot n).cfg.limit < s.idx →
       ∃ t, exec (.sequenceWindowExpire n) s = .next t ∧
         t.slot n = { s.slot n with seqOpen := none } ∧ (∀ m, m ≠ n → t.slot m = s.slot m) ∧ KeepsBut [.sluice] s t)) ∧
  (∀ (p : Path) (n sub : Nat) (v : Int) (s : State), n < 8 → 1 ≤ sub → sub ≤ 21 → Admitted s p (O.SLOT_KIND n + sub - 1) v →
     (s.boundTo n = none → ∃ t d x, exec (.slotConfigWrite p n sub v) s = .next t ∧ t.rd (O.SLOT_KIND n + sub - 1) = v ∧ 0 < d ∧ d ≤ 4000 ∧
       x = { s.slot n with
         chgs := (s.slot n).chgs ++ [(((s.slot n).chgs.map (fun e => e.1)).foldl max (s.grainAt (s.clk.now + d)), t.slotObjs n)] } ∧
       t.sluice = { s.sluice with slots := tset n x s.sluice.slots } ∧
       OdBut [O.SLOT_KIND n + sub - 1] s t ∧ Written p (O.SLOT_KIND n + sub - 1) s t ∧ KeepsBut [.net, .ctr, .free, .od, .sluice] s t) ∧
     (s.boundTo n ≠ none → ∃ t, exec (.slotConfigWrite p n sub v) s = .next t ∧
       RefusedWith (accOf p (O.SLOT_KIND n + sub - 1) v) 0 0x08000022 0x0300 255 s t))

/-- R115: at the end of its pulse an assertion of TRIG_OUT is over, and only then. R118, R440: an assertion that has crossed the
synchroniser drives every CTB line whose role is TRIGGER for one CTB cycle of 8.0 ns, and is counted (R467); R120, R122: with CTB_CLK
absent, or the Sluice isolated for dressing, it does nothing. R119: with QUERY asserted the ANSWER lines carry the conditions of one
instant between 16.0 and 32.0 ns before, each as its sense says and none where no plan is to answer, and the query is counted; with
QUERY deasserted, and when CTB_CLK is absent (R120), they are released. With CTB_CLK absent or no line in the QUERY role nothing comes
of it. -/
def Obligations.TriggerLines : Prop :=
  (∀ s : State,
     (∃ t, exec .trigOutPulseEnd s = .next t ∧
       t.pins = { s.pins with pulses := s.pins.pulses.filter (fun p => decide (s.clk.now < p.until_)) } ∧ KeepsBut [.pins] s t) ∧
     (s.sluice.ctbPending = true → s.sluice.ctbClk = true → s.sluiceIsolated = false → ∃ t, exec .ctbTriggerAssert s = .next t ∧
       t.pins = { s.pins with ctbDrive := t.pins.ctbDrive } ∧
       (∀ l e, (l, e) ∈ t.pins.ctbDrive ↔ l < 4 ∧ s.rdN (O.CTB_ROLE l) = 1 ∧ e = s.clk.now + 640) ∧
       t.sluice = { s.sluice with ctbPending := false } ∧ t.place 113 = (s.place 113 + 1) % 2 ^ 64 ∧ CtrBut [113] s t ∧
       KeepsBut [.pins, .sluice, .ctr] s t) ∧
     (s.sluice.ctbPending = false ∨ s.sluice.ctbClk = false ∨ s.sluiceIsolated = true → ∃ t, exec .ctbTriggerAssert s = .next t ∧
       KeepsBut [] s t)) ∧
  (∀ s : State,
     (s.sluice.ctbClk = true → (∃ l, l < 4 ∧ s.ctbRole l = 2) →
       (∃ t x, exec (.ctbQuery true) s = .next t ∧ s.clk.now - 2560 ≤ x ∧ x ≤ s.clk.now - 1280 ∧
         t.sluice = { s.sluice with ctbAnswer := s.conditionsAt x } ∧ t.pins = { s.pins with ctbAnswering := true, ctbAnswers := t.pins.ctbAnswers } ∧
         (∀ l, l ∈ t.pins.ctbAnswers ↔ s.rd O.CTB_ANSWER_PLANS ≠ 0 ∧ l < 4 ∧ 3 ≤ s.ctbRole l ∧
           bit (s.conditionsAt x ^^^ s.rdN O.CTB_ANSWER_SENSE) (s.ctbRole l - 3) = true) ∧
         t.rd O.CTB_QUERIES = min (s.rd O.CTB_QUERIES + 1) 4294967295 ∧ OdBut [O.CTB_QUERIES] s t ∧
         t.place 114 = (s.place 114 + 1) % 2 ^ 64 ∧ CtrBut [114] s t ∧ KeepsBut [.pins, .sluice, .od, .ctr, .free] s t) ∧
       (∃ t, exec (.ctbQuery false) s = .next t ∧ t.pins = { s.pins with ctbAnswering := false, ctbAnswers := [] } ∧ KeepsBut [.pins] s t)) ∧
     (∀ b, s.sluice.ctbClk = false ∨ (∀ l, l < 4 → s.ctbRole l ≠ 2) → ∃ t, exec (.ctbQuery b) s = .next t ∧ KeepsBut [] s t) ∧
     (∃ t, exec .ctbClkAbsent s = .next t ∧ t.sluice = { s.sluice with ctbClk := false } ∧
       t.pins = { s.pins with ctbDrive := [], ctbAnswering := false, ctbAnswers := [] } ∧ KeepsBut [.pins, .sluice] s t) ∧
     (∃ t, exec .ctbClkPresent s = .next t ∧ t.sluice = { s.sluice with ctbClk := true } ∧ KeepsBut [.sluice] s t))

/-- R112, R129: the edge of a marker that RASTER_POLARITY does not make active does nothing. An active RASTER_FRAME edge starts line 0 at
its sample and advances the frame counter, or sets it to a value written; where a line edge at the same sample came before it, that line
is taken back. An active RASTER_LINE edge 64 or more samples after the frame edge starts the next line of the frame, and a nearer one
none. R202: each line start enters the log. R114: markers that have grown too old are forgotten. R467: each active edge is counted.
R112: a value written to RASTER_FRAME_COUNT waits for the next frame edge. R123: a read of LAST_TRIG_INDEX answers the index of the last
trigger, and latches its companions with it. -/
def Obligations.Rasters : Prop :=
  (∀ (m : Marker) (s : State),
     (m.rising = bit (s.rdN O.RASTER_POLARITY) 0 → ∃ t, exec (.rasterFrameEdge m) s = .next t ∧ KeepsBut [] s t) ∧
     (m.rising = bit (s.rdN O.RASTER_POLARITY) 1 → ∃ t, exec (.rasterLineEdge m) s = .next t ∧ KeepsBut [] s t) ∧
     (m.rising ≠ bit (s.rdN O.RASTER_POLARITY) 0 → s.sluice.raster.lineEdge ≠ some m.at_ → ∃ t f, exec (.rasterFrameEdge m) s = .next t ∧
       f = (match s.sluice.raster.pendingCount with
         | some w => w
         | none => (s.sluice.raster.now.frame + 1) % 2 ^ 32) ∧
       t.sluice = { s.sluice with raster :=
         { s.sluice.raster.begin { start := m.at_, line := some 0, frame := f } s.idx with
           frameEdge := some m.at_, frameAt := some s.clk.now, pendingCount := none,
           lines := (match s.sluice.raster.now.line with | some k => k + 1 | none => s.sluice.raster.lines),
           period := (match s.sluice.raster.now.line with | some _ => s.sluice.raster.now.period | none => s.sluice.raster.period) } } ∧
       t.farm = { s.farm with
         lines := tset (s.farm.lineNext % 1048576) { frame := f, line := 0, start := m.at_, epoch := s.dir.epochs % 256 } s.farm.lines,
         lineNext := s.farm.lineNext + 1 } ∧
       t.place 117 = (s.place 117 + 1) % 2 ^ 64 ∧ CtrBut [117] s t ∧ KeepsBut [.sluice, .farm, .ctr] s t) ∧
     (∀ l p, m.rising ≠ bit (s.rdN O.RASTER_POLARITY) 0 → s.sluice.raster.lineEdge = some m.at_ → s.sluice.raster.now.start = m.at_ →
       s.sluice.raster.frameEdge ≠ some m.at_ → s.sluice.raster.past = l :: p → 0 < s.farm.lineNext →
       ∃ t, exec (.rasterFrameEdge m) s = .next t ∧ t.sluice.raster.now.start = m.at_ ∧ t.sluice.raster.now.line = some 0 ∧
         t.sluice.raster.now.frame = (match s.sluice.raster.pendingCount with | some w => w | none => (l.frame + 1) % 2 ^ 32) ∧
         t.sluice.raster.past = linesFrom s.idx (l :: p) ∧ t.farm.lineNext = s.farm.lineNext ∧
         t.place 117 = (s.place 117 + 1) % 2 ^ 64 ∧ CtrBut [117] s t ∧ KeepsBut [.sluice, .farm, .ctr] s t) ∧
     (m.rising ≠ bit (s.rdN O.RASTER_POLARITY) 1 → (∀ f, s.sluice.raster.frameEdge = some f → 64 ≤ m.at_ - f) →
       ∃ t l, exec (.rasterLineEdge m) s = .next t ∧
       l = ({ s.sluice.raster.now with
         start := m.at_, line := s.sluice.raster.now.line.map (fun k => min (k + 1) 65534),
         period := (match s.sluice.raster.now.line with | some _ => (m.at_ - s.sluice.raster.now.start).toNat | none => 0) } : Line) ∧
       t.sluice = { s.sluice with raster :=
         { s.sluice.raster.begin l s.idx with lineEdge := some m.at_, lineAt := some s.clk.now } } ∧
       t.farm = { s.farm with
         lines := tset (s.farm.lineNext % 1048576)
           { frame := l.frame, line := l.line.getD 65535, start := m.at_, epoch := s.dir.epochs % 256 } s.farm.lines,
         lineNext := s.farm.lineNext + 1 } ∧
       t.place 118 = (s.place 118 + 1) % 2 ^ 64 ∧ CtrBut [118] s t ∧ KeepsBut [.sluice, .farm, .ctr] s t) ∧
     (∀ f, m.rising ≠ bit (s.rdN O.RASTER_POLARITY) 1 → s.sluice.raster.frameEdge = some f → m.at_ - f < 64 →
       ∃ t, exec (.rasterLineEdge m) s = .next t ∧
       t.sluice = { s.sluice with raster := { s.sluice.raster with lineEdge := some m.at_, lineAt := some s.clk.now } } ∧
       t.place 118 = (s.place 118 + 1) % 2 ^ 64 ∧ CtrBut [118] s t ∧ KeepsBut [.sluice, .ctr] s t) ∧
     (∃ t, exec .rasterAbsent s = .next t ∧
       t.sluice = { s.sluice with raster := { s.sluice.raster with
         frameAt := s.sluice.raster.frameAt.filter (fun f => decide (s.clk.now ≤ f + 2 ^ 32)),
         lineAt := s.sluice.raster.lineAt.filter (fun l => decide (s.clk.now ≤ l + 2 ^ 24)) } } ∧
       KeepsBut [.sluice] s t)) ∧
  (∀ (p : Path) (v : Int) (s : State),
     (Admitted s p O.RASTER_FRAME_COUNT v → ∃ t, exec (.rasterFrameCountWrite p v) s = .next t ∧
       t.sluice = { s.sluice with raster := { s.sluice.raster with pendingCount := some v.toNat } } ∧
       Written p O.RASTER_FRAME_COUNT s t ∧ KeepsBut [.net, .ctr, .free, .sluice] s t) ∧
     (s.serves p 0x4000 → p ≠ .rpdo → ∃ t, exec (.lastTrigIndexRead p) s = .next t ∧
       Answered p 0x400009 (wrapU 64 s.sluice.last.index) s t ∧
       t.sluice = { s.sluice with latched := s.sluice.last } ∧ CtrBut [460, 461] s t ∧ KeepsBut [.net, .ctr, .free, .sluice] s t))

/-! ### Plans, segments, the directory, epochs -/

/-- R137, R139 to R143: at the sample at which it takes effect (`State.cmdAt`: the first of g_B, log entry 82) the command leaves the plan's
queue. ARM: the plan takes its configuration, is FILLING from g_B, or READY if the fill instant of R146 lies at or before the first
sample of g_B, and SEGMENT_NUMBER starts at 0; the entries of a plan in RETAINING are released first. STOP on an Armed plan, and HOLD on
one in FILLING or READY: it is RETAINING if it has entries, else IDLE, takes no grain from g_B on, and its open segment ends there with
STOPPED. HOLD on a PENDING plan: FINISHING. FORCE: a READY plan triggers at that sample, a FILLING one at its fill instant, and a plan
in PENDING or FINISHING counts it as ignored. RELEASE of a RETAINING plan: IDLE. The command does nothing to a plan in another state,
and nothing to other plans; before its sample it waits. R146, R147: after its segment's last grain a plan under POLICY single, after its
last segment, or FINISHING enters RETAINING; otherwise it begins to fill for the next segment, from the grain after, up to the fill
instant of R146. Nothing else changes; before its last sample nothing does. -/
def Obligations.PlansAndSegments : Prop :=
  (∀ (q : Nat) (c : PlanCmd) (rest : List PlanCmd) (s : State), (s.plan q).cmds = c :: rest →
     (s.idx < (s.cmdAt (s.plan q) c).2 → ∃ t, exec (.planCommandEffect q) s = .next t ∧ KeepsBut [] s t) ∧
     ((s.cmdAt (s.plan q) c).2 ≤ s.idx → ∃ t g x, exec (.planCommandEffect q) s = .next t ∧ s.cmdAt (s.plan q) c = (g, x) ∧
       (∀ r, r ≠ q → t.plan r = s.plan r) ∧
       (∀ y, y ∈ [Part.clk, .dev, .net, .chans, .quads, .origin, .sluice, .fan, .dress, .gov, .pins, .layer, .timer, .mon, .tail, .upd] →
         y.same s t) ∧
       (∀ a, c.code = 1 → c.arm = some a →
         (∃ f, f = max (max s.origin.o (s.idxAt c.b)) (s.origin.o + (g + a.cfg.pre) * a.p - a.g) ∧
           t.plan q = { s.plan q with
             cmds := rest, cfg := a.cfg, p := a.p, g := a.g, base := a.base, arms := (s.plan q).arms + 1,
             st := if f ≤ a.cfg.spanStart s.origin.o g then 2 else 1, g0 := g, fill := f, from_ := g, until_ := none, ringBase := g,
             segNo := 0, done := 0, taken := 0, entries := 0, extent := 0, lastNum := [], seg := none, force := none }) ∧
         ((s.plan q).st ≠ 5 → t.dir = { s.dir with started := c.batch :: s.dir.started.filter (fun b => b != c.batch) } ∧
           KeepsBut [.plans, .dir] s t) ∧
         ((s.plan q).st = 5 → ∀ r e, tfind t.dir.rows r = some e → e.seg.plan = q → e.state = 3)) ∧
       ((c.code = 2 ∧ armedSt (s.plan q).st = true) ∨ (c.code = 3 ∧ ((s.plan q).st = 1 ∨ (s.plan q).st = 2)) →
         t.plan q = { s.plan q with
           cmds := rest, st := if (s.plan q).entries ≠ 0 then 5 else 0, until_ := some g, seg := none, force := none } ∧
         (∀ id z, s.segsOf q = [(id, z)] → z.gen = s.origin.gen → g < z.stop → (s.plan q).entries ≠ 0 →
           tfind t.dir.segs id = some (z.close g [7]) ∧ t.place 162 = (s.place 162 + 1) % 2 ^ 64 ∧ CtrBut [162] s t) ∧
         (∀ k, k ≠ O.EMCY_LOST → t.rd k = s.rd k)) ∧
       (c.code = 3 → (s.plan q).st = 3 → t.plan q = { s.plan q with cmds := rest, st := 4 } ∧ KeepsBut [.plans, .dir] s t) ∧
       (c.code = 4 → (s.plan q).st = 2 → t.plan q = { s.plan q with cmds := rest, force := some x } ∧ KeepsBut [.plans, .dir] s t) ∧
       (c.code = 4 → (s.plan q).st = 1 → t.plan q = { s.plan q with cmds := rest, force := some (s.plan q).fill } ∧
         KeepsBut [.plans, .dir] s t) ∧
       (c.code = 4 → (s.plan q).st = 3 ∨ (s.plan q).st = 4 → t.plan q = { s.plan q with cmds := rest } ∧
         t.rd (O.FORCE_IGNORED q) = min (s.rd (O.FORCE_IGNORED q) + 1) 4294967295 ∧ OdBut [O.FORCE_IGNORED q] s t ∧
         KeepsBut [.plans, .dir, .od] s t) ∧
       (c.code = 5 → (s.plan q).st = 5 → t.plan q = { s.plan q with cmds := rest, st := 0, seg := none, force := none } ∧
         ∀ r e, tfind t.dir.rows r = some e → e.seg.plan = q → e.state = 3) ∧
       ((c.code = 2 ∧ armedSt (s.plan q).st = false) ∨ (c.code = 3 ∧ ((s.plan q).st = 0 ∨ 4 ≤ (s.plan q).st)) ∨
           (c.code = 4 ∧ ((s.plan q).st = 0 ∨ 5 ≤ (s.plan q).st)) ∨ (c.code = 5 ∧ (s.plan q).st ≠ 5) →
         t.plan q = { s.plan q with cmds := rest } ∧ KeepsBut [.plans, .dir] s t))) ∧
  (∀ (q id : Nat) (e : Int) (g : Seg) (s : State), (s.plan q).seg = some (id, e) → tfind s.dir.segs id = some g →
     (s.idx < e → ∃ t, exec (.segmentEnd q) s = .next t ∧ KeepsBut [] s t) ∧
     (e ≤ s.idx → ∃ t, exec (.segmentEnd q) s = .next t ∧
       ((s.plan q).st = 4 ∨ (s.plan q).cfg.policy = 0 ∨ ((s.plan q).cfg.policy = 1 ∧ (s.plan q).cfg.segs ≤ (s.plan q).segNo + 1) →
         t.plan q = { s.plan q with
           st := 5, seg := none, segNo := (s.plan q).segNo + 1, until_ := some (g.k + (s.plan q).cfg.post) }) ∧
       ((s.plan q).st ≠ 4 → (s.plan q).cfg.policy = 2 ∨ ((s.plan q).cfg.policy = 1 ∧ (s.plan q).segNo + 1 < (s.plan q).cfg.segs) →
         ∃ f, f = s.origin.o + (g.k + (s.plan q).cfg.post + (s.plan q).cfg.pre) * (s.plan q).p - (s.plan q).g ∧
         t.plan q = { s.plan q with
           st := if f ≤ s.idx then 2 else 1, seg := none, segNo := (s.plan q).segNo + 1, g0 := g.k + (s.plan q).cfg.post, fill := f }) ∧
       (∀ r, r ≠ q → t.plan r = s.plan r) ∧ KeepsBut [.plans] s t))

/-- R150, R152: the oldest segment in the queue, placed, obtains the next directory row as an OPEN entry with the next sequence, at most one in
4 ns; DIR_PEAK_USED follows the rows in use. Once its grains are in the store its entry is COMPLETE, and the plan has one more segment done;
where the plan names no gates no measurement work is formed. -/
def Obligations.DirectoryEntries : Prop :=
  ∀ s : State,
    (∀ id rest g, s.dir.queue = id :: rest → tfind s.dir.segs id = some g → s.stopped 2 = false → s.asleep = false →
      (∀ x, x ∈ s.sluice.placing → x.seg ≠ some id) → s.dir.lastOpen = 0 ∨ s.dir.lastOpen + 320 ≤ s.clk.now →
      ∃ t n, exec .directoryWrite s = .next t ∧ n = s.dir.nextSeq ∧
        t.dir = { s.dir with
          queue := rest, nextSeq := (n + 1) % 2 ^ 32, lastOpen := s.clk.now, segs := tset id { g with seq := some n } s.dir.segs,
          rows := tset (n % 262144) { seq := n, seg := { g with seq := some n }, count := g.count, state := 1, hostRel := g.cfg.hostRel }
            s.dir.rows } ∧
        t.plan g.plan = { s.plan g.plan with lastSeq := n } ∧ (∀ r, r ≠ g.plan → t.plan r = s.plan r) ∧
        t.rd O.DIR_PEAK_USED = max (s.rd O.DIR_PEAK_USED) t.rowsUsed ∧ OdBut [O.DIR_PEAK_USED] s t ∧ KeepsBut [.dir, .plans, .od] s t) ∧
    (s.dir.queue = [] ∨ ((∃ id rest g, s.dir.queue = id :: rest ∧ tfind s.dir.segs id = some g) ∧
        (s.stopped 2 = true ∨ s.asleep = true ∨ (s.dir.lastOpen ≠ 0 ∧ s.clk.now < s.dir.lastOpen + 320))) →
      ∃ t, exec .directoryWrite s = .next t ∧ KeepsBut [] s t) ∧
    (∀ id g q, tfind s.dir.segs id = some g → g.seq = some q → s.stopped 2 = false → s.asleep = false → s.segWritten g = true →
      ∃ t e, exec (.entryComplete id) s = .next t ∧
        e = ({ seq := q, seg := { g with flags := setBit g.flags 6 true }, count := g.count, state := 2, hostRel := g.cfg.hostRel } : Entry) ∧
        t.dir = { s.dir with segs := tdel id s.dir.segs, rows := tset (q % 262144) e s.dir.rows } ∧
        t.plan g.plan = { s.plan g.plan with done := (s.plan g.plan).done + 1 } ∧ (∀ r, r ≠ g.plan → t.plan r = s.plan r) ∧
        t.place (128 + g.plan) = (s.place (128 + g.plan) + 1) % 2 ^ 64 ∧
        (g.cfg.gateCount = 0 → t.farm = { s.farm with ord := s.farm.ord + 1 } ∧ KeepsBut [.dir, .plans, .ctr, .pond, .farm] s t)) ∧
    (∀ id g, tfind s.dir.segs id = some g → s.segWritten g = false ∨ s.stopped 2 = true ∨ s.asleep = true →
      ∃ t, exec (.entryComplete id) s = .next t ∧ KeepsBut [] s t)

/-- R150, R157: a COMPLETE entry is released once no measurement work on it is open and, where the host releases entries, the host has
acknowledged it, and not before. R157: HOST_ACK_SEQ takes, and counts, a value that is not behind it, nor ahead of the entries made; one
behind is refused with reason HOST_ACK_BACKWARD, one ahead with HOST_ACK_AHEAD, and nothing else changes then. R160, R194, R327, R474,
R412: a write of a row number latches, for its path, the row as it stands: of the directory, the gap list, the fault log and the trace
ring; nothing else changes. -/
def Obligations.AckAndRowLatches : Prop :=
  (∀ s : State,
     (∀ e, tfind s.dir.rows (e.seq % 262144) = some e → e.state = 2 → s.workOpen e.seq = false →
       e.hostRel = false ∨ (s.dir.hostAck + 2 ^ 32 - e.seq) % 2 ^ 32 < 2 ^ 31 →
       ∃ t, exec (.entryReleased e.seq) s = .next t ∧
         t.dir = { s.dir with
           rows := tset (e.seq % 262144) { e with state := 3 } s.dir.rows, oldest := t.dir.oldest, unseen := t.dir.unseen } ∧
         KeepsBut [.dir, .free] s t) ∧
     (∀ e, tfind s.dir.rows (e.seq % 262144) = some e →
       e.state ≠ 2 ∨ s.workOpen e.seq = true ∨ (e.hostRel = true ∧ 2 ^ 31 ≤ (s.dir.hostAck + 2 ^ 32 - e.seq) % 2 ^ 32) →
       ∃ t, exec (.entryReleased e.seq) s = .next t ∧ KeepsBut [] s t) ∧
     (∀ (p : Path) (v : Int), Admitted s p O.HOST_ACK_SEQ v →
       ((v.toNat + 2 ^ 32 - s.dir.hostAck) % 2 ^ 32 < 2 ^ 31 → 2 ^ 31 ≤ (v.toNat + 2 ^ 32 - s.dir.nextSeq) % 2 ^ 32 →
         ∃ t, exec (.hostAckSeqWrite p v) s = .next t ∧ t.dir = { s.dir with hostAck := v.toNat } ∧ Answered p O.HOST_ACK_SEQ 0 s t ∧
           t.place 166 = (s.place 166 + 1) % 2 ^ 64 ∧ CtrBut [460, 461, 166] s t ∧ KeepsBut [.net, .ctr, .free, .dir] s t) ∧
       (2 ^ 31 ≤ (v.toNat + 2 ^ 32 - s.dir.hostAck) % 2 ^ 32 → ∃ t, exec (.hostAckSeqWrite p v) s = .next t ∧
         RefusedWith (accOf p O.HOST_ACK_SEQ v) 0 0x06090030 0x040A 255 s t) ∧
       ((v.toNat + 2 ^ 32 - s.dir.hostAck) % 2 ^ 32 < 2 ^ 31 → (v.toNat + 2 ^ 32 - s.dir.nextSeq) % 2 ^ 32 < 2 ^ 31 →
         ∃ t, exec (.hostAckSeqWrite p v) s = .next t ∧ RefusedWith (accOf p O.HOST_ACK_SEQ v) 0 0x06090030 Why.HOST_ACK_AHEAD 255 s t))) ∧
  (∀ (p : Path) (v : Int) (s : State),
     (Admitted s p O.DIR_ROW v → ∃ t, exec (.dirRowLatch p v) s = .next t ∧ t.rd (win p O.DIR_ROW) = v ∧
       t.dir = { s.dir with win := latch p (tfind s.dir.rows v.toNat) s.dir.win } ∧ OdBut [win p O.DIR_ROW] s t ∧ Written p O.DIR_ROW s t ∧
       KeepsBut [.net, .ctr, .free, .od, .dir] s t) ∧
     (Admitted s p O.GAP_ROW v → ∃ t, exec (.gapRowLatch p v) s = .next t ∧ t.rd (win p O.GAP_ROW) = v ∧
       t.pond = { s.pond with gapWin := latch p (tfind s.pond.gaps v.toNat) s.pond.gapWin } ∧ OdBut [win p O.GAP_ROW] s t ∧
       Written p O.GAP_ROW s t ∧ KeepsBut [.net, .ctr, .free, .od, .pond] s t) ∧
     (Admitted s p O.FAULT_ROW v → ∃ t, exec (.faultRowLatch p v) s = .next t ∧ t.rd (win p O.FAULT_ROW) = v ∧
       t.fault.bare = { s.fault.bare with win := latch p (tfind s.fault.log v.toNat) s.fault.win } ∧ OdBut [win p O.FAULT_ROW] s t ∧
       Written p O.FAULT_ROW s t ∧ KeepsBut [.net, .ctr, .free, .od, .fault] s t) ∧
     (Admitted s p O.TRACE_ROW v → ∃ t, exec (.traceRowLatch p v) s = .next t ∧ t.rd (win p O.TRACE_ROW) = v ∧
       t.trace.bare = { s.trace.bare with win := latch p (s.traceRow v.toNat) s.trace.win } ∧ OdBut [win p O.TRACE_ROW] s t ∧
       Written p O.TRACE_ROW s t ∧ KeepsBut [.net, .ctr, .free, .od, .trace] s t))

/-- R277, R279: an enabled SYNC_IN edge, in Run or Faulted without one registered, is registered at an edge of the timebase at or after it,
counted, and sample 0 of the new epoch comes 16 timebase cycles later; an open event-timer pair is cut. One that is registered before
sample 0 of the epoch of the edge before or within 1 us after it, that comes in Boot, Doze or Sleep, or that is disabled, is ignored and
counted, and nothing else changes; so is one while another is held during a failover. During a failover the edge is held until its end.
R278: at that time the epoch's sample 0 is now, the epochs are one more, the decimation origin is 0, the raster is as before its first
edge, and the channels' histories are empty. R25: with the POND domain running, a channel's gap ranges leave their registers; a range
that was the only one, with grains that plans took, enters the gap list as DROPPED, its locations marked as lost, and is counted. With
the domain stopped they stay. -/
def Obligations.SyncAndGaps : Prop :=
  (∀ s : State,
     (s.rd O.SYNC_IN_ENABLE ≠ 1 ∨ s.dev = .boot ∨ s.dev = .sleep ∨ s.asleep = true ∨ s.fan.heldSync = true ∨
        (∃ z, s.fan.sync = some z ∧ s.syncEdge < z) ∨ (∃ z, s.fan.syncDone = some z ∧ s.syncEdge ≤ z + us 1) → ∃ t, exec .syncInEdge s = .next t ∧
       t.rd O.SYNC_IGNORED = min (s.rd O.SYNC_IGNORED + 1) 4294967295 ∧ OdBut [O.SYNC_IGNORED] s t ∧
       t.place 120 = (s.place 120 + 1) % 2 ^ 64 ∧ CtrBut [120] s t ∧ KeepsBut [.od, .ctr, .free] s t) ∧
     (s.rd O.SYNC_IN_ENABLE = 1 → s.dev = .run ∨ s.dev = .faulted → s.asleep = false → (∀ z, s.fan.sync = some z → z ≤ s.syncEdge) →
       (∀ z, s.fan.syncDone = some z → z + us 1 < s.syncEdge) → s.fan.heldSync = false →
       (s.fan.failUntil = none → ∃ t, exec .syncInEdge s = .next t ∧ s.clk.now ≤ s.syncEdge ∧
         t.fan = { s.fan with sync := some (s.syncEdge + 16 * 800) } ∧
         t.place 119 = (s.place 119 + 1) % 2 ^ 64 ∧ CtrBut [119] s t ∧ t.timer.pair = none ∧
         (s.timer.pair = none → KeepsBut [.fan, .ctr, .free] s t) ∧
         (s.timer.pair ≠ none → t.rd O.PAIRS_CUT = min (s.rd O.PAIRS_CUT + 1) 4294967295 ∧ OdBut [O.PAIRS_CUT] s t ∧
           KeepsBut [.fan, .od, .ctr, .free, .timer] s t)) ∧
       (∀ u, s.fan.failUntil = some u → ∃ t, exec .syncInEdge s = .next t ∧
         t.fan = { s.fan with heldSync := true, sync := some (alignUp s.clk.epochBase 800 u + 16 * 800) } ∧
         t.place 119 = (s.place 119 + 1) % 2 ^ 64 ∧ CtrBut [119] s t ∧ KeepsBut [.fan, .ctr, .free] s t)) ∧
     (∀ z, s.fan.sync = some z → z ≤ s.clk.now → ∃ t, exec .epochStart s = .next t ∧ t.clk = { s.clk with epochBase := z } ∧
       t.dir.epochs = s.dir.epochs + 1 ∧ t.origin = { s.origin with o := 0, gen := s.origin.gen + 1 } ∧
       t.fan = { s.fan with sync := none, syncDone := some z, heldSync := false, gridKnown := s.fan.tb == 2 && s.fan.inUse == 1 } ∧
       t.sluice.raster = { s.sluice.raster with now := {}, past := [], frameEdge := none, lineEdge := none } ∧
       (∀ c, c < 4 → (t.chan c).hist = [] ∧ (t.chan c).zeroAt = 0 ∧ (t.chan c).cfg = (s.chan c).cfg) ∧
       (∀ y, y ∈ [Part.dev, .net, .dress, .gov, .layer, .mon, .upd] → y.same s t)) ∧
     (∀ z, s.fan.sync = some z → s.clk.now < z → ∃ t, exec .epochStart s = .next t ∧ KeepsBut [] s t)) ∧
  (∀ (c : Nat) (s : State), s.fault.stop = false →
     (s.stopped 2 = true → ∃ t, exec (.gapRangeWrite c) s = .next t ∧ KeepsBut [] s t) ∧
     (s.stopped 2 = false → ∃ t, exec (.gapRangeWrite c) s = .next t ∧ (t.chan c).gaps = [] ∧ (t.chan c).dropping = false ∧
       (∀ g, (s.chan c).gaps = [g] → g.addrs ≠ [] → s.pond.gaps.length < 1048576 →
         t.chan c = { s.chan c with gaps := [], dropping := false } ∧ (∀ d, d ≠ c → t.chan d = s.chan d) ∧
         t.pond = { s.pond with
           gaps := tset s.gapRow { kind := 1, ch := c, first := g.first, grains := g.count, addr := g.addrs.headD 0,
                                   pc := pcNo (g.addrs.headD 0), epoch := g.epoch } s.pond.gaps,
           lost := t.pond.lost } ∧
         (∀ a, a ∈ g.addrs → s.gapRow ∈ tget (fun _ => []) t.pond.lost a) ∧
         t.place 208 = (s.place 208 + 1) % 2 ^ 64 ∧ CtrBut [208] s t ∧ KeepsBut [.chans, .pond, .ctr] s t)))

/-! ### The Millpond -/

/-- R169: a share that fits the sample region, written with every plan IDLE, is stored, and so is a PLANE_FRAMES with no plane holding a frame
that leaves room for the shares; with a plan not IDLE the write is refused with reason STORE_IN_USE, and where the shares would not fit with
STORE_SHARE_SUM. R174, R59, R184, R185: with no other read waiting, a read of class 5 of a region-grain address without errors returns the
grain stored there, a gap grain where its pseudo-channel is gone, and a gap grain for one of no allocation; while the store does not serve
it waits. R180: a write-back that finds its burst sound leaves the queue and is counted. R181: a due scrub burst that finds its burst sound
moves the scrub on by one, and the next falls due 7.2 µs later; where a copy has the right of way it does nothing. -/
def Obligations.StoreTraffic : Prop :=
  ∀ s : State,
    (∀ (p : Path) (sub v : Nat), sub ∈ [3, 4, 5, 6] → Admitted s p (0x440000 + sub) v → v ≤ regionGrains (s.rdN O.PLANE_FRAMES) →
      ((∃ q, q < 16 ∧ (s.plan q).entering ≠ 0) → ∃ t, exec (.shareWrite p sub v) s = .next t ∧
        RefusedWith (accOf p (0x440000 + sub) v) 0 0x08000022 Why.STORE_IN_USE 255 s t) ∧
      ((∀ q, q < 16 → (s.plan q).entering = 0) →
        regionGrains (s.rdN O.PLANE_FRAMES) < (chanNos.map (fun c => if sub = 3 + c then v else s.share c)).foldl (· + ·) 0 →
        ∃ t, exec (.shareWrite p sub v) s = .next t ∧
          RefusedWith (accOf p (0x440000 + sub) v) 0 0x06090030 Why.STORE_SHARE_SUM 255 s t) ∧
      ((∀ q, q < 16 → (s.plan q).entering = 0) →
        (chanNos.map (fun c => if sub = 3 + c then v else s.share c)).foldl (· + ·) 0 ≤ regionGrains (s.rdN O.PLANE_FRAMES) →
        ∃ t, exec (.shareWrite p sub v) s = .next t ∧ t.rd (0x440000 + sub) = v ∧ OdBut [0x440000 + sub] s t ∧
          Written p (0x440000 + sub) s t ∧ KeepsBut [.net, .ctr, .free, .od] s t)) ∧
    (∀ (p : Path) (v : Nat), Admitted s p O.PLANE_FRAMES v → (∀ q, q < 16 → (s.plan q).entering = 0) → s.planesInUse = 0 →
      (chanNos.map (fun c => s.share c)).foldl (· + ·) 0 ≤ regionGrains v →
      ∃ t, exec (.shareWrite p 11 v) s = .next t ∧ t.rd O.PLANE_FRAMES = v ∧ OdBut [O.PLANE_FRAMES] s t ∧
        Written p O.PLANE_FRAMES s t ∧ KeepsBut [.net, .ctr, .free, .od] s t) ∧
    (∀ r : StoreRead, s.storeServes = true → s.fault.stop = false → r.cls = 5 → r.region = 0 → r.ecc = [] → s.pond.reads = [] →
      ∃ t, exec (.storeRead r) s = .next t ∧ t.pond.grains = s.pond.grains ∧ t.pond.lost = s.pond.lost ∧ t.pond.gaps = s.pond.gaps ∧
        t.pond.lostLines = s.pond.lostLines ∧ t.pond.poison = s.pond.poison ∧ t.pond.writeBacks = s.pond.writeBacks ∧ t.pond.pcs = s.pond.pcs ∧
        t.pond.reads = [] ∧ t.pond.readLost = false ∧
        t.pond.read = some (match s.ownerOf r.addr, tfind s.pond.grains r.addr with
          | some _, some g => if s.pcGap (pcNo r.addr) then g.gapOf else g
          | _, _ => Grain.beyond) ∧ CtrBut [207] s t ∧ KeepsBut [.pond, .ctr] s t) ∧
    (∀ r : StoreRead, s.storeServes = false → s.dev ≠ .boot → s.fault.stop = false → 3 ≤ r.cls → r.cls ≤ 5 → r.region < 3 →
      ∃ t, exec (.storeRead r) s = .next t ∧
        t.pond = { s.pond with reads := s.pond.reads ++ [{ rd := r, at_ := s.clk.now }] } ∧ KeepsBut [.pond] s t) ∧
    (∀ k rest e, e ≠ .lost → s.pond.writeBacks = k :: rest → s.storeServes = true → s.fault.stop = false →
      ∃ t, exec (.writeBack e) s = .next t ∧ t.pond.writeBacks = rest ∧ t.pond.grains = s.pond.grains ∧ t.pond.lost = s.pond.lost ∧
        t.pond.poison = s.pond.poison ∧ t.place 200 = (s.place 200 + 1) % 2 ^ 64 ∧ CtrBut [200, 204] s t ∧ KeepsBut [.pond, .ctr] s t) ∧
    (∀ c : ScrubIn, s.storeServes = true → s.fault.stop = false → s.pond.scrubAt ≤ s.clk.now → s.scrubWaits = false → c.rd.ecc = [] →
      c.onDie = 0 → c.poison = true → s.pond.scrubBurst + 1 < s.scrubBursts →
      ∃ t, exec (.scrubBurst c) s = .next t ∧ t.pond.scrubAt = s.clk.now + scrubGap ∧ t.pond.scrubBurst = s.pond.scrubBurst + 1 ∧
        t.pond.passedOver = 0 ∧ t.pond.passes = s.pond.passes ∧ t.pond.grains = s.pond.grains ∧ t.pond.lost = s.pond.lost ∧
        t.pond.writeBacks = s.pond.writeBacks ∧ CtrBut [202, 204] s t ∧ KeepsBut [.pond, .ctr] s t) ∧
    (∀ c : ScrubIn, s.fault.stop = false → s.storeServes = false ∨ s.clk.now < s.pond.scrubAt ∨ s.scrubWaits = true →
      ∃ t, exec (.scrubBurst c) s = .next t ∧ KeepsBut [] s t)

/-- R187, R308: a pseudo-channel that fails with its half's spare ready is replaced by it in at most 500 µs (the length is free within it):
a PC_LOSS record, a covered fault, the spare in use, and every grain it stored reads as a gap grain. R188: with none, or in Faulted, it
is dead, its half failed, and the device Faulted. R306, R308: a decided worn pseudo-channel is copied to the spare, 6 of its 768 parts a
step, a scrub step passed over four times going first (R38); after the last the map switches. R187: when the losses of one are marked,
each directory row that includes a lost grain carries flag 5. Physical numbers are those of log entry 20. -/
def Obligations.PseudoChannelLoss : Prop :=
  ∀ (l : Nat) (s : State),
    (∀ row, l < 60 → (s.pc l).dead = false → s.spareFor l = true → s.dev = .run → s.fault.stop = false → s.pond.gaps.length < 1048576 →
      ∃ t i r, exec (.pcHardFailure l row) s = .next t ∧ i ≤ 500000 ∧ (t.pc l).phys = (s.half (halfNo l)).spare ∧
        (t.pc l).switching = some (s.clk.now + i * 80) ∧ (t.pc l).dead = false ∧ (t.half (halfNo l)).layered = true ∧
        (t.half (halfNo l)).spareReady = false ∧
        (∃ a, tfind t.pond.gaps s.gapRow = some { kind := 3, first := s.tbIdx, addr := a, pc := l, epoch := s.dir.epochs % 256 }) ∧
        ((s.pc l).copying = false → ∀ a g, tfind s.pond.grains a = some g → pcNo a = l → tfind t.pond.grains a = some g.gapOf) ∧
        tfind t.fault.log (s.fault.next % 256) = some r ∧ r.kind = 0x03 ∧ r.unit = 0x0600 + halfNo l ∧ r.outcome = 1 ∧
        r.interruption = i ∧ r.slice = (s.pc l).phys ∧ r.detail = s.burst l row ∧ l ∈ t.pond.marking ∧
        KeepsBut [.pond, .farm, .fault, .trace, .ctr, .od, .layer, .free] s t) ∧
    (∀ row, l < 60 → (s.pc l).dead = false → (s.dev = .run ∧ s.spareFor l = false) ∨ s.dev = .faulted →
      ∃ t, exec (.pcHardFailure l row) s = .next t ∧ (t.pc l).dead = true ∧ (t.half (halfNo l)).failed = true ∧ t.dev = .faulted ∧
        t.fault.faultN = true) ∧
    (∀ row, 60 ≤ l ∨ (s.pc l).dead = true → s.fault.stop = false → ∃ t, exec (.pcHardFailure l row) s = .next t ∧ KeepsBut [] s t) ∧
    (l < 60 → (s.half (halfNo l)).spareReady = true → (s.half (halfNo l)).layered = false → s.pond.copy = none → s.dev = .run →
      s.storeServes = true → s.layer.decided.any (fun d => d.1 == 0x0600 + halfNo l && d.2.1 == (s.pc l).phys) = true →
      ∃ t, exec (.pcCopyStart l) s = .next t ∧ t.pond.copy = some l ∧
        t.pc l = { s.pc l with copying := true, copied := 0, both := [] } ∧ (∀ m, m ≠ l → t.pc m = s.pc m) ∧
        (t.half (halfNo l)).spareReady = false ∧ t.layer.busy = (0x0600 + halfNo l) :: s.layer.busy ∧
        t.fault.log = s.fault.log ∧ KeepsBut [.pond, .layer, .fault] s t) ∧
    (s.pond.copy = some l → s.storeServes = true → s.scrubNext l = false →
      ∃ t, exec .pcCopyStep s = .next t ∧ t.pc l = { s.pc l with copied := min 768 ((s.pc l).copied + 6) } ∧ (∀ m, m ≠ l → t.pc m = s.pc m) ∧
        t.pond.passedOver = s.pond.passedOver + b2n (s.due s.pond.scrubAt && halfNo l == halfNo (s.pond.scrubBurst % 60)) ∧
        t.pond.copy = some l ∧ t.pond.grains = s.pond.grains ∧ CtrBut [204] s t ∧ KeepsBut [.pond, .ctr] s t) ∧
    (s.pond.copy = none ∨ s.storeServes = false ∨ (s.pond.copy = some l ∧ s.scrubNext l = true) →
      ∃ t, exec .pcCopyStep s = .next t ∧ KeepsBut [] s t) ∧
    (s.pond.copy = some l → s.storeServes = true → 768 ≤ (s.pc l).copied →
      ∃ t r, exec .pcMapSwitch s = .next t ∧
        t.pc l = { s.pc l with phys := (s.half (halfNo l)).spare, copying := false, copied := 0, both := [] } ∧
        (∀ m, m ≠ l → t.pc m = s.pc m) ∧
        (t.half (halfNo l)).layered = true ∧ t.pond.copy = none ∧ tfind t.fault.log (s.fault.next % 256) = some r ∧ r.kind = 0x18 ∧
        r.unit = 0x0600 + halfNo l ∧ r.slice = (s.pc l).phys ∧ r.outcome = 1 ∧ t.pond.grains = s.pond.grains ∧
        KeepsBut [.pond, .layer, .fault, .trace, .ctr, .od] s t) ∧
    (l ∈ s.pond.marking →
      ∃ t, exec (.pcLossMarking l) s = .next t ∧ t.pond.marking = s.pond.marking.filter (· != l) ∧
        (∀ k e, tfind s.dir.rows k = some e → ∀ a rows, (a, rows) ∈ s.pond.lost → pcNo a = l → ∀ row, row ∈ rows →
          (s.pc l).lossRow = some row → ∀ g, tfind s.pond.grains a = some g → e.seg.gen = g.gen →
          ∀ o, s.offsetOf e.seg.plan g.ch a = some o → e.seg.includes g.ch o g.index = true → ∃ f, tfind t.dir.rows k = some f ∧ f.seq = e.seq ∧ bit f.seg.flags 5 = true) ∧
        t.pond.grains = s.pond.grains ∧ t.pond.lost = s.pond.lost ∧ t.pond.gaps = s.pond.gaps ∧ CtrBut [207] s t ∧
        KeepsBut [.pond, .dir, .ctr] s t)

/-! ### Runners, gates, planes, displays -/

/-- R224: a step takes its instance on by the samples that a step covers, and the step after the last finishes it and is counted (with the
credits of class 3 full, R175). A first error starts a retry; a second, a third of its runner within 1 s, or a retry of 20 µs retires the
runner: the cluster's ready spare takes its place and runs the step again, and with none the runners left do. R225: an instance whose last step
is MEAS_TIMEOUT old is abandoned and counted, its measurements without a value for reason TIMEOUT; not before. -/
def Obligations.InstanceWork : Prop :=
  ∀ (s : State) (x : Inst),
    (∀ (st : StepIn) run e, s.farmRuns = true → s.instOf st.inst = some x → s.runnerFor x st.cluster st.runner = some run → x.pos < x.len →
      s.entryOf x.seq = some e → s.pond.credit3 = creditMax →
      ∃ t y, exec (.instanceStep st) s = .next t ∧ y ∈ t.farm.insts ∧
        y = { x with
          run := some run, pos := x.pos + min (x.stepSpan e.seg) (x.len - x.pos), lastStep := s.clk.now, limit := s.rdN O.MEAS_TIMEOUT,
          home := none, retry := none, smps := y.smps, lsb := y.lsb, gap := y.gap, stale := y.stale, settle := y.settle, overR := y.overR,
          layer := y.layer } ∧
        (st.crcBad = true → y.gap = true) ∧ (∀ z, z ∈ s.farm.insts → z.id ≠ x.id → z ∈ t.farm.insts) ∧
        t.farm.recs = s.farm.recs ∧ t.farm.planes = s.farm.planes ∧ OdBut [O.SRAM_CORRECTED, O.WORK_OVERWRITTEN] s t ∧
        KeepsBut [.farm, .pond, .ctr, .od, .layer] s t) ∧
    (∀ (st : StepIn) run, s.farmRuns = true → s.instOf st.inst = some x → s.runnerFor x st.cluster st.runner = some run → run < 512 →
      x.len ≤ x.pos → s.pond.credit3 = creditMax →
      ∃ t, exec (.instanceStep st) s = .next t ∧
        t.rd O.INSTANCES_DONE = min (s.rd O.INSTANCES_DONE + 1) (2 ^ 64 - 1) ∧ t.instOf st.inst = none ∧
        t.place (256 + run / 32) = (s.place (256 + run / 32) + 1) % 2 ^ 64 ∧
        OdBut [O.SRAM_CORRECTED, O.INSTANCES_DONE, O.ACCUM_NO_PLANE] s t ∧ KeepsBut [.farm, .pond, .ctr, .od, .layer] s t) ∧
    (∀ (st : StepIn), s.farmRuns = false ∨ s.instOf st.inst = none ∨
        (s.instOf st.inst = some x ∧ s.runnerFor x st.cluster st.runner = none) →
      ∃ t, exec (.instanceStep st) s = .next t ∧ KeepsBut [] s t) ∧
    (∀ (r : AtRunner) lost run, s.instOf r.inst = some x → s.runnerFor x r.cluster r.runner = some run → x.retry = none →
      ((tget (fun _ => []) (s.cluster (run / 32)).errs (run % 32)).filter (fun t => decide (s.clk.now < t + sec 1))).length < 2 →
      ∃ t y, exec (.runnerResidueError r lost) s = .next t ∧ y ∈ t.farm.insts ∧
        y = (if x.run = some run then { x with retry := some s.clk.now }
             else { x with run := some run, lastStep := s.takenAt x run, limit := s.rdN O.MEAS_TIMEOUT, retry := some s.clk.now }) ∧
        (∀ z, z ∈ s.farm.insts → z.id ≠ x.id → z ∈ t.farm.insts) ∧
        t.rd O.RESIDUE_COUNT = min (s.rd O.RESIDUE_COUNT + 1) 4294967295 ∧ OdBut [O.RESIDUE_COUNT] s t ∧
        t.place (272 + run / 32) = (s.place (272 + run / 32) + 1) % 2 ^ 64 ∧ CtrBut [272 + run / 32] s t ∧
        KeepsBut [.farm, .ctr, .od, .layer] s t) ∧
    (∀ (r : AtRunner) lost run since, s.instOf r.inst = some x → s.runnerFor x r.cluster r.runner = some run → x.run = some run →
      x.retry = some since → s.dev = .run →
      ((s.cluster (run / 32)).spareReady = true →
        ∃ t y f, exec (.runnerResidueError r lost) s = .next t ∧ run % 32 ∈ (t.cluster (run / 32)).retired ∧
          (t.cluster (run / 32)).layered = true ∧ y ∈ t.farm.insts ∧ y = { x with run := some (32 * (run / 32) + 16), retry := none } ∧
          tfind t.fault.log (s.fault.next % 256) = some f ∧ f.kind = 0x05 ∧
          f.unit = 0x0700 + run / 32 ∧ f.slice = run % 32 ∧ f.outcome = 1 ∧ f.interruption ≤ 500000 ∧ t.dev = s.dev) ∧
      ((s.cluster (run / 32)).spareReady = false →
        ∃ t y f, exec (.runnerResidueError r lost) s = .next t ∧ run % 32 ∈ (t.cluster (run / 32)).retired ∧
          y ∈ t.farm.insts ∧ y = { x with run := none, retry := none, home := some (run / 32) } ∧
          0x0700 + run / 32 ∈ t.fault.degraded ∧ tfind t.fault.log (s.fault.next % 256) = some f ∧ f.kind = 0x05 ∧
          f.unit = 0x0700 + run / 32 ∧ f.slice = run % 32 ∧ f.outcome = 2 ∧ f.interruption ≤ 500000 ∧ t.dev = s.dev)) ∧
    (∀ id lost run since, s.instOf id = some x → x.run = some run → x.retry = some since → s.dev = .run → since + us 20 ≤ s.clk.now →
      (s.cluster (run / 32)).spareReady = true →
      ∃ t y f, exec (.retryWindowExpire id lost) s = .next t ∧ run % 32 ∈ (t.cluster (run / 32)).retired ∧
        (t.cluster (run / 32)).layered = true ∧ y ∈ t.farm.insts ∧ y = { x with run := some (32 * (run / 32) + 16), retry := none } ∧
        tfind t.fault.log (s.fault.next % 256) = some f ∧ f.kind = 0x05 ∧
        f.unit = 0x0700 + run / 32 ∧ f.slice = run % 32 ∧ f.outcome = 1 ∧ f.interruption ≤ 500000 ∧ t.dev = s.dev) ∧
    (∀ id lost since, s.instOf id = some x → x.retry = some since → s.clk.now < since + us 20 →
      ∃ t, exec (.retryWindowExpire id lost) s = .next t ∧ KeepsBut [] s t) ∧
    (∀ r : AtRunner, s.instOf r.inst = some x → x.started = true → x.lastStep + ms x.limit ≤ s.clk.now → s.gov.power ≠ 3 →
      ∃ t, exec (.measTimeout r) s = .next t ∧ t.instOf r.inst = none ∧
        (s.farm.insts = [x] → x.noRec = false → (t.gate x.gate).waiting = (s.gate x.gate).waiting ++
          [{ what := 1, seq := x.seq, index := x.start, fails := x.cfg.measures.map (fun m => (m, 7)) }]) ∧
        t.rd O.WORK_TIMEOUTS = min (s.rd O.WORK_TIMEOUTS + 1) 4294967295 ∧ t.place 290 = (s.place 290 + 1) % 2 ^ 64 ∧
        OdBut [O.WORK_TIMEOUTS] s t ∧ CtrBut [290] s t ∧ KeepsBut [.farm, .ctr, .od] s t) ∧
    (∀ r : AtRunner, s.instOf r.inst = some x → x.started = true → s.clk.now < x.lastStep + ms x.limit →
      ∃ t, exec (.measTimeout r) s = .next t ∧ KeepsBut [] s t)

/-- R219: a write event writes what waits at its gate, with a sequence that advances by one, from 2^32 - 1 to 1 (with the credits of class 3
full, R175); a record that its one waiting event changes takes that sequence. A shorter RESULT_INTERVAL brings a waiting write nearer. R221: a
dressing sweep writes the enabled gates of a channel that is isolated, and of no other. R197: a spare's self-test tells whether it is ready; one
in service or retired is not tested. -/
def Obligations.ResultWrites : Prop :=
  ∀ s : State,
    (∀ g, s.storeServes = true → (s.gate g).waiting ≠ [] → s.pond.credit3 = creditMax →
      ∃ t q, exec (.resultWriteEvent g) s = .next t ∧ q = (if (s.gate g).seq = 4294967295 then 1 else (s.gate g).seq + 1) ∧
        t.gate g = { s.gate g with seq := q, waiting := [] } ∧ (∀ h, h ≠ g → t.gate h = s.gate h) ∧
        (∀ e, (s.gate g).waiting = [e] → ∀ m, m ∈ (s.gate g).cfg.measures → ∀ k, k = bits (s.gate g).cfg.policy 12 8 →
          ∀ r, (s.rec_ (32 * g + m)).apply e m (if k = 0 then 0 else 2 ^ k) = (r, true) → (s.pc (pcNo (32 * g + m))).dead = false →
          t.rec_ (32 * g + m) = { r with seq := q }) ∧
        t.farm.insts = s.farm.insts ∧ t.farm.planes = s.farm.planes ∧ CtrBut [205] s t ∧ KeepsBut [.farm, .pond, .ctr] s t) ∧
    (∀ g, s.storeServes = false ∨ (s.gate g).waiting = [] → s.pond.credit3 = creditMax →
      ∃ t, exec (.resultWriteEvent g) s = .next t ∧ t.farm = s.farm ∧ KeepsBut [.pond] s t) ∧
    (∀ (p : Path) (v : Int), Admitted s p O.RESULT_INTERVAL v →
      ∃ t, exec (.resultIntervalWrite p v) s = .next t ∧ t.rd O.RESULT_INTERVAL = v ∧
        t.farm = { s.farm with gates := s.farm.gates.map (fun e =>
          if e.2.waiting = [] then e else (e.1, { e.2 with due := min e.2.due (s.clk.now + us v.toNat) })) } ∧
        OdBut [O.RESULT_INTERVAL] s t ∧ Written p O.RESULT_INTERVAL s t ∧ KeepsBut [.net, .ctr, .free, .od, .farm] s t) ∧
    (∀ c, c < 4 → s.dress.passes.any (fun p => p.unit / 256 == c + 1 && 2 ≤ p.stage) = true → s.pond.credit3 = creditMax →
      ∃ t, exec (.dressingSweep c) s = .next t ∧
        (∀ g x, (g, x) ∈ s.farm.gates → x.cfg.enable = true → bit x.cfg.chans c = true → (t.gate g).waiting = []) ∧
        CtrBut [205] s t ∧ KeepsBut [.farm, .pond, .ctr] s t) ∧
    (∀ c, s.dress.passes.any (fun p => p.unit / 256 == c + 1 && 2 ≤ p.stage) = false →
      ∃ t, exec (.dressingSweep c) s = .next t ∧ KeepsBut [] s t) ∧
    (∀ k pass, k < 16 → (s.cluster k).layered = false → 16 ∉ (s.cluster k).retired → s.stopped 3 = false → s.gov.power ≠ 3 →
      ∃ t, exec (.spareSelfTest k pass) s = .next t ∧ t.cluster k = { s.cluster k with spareReady := pass } ∧
        (∀ h, h ≠ k → t.cluster h = s.cluster h) ∧ (0x0700 + k ∈ t.fault.noSpare ↔ pass = false) ∧ KeepsBut [.farm, .fault] s t) ∧
    (∀ k pass, (s.cluster k).layered = true ∨ 16 ∈ (s.cluster k).retired →
      ∃ t, exec (.spareSelfTest k pass) s = .next t ∧ KeepsBut [] s t)

/-- R230, R231, R233, R251: a row object latches its row into the path's window copy, and an APPLY puts the copy into the row its window
names; nothing else changes. -/
def Obligations.WindowRows : Prop :=
  ∀ (p : Path) (v : Int) (s : State),
    (Admitted s p O.CR_ROW v → ∃ t, exec (.crRowLatch p v) s = .next t ∧ t.rd (win p O.CR_ROW) = v ∧
      t.farm = { s.farm with crWin := tset (side p) (tget (fun _ => {}) s.farm.crs v.toNat) s.farm.crWin } ∧ OdBut [win p O.CR_ROW] s t ∧
      Written p O.CR_ROW s t ∧ KeepsBut [.net, .ctr, .free, .od, .farm] s t) ∧
    (Admitted s p O.CR_APPLY v → ∃ t, exec (.crApply p v) s = .next t ∧
      t.farm = { s.farm with crs := tset (s.rdN (win p O.CR_ROW)) (s.crCopy p) s.farm.crs } ∧
      Written p O.CR_APPLY s t ∧ KeepsBut [.net, .ctr, .free, .farm] s t) ∧
    (Admitted s p O.PARAM_ROW v → ∃ t, exec (.paramRowLatch p v) s = .next t ∧ t.rd (win p O.PARAM_ROW) = v ∧
      t.farm = { s.farm with paramWin := tset (side p) (tget (fun _ => {}) s.farm.params v.toNat) s.farm.paramWin } ∧
      OdBut [win p O.PARAM_ROW] s t ∧ Written p O.PARAM_ROW s t ∧ KeepsBut [.net, .ctr, .free, .od, .farm] s t) ∧
    (Admitted s p O.PARAM_APPLY v → ∃ t, exec (.paramApply p v) s = .next t ∧
      t.farm = { s.farm with params := tset (s.rdN (win p O.PARAM_ROW)) (s.paramCopy p) s.farm.params } ∧
      Written p O.PARAM_APPLY s t ∧ KeepsBut [.net, .ctr, .free, .farm] s t) ∧
    (Admitted s p O.GATE_ROW v → ∃ t, exec (.gateRowLatch p v) s = .next t ∧ t.rd (win p O.GATE_ROW) = v ∧
      t.farm = { s.farm with gateWin := tset (side p) (s.gate v.toNat) s.farm.gateWin } ∧ OdBut [win p O.GATE_ROW] s t ∧
      Written p O.GATE_ROW s t ∧ KeepsBut [.net, .ctr, .free, .od, .farm] s t) ∧
    (Admitted s p O.RES_ROW v → ∃ t, exec (.resRowLatch p v) s = .next t ∧ t.rd (win p O.RES_ROW) = v ∧
      t.farm = { s.farm with resWin := tset (side p) (s.rec_ v.toNat) s.farm.resWin } ∧ OdBut [win p O.RES_ROW] s t ∧
      Written p O.RES_ROW s t ∧ KeepsBut [.net, .ctr, .free, .od, .farm] s t) ∧
    (Admitted s p O.PLANE_ROW v → ∃ t, exec (.planeRowLatch p v) s = .next t ∧ t.rd (win p O.PLANE_ROW) = v ∧
      t.farm = { s.farm with planeWin := tset (side p) { s.planeOf v.toNat with latched := (s.planeOf v.toNat).status } s.farm.planeWin } ∧ OdBut [win p O.PLANE_ROW] s t ∧
      Written p O.PLANE_ROW s t ∧ KeepsBut [.net, .ctr, .free, .od, .farm] s t)

/-- R231, R223: GATE_APPLY gives the gate of the window the window's configuration, unless it names no or more than two channels, asks for
a clock it has none of, or a span it cannot have; it and GATE_RESET empty the gate's records, begin its counts again, and leave the work at
hand on it without records. R246, R251: PLANE_APPLY and PLANE_CLEAR empty the plane and its tiles; a PLANE_APPLY beyond the frames is refused with
PLANE_NO_FRAME, one with an empty axis with PLANE_AXIS, a mask of fewer than three vertices with PLANE_MASK. -/
def Obligations.GateAndPlaneApply : Prop :=
  ∀ (p : Path) (v : Int) (s : State),
    (∀ r, Admitted s p O.GATE_APPLY v → (s.gateCopy p).cfg.refused = some r → ∃ t, exec (.gateApply p v) s = .next t ∧
      RefusedWith (accOf p O.GATE_APPLY v) 0 0x06090030 r 255 s t) ∧
    (Admitted s p O.GATE_APPLY v → (s.gateCopy p).cfg.refused = none → ∃ t n, exec (.gateApply p v) s = .next t ∧
      n = s.rdN (win p O.GATE_ROW) ∧
      t.gate n = { s.gate n with cfg := (s.gateCopy p).cfg, seq := 0, instances := 0, misfits := 0, waiting := [] } ∧
      (∀ g, g ≠ n → t.gate g = s.gate g) ∧
      t.farm = { s.farm with
        gates := t.farm.gates, recs := s.farm.recs.filter (fun e => e.1 / 32 != n),
        insts := s.farm.insts.map (fun i => if i.gate == n then { i with noRec := true } else i) } ∧
      Written p O.GATE_APPLY s t ∧ KeepsBut [.net, .ctr, .free, .farm] s t) ∧
    (Admitted s p O.GATE_RESET v → ∃ t n, exec (.gateReset p v) s = .next t ∧ n = s.rdN (win p O.GATE_ROW) ∧
      t.gate n = { s.gate n with seq := 0, instances := 0, misfits := 0, waiting := [] } ∧
      (∀ g, g ≠ n → t.gate g = s.gate g) ∧
      t.farm = { s.farm with
        gates := t.farm.gates, recs := s.farm.recs.filter (fun e => e.1 / 32 != n),
        insts := s.farm.insts.map (fun i => if i.gate == n then { i with noRec := true } else i) } ∧
      Written p O.GATE_RESET s t ∧ KeepsBut [.net, .ctr, .free, .farm] s t) ∧
    (Admitted s p O.PLANE_APPLY v →
      ((s.planeCopy p).cfg.kind ≠ 0 ∧ s.rdN O.PLANE_FRAMES ≤ s.rdN (win p O.PLANE_ROW) → ∃ t, exec (.planeApply p v) s = .next t ∧
        RefusedWith (accOf p O.PLANE_APPLY v) 0 0x08000022 Why.PLANE_NO_FRAME 255 s t) ∧
      ((s.planeCopy p).cfg.kind = 0 ∨ s.rdN (win p O.PLANE_ROW) < s.rdN O.PLANE_FRAMES →
        (r32Units (s.planeCopy p).cfg.hi ≤ r32Units (s.planeCopy p).cfg.lo → ∃ t, exec (.planeApply p v) s = .next t ∧
          RefusedWith (accOf p O.PLANE_APPLY v) 0 0x06090030 Why.PLANE_AXIS 255 s t) ∧
        (r32Units (s.planeCopy p).cfg.lo < r32Units (s.planeCopy p).cfg.hi → (s.planeCopy p).cfg.kind = 3 → (s.planeCopy p).cfg.nv < 3 →
          ∃ t, exec (.planeApply p v) s = .next t ∧ RefusedWith (accOf p O.PLANE_APPLY v) 0 0x06090030 Why.PLANE_MASK 255 s t) ∧
        (r32Units (s.planeCopy p).cfg.lo < r32Units (s.planeCopy p).cfg.hi → (s.planeCopy p).cfg.kind ≠ 3 ∨ 3 ≤ (s.planeCopy p).cfg.nv →
          ∃ t n, exec (.planeApply p v) s = .next t ∧ n = s.rdN (win p O.PLANE_ROW) ∧
          t.planeOf n = { cfg := (s.planeCopy p).cfg, mask := if (s.planeCopy p).cfg.kind = 3 then (s.planeCopy p).cfg.maskBins else [] } ∧
          (∀ m, m ≠ n → t.planeOf m = s.planeOf m) ∧
          t.farm = { s.farm with
            planes := t.farm.planes, tiles := s.farm.tiles.filter (fun y => y.plane != n),
            insts := s.farm.insts.map (fun x => if x.cfg.plane == n then { x with noPlane := true } else x) } ∧
          Written p O.PLANE_APPLY s t ∧ KeepsBut [.net, .ctr, .free, .farm] s t))) ∧
    (Admitted s p O.PLANE_CLEAR v → ∃ t n, exec (.planeClear p v) s = .next t ∧ n = s.rdN (win p O.PLANE_ROW) ∧
      t.planeOf n = { cfg := (s.planeOf n).cfg, mask := (s.planeOf n).mask } ∧
      (∀ m, m ≠ n → t.planeOf m = s.planeOf m) ∧
      t.farm = { s.farm with
        planes := t.farm.planes, tiles := s.farm.tiles.filter (fun y => y.plane != n),
        insts := s.farm.insts.map (fun x => if x.cfg.plane == n then { x with noPlane := true } else x) } ∧
      Written p O.PLANE_CLEAR s t ∧ KeepsBut [.net, .ctr, .free, .farm] s t)

/-- R242: a due tile joins its plane's frame; one not yet due, with no snapshot of its plane waiting, stays. R244, R245: a snapshot of a
plane in use takes a working frame and the host's own one before it goes, and one of a plane not in use is refused with PLANE_NONE; it
is READY once the work before it is done, and goes with SNAP_RELEASE or after SNAP_TIMEOUT. R248: a display job of no such entry or
channel is refused with DISP_NO_ENTRY, one of more than 218,440 pairs with DISP_TOO_LONG, one whose buffer runs a job with DISP_BUSY;
another runs, and ends DONE, and is counted. (Runner traffic: with the credits of class 3 full, R175.) Cleared planes and rounding: log
entries 47 and 66. -/
def Obligations.SnapshotsAndDisplays : Prop :=
  ∀ s : State,
    (∀ run plane tile x, s.farm.tiles.find? (fun t => t.run == run && t.plane == plane && t.tile == tile) = some x →
      s.storeServes = true → s.fault.stop = false → s.pond.credit3 = creditMax →
      (x.since + us (s.rdN O.PLANE_FLUSH) ≤ s.clk.now →
        ∃ t, exec (.tileSpill run plane tile []) s = .next t ∧ t.planeOf plane = (s.planeOf plane).addTile x.incs ∧
          (∀ n, n ≠ plane → t.planeOf n = s.planeOf n) ∧
          t.farm = { s.farm with
            planes := t.farm.planes, tiles := s.farm.tiles.filter (fun y => !(y.run == run && y.plane == plane && y.tile == tile)) } ∧
          CtrBut [205] s t ∧ KeepsBut [.farm, .pond, .ctr] s t) ∧
      (s.clk.now < x.since + us (s.rdN O.PLANE_FLUSH) → (∀ y, y ∈ s.farm.snaps → y.plane = plane → y.ready = true) →
        ∃ t, exec (.tileSpill run plane tile []) s = .next t ∧ KeepsBut [] s t)) ∧
    (∀ (p : Path) (v : Int), Admitted s p O.SNAP_PLANE v → (∀ x, x ∈ s.farm.snaps → x.tail ≠ none) →
      (∀ f, s.planeInUse v.toNat = true → s.snapFrame = some f → ∃ t, exec (.snapPlaneWrite p v) s = .next t ∧ t.rd O.SNAP_PLANE = v ∧
        t.farm = { s.farm with snaps := s.farm.snaps ++ [{ plane := v.toNat, cut := s.farm.ord, frame := f, touched := s.runTime }] } ∧
        OdBut [O.SNAP_PLANE] s t ∧ Written p O.SNAP_PLANE s t ∧ KeepsBut [.net, .ctr, .free, .od, .farm] s t) ∧
      (s.planeInUse v.toNat = false → ∃ t, exec (.snapPlaneWrite p v) s = .next t ∧
        RefusedWith (accOf p O.SNAP_PLANE v) 0 0x08000022 Why.PLANE_NONE 255 s t)) ∧
    (∀ n x, s.farm.snaps.find? (fun x => x.plane == n && !x.ready) = some x → s.planeWorkDone n x.cut = true → s.farmRuns = true →
      s.pond.credit3 = creditMax →
      ∃ t, exec (.snapshotReady n) s = .next t ∧ t.place 293 = (s.place 293 + 1) % 2 ^ 64 ∧
        (∃ y, y ∈ t.farm.snaps ∧ y = { x with ready := true, data := y.data } ∧ y.data.shadow = []) ∧ KeepsBut [.farm, .pond, .ctr] s t) ∧
    (∀ n x, s.farm.snaps.find? (fun x => x.plane == n && !x.ready) = some x → s.planeWorkDone n x.cut = false ∨ s.farmRuns = false →
      ∃ t, exec (.snapshotReady n) s = .next t ∧ KeepsBut [] s t) ∧
    (∀ (p : Path) (v : Int), Admitted s p O.SNAP_RELEASE v →
      ∃ t, exec (.snapRelease p v) s = .next t ∧ t.farm.snaps = s.farm.snaps.filter (fun x => x.tail.isSome) ∧
        ((∀ x, x ∈ s.farm.snaps → x.tail = none → x.ready = true) →
          t.farm = { s.farm with snaps := s.farm.snaps.filter (fun x => x.tail.isSome) } ∧ t.pond = s.pond) ∧
        Answered p O.SNAP_RELEASE 0 s t ∧ CtrBut [205, 460, 461] s t ∧ KeepsBut [.net, .ctr, .free, .farm, .pond] s t) ∧
    (∃ t, exec .snapTimeout s = .next t ∧
      t.farm.snaps = s.farm.snaps.filter (fun x => x.tail.isSome || decide (s.runTime < x.touched + sec (s.rdN O.SNAP_TIMEOUT))) ∧
      CtrBut [205] s t ∧ KeepsBut [.farm, .pond, .ctr] s t) ∧
    (∀ (p : Path) (v : Int) b, Admitted s p O.DISP_GO v → b = s.rdN O.DISP_BUFFER →
      (s.entryOf (s.disp b).entry = none ∨
          (∃ e, s.entryOf (s.disp b).entry = some e ∧ (e.state < 2 ∨ bit e.seg.chset (s.disp b).ch = false)) →
        ∃ t, exec (.dispGo p v) s = .next t ∧ RefusedWith (accOf p O.DISP_GO v) 0 0x08000022 Why.DISP_NO_ENTRY 255 s t) ∧
      (∀ e, s.entryOf (s.disp b).entry = some e → 2 ≤ e.state → bit e.seg.chset (s.disp b).ch = true →
        (218440 < ceilDiv (s.disp b).len ((e.seg.cfg.bolt (s.disp b).ch).d * (s.disp b).factor) →
          ∃ t, exec (.dispGo p v) s = .next t ∧ RefusedWith (accOf p O.DISP_GO v) 0 0x08000022 Why.DISP_TOO_LONG 255 s t) ∧
        (ceilDiv (s.disp b).len ((e.seg.cfg.bolt (s.disp b).ch).d * (s.disp b).factor) ≤ 218440 → (s.disp b).state = 1 →
          ∃ t, exec (.dispGo p v) s = .next t ∧ RefusedWith (accOf p O.DISP_GO v) 0 0x08000022 Why.DISP_BUSY 255 s t) ∧
        (ceilDiv (s.disp b).len ((e.seg.cfg.bolt (s.disp b).ch).d * (s.disp b).factor) ≤ 218440 → (s.disp b).state ≠ 1 →
          ∃ t, exec (.dispGo p v) s = .next t ∧ t.farm = { s.farm with disps := t.farm.disps } ∧
            t.disp b = { s.disp b with state := 1, pairs := 0, grains := [] } ∧ (∀ c, c ≠ b → t.disp c = s.disp c) ∧
            Written p O.DISP_GO s t ∧ KeepsBut [.net, .ctr, .free, .farm] s t))) ∧
    (∀ b, (s.disp b).state = 1 → s.farmRuns = true → s.pond.credit3 = creditMax →
      ∃ t, exec (.displayJobDone b) s = .next t ∧ t.farm = { s.farm with disps := t.farm.disps } ∧
        t.disp b = { s.disp b with state := 2, pairs := (t.disp b).pairs, grains := (t.disp b).grains } ∧
        t.place 294 = (s.place 294 + 1) % 2 ^ 64 ∧
        (∀ c, c ≠ b → t.disp c = s.disp c) ∧ OdBut [O.WORK_OVERWRITTEN] s t ∧ CtrBut [205, 292, 294] s t ∧
        KeepsBut [.farm, .pond, .ctr, .od] s t) ∧
    (∀ b, (s.disp b).state ≠ 1 ∨ s.farmRuns = false → ∃ t, exec (.displayJobDone b) s = .next t ∧ KeepsBut [] s t)

/-! ### Timebase, loops, twins -/

/-- R258, R259: two measurements of one valid frequency make REF_IN present and the timebase ACQUIRING; a measurement far off, or an input
without edges, makes it absent, and ACQUIRING or DISCIPLINED becomes HOLDOVER; while it is present and DISCIPLINED a measurement moves the
correction, by no more than R260 allows. ACQUIRING becomes DISCIPLINED once every measurement of 1 s has met the bounds of R259, or the time of
R513 is over, and not before; REF_SELECT 3 makes the timebase FREE. R262: a timebase that stops is FAILED, every loop loses lock, and the device
is Faulted. R257: in Off nothing of this happens. -/
def Obligations.ReferenceAndTimebase : Prop :=
  ∀ s : State,
    (∀ kind far freq phase, validRef (s.rdN O.REF_SELECT) kind = true → s.fan.tb ≠ 4 → s.gov.off = false → s.fan.presentSince = none →
      s.fan.meas.head? = some kind →
      ∃ t, exec (.refMeasurement kind far freq phase) s = .next t ∧ t.fan.tb = 1 ∧ t.fan.inUse = kind ∧ t.fan.detected = kind ∧
        t.fan.presentSince = some s.clk.now ∧ (s.fan.tb ≠ 1 → t.fan.acqBy = s.clk.now + acquireTime freq.error ∧ t.fan.goodSince = none) ∧
        t.fan.loops = s.fan.loops ∧ KeepsBut [.fan, .fault, .trace, .od, .ctr] s t) ∧
    (∀ kind freq phase since, s.fan.tb = 1 ∨ s.fan.tb = 2 → s.gov.off = false → s.fan.presentSince = some since →
      ∃ t, exec (.refMeasurement kind true freq phase) s = .next t ∧ t.fan.tb = 3 ∧ t.fan.inUse = 0 ∧ t.fan.presentSince = none ∧
        t.fan.loops = s.fan.loops ∧ KeepsBut [.fan, .fault, .trace, .od, .ctr] s t) ∧
    (∀ freq phase since, s.fan.tb = 2 → s.gov.off = false → s.fan.presentSince = some since →
      ∃ t c, exec (.refMeasurement s.fan.inUse false freq phase) s = .next t ∧
        c = slewTo s.fan.correction freq.corr (s.clk.now - s.fan.corrAt) ∧
        t.fan = { s.fan with
          meas := (min s.fan.inUse 3 :: s.fan.meas).take 2, freqError := freq.error, correction := c, corrTo := c, corrAt := s.clk.now,
          phaseError := clampI (-5000) 5000 phase, goodSince := none,
          corrLog := ((s.clk.now, c) :: s.fan.corrLog).filter (fun e => decide (s.clk.now ≤ e.1 + sec 10)) } ∧ KeepsBut [.fan] s t) ∧
    (∀ since, s.fan.tb = 1 ∨ s.fan.tb = 2 → s.gov.off = false → s.fan.presentSince = some since →
      ∃ t, exec .refEdgeTimeout s = .next t ∧ t.fan.tb = 3 ∧ t.fan.inUse = 0 ∧ t.fan.presentSince = none ∧ t.fan.detected = 0 ∧
        t.fan.loops = s.fan.loops ∧ KeepsBut [.fan, .fault, .trace, .od, .ctr] s t) ∧
    (s.gov.off = true → (∀ kind far freq phase, ∃ t, exec (.refMeasurement kind far freq phase) s = .next t ∧ KeepsBut [] s t) ∧
      (∃ t, exec .refEdgeTimeout s = .next t ∧ KeepsBut [] s t)) ∧
    (s.fan.tb = 1 → s.fan.presentSince ≠ none → (∃ g, s.fan.goodSince = some g ∧ g + sec 1 ≤ s.clk.now) ∨ s.fan.acqBy ≤ s.clk.now →
      ∃ t, exec .timebaseDisciplined s = .next t ∧ t.fan = { s.fan with
        tb := 2, changes := s.fan.changes + 1, correction := s.correctionNow, corrAt := s.clk.now, goodSince := none } ∧ KeepsBut [.fan] s t) ∧
    (s.fan.tb ≠ 1 ∨ s.fan.presentSince = none ∨ ((∀ g, s.fan.goodSince = some g → s.clk.now < g + sec 1) ∧ s.clk.now < s.fan.acqBy) →
      ∃ t, exec .timebaseDisciplined s = .next t ∧ KeepsBut [] s t) ∧
    (∀ p : Path, Admitted s p O.REF_SELECT 3 → s.rd O.REF_SELECT ≠ 3 → s.fan.tb ≠ 4 →
      ∃ t, exec (.refSelectWrite p 3) s = .next t ∧ t.rd O.REF_SELECT = 3 ∧ t.fan.tb = 0 ∧ t.fan.inUse = 0 ∧ t.fan.presentSince = none ∧
        t.fan.detected = 0 ∧ t.fan.loops = s.fan.loops ∧ Answered p O.REF_SELECT 0 s t ∧ OdBut [O.REF_SELECT, O.UNREF_INTERVALS, O.FAULTS_COVERED] s t ∧
        KeepsBut [.net, .ctr, .free, .od, .fan, .fault, .trace] s t) ∧
    (s.fan.tb ≠ 4 → s.gov.off = false → s.dev = .run ∨ s.dev = .faulted →
      ∃ t, exec .timebaseStopped s = .next t ∧ t.fan.tb = 4 ∧ t.fan.fallback = true ∧ t.fan.sampling = false ∧ t.dev = .faulted ∧
        t.fault.faultN = true ∧ (∀ l, l < 7 → (t.loop l).lock = false) ∧ (∀ l, l ∈ [0, 1, 2, 3, 5, 6] → (t.loop l).dead = true))

/-- R264, R265, R269: a loop that loses lock closes its gate; one that does not lock in its time searches anew, each time counted, and after
the third is dead: an uncovered fault, but for the event timer's and a twin's, which are covered. A lock, 256 timebase cycles after the search
began at the earliest, is followed by 2,048 timebase cycles, after which the gate opens, and the re-lock is counted; an unplanned loss is then
recorded as DOMAIN_RELOCK. R268, R271: a commit stops the RUN loop for its new N, SSC_COMMIT the loops of its mask, unless that names POND
and a plan is Armed; the RUN loop's counts as a throttling step. R276: the loss of the standby twin makes it not ready, and that of the active
one is TWIN_LOSS_OF_LOCK. -/
def Obligations.LoopsAndGates : Prop :=
  ∀ (l : Nat) (s : State),
    (2 ≤ l → l < 7 → (s.loop l).lock = true → (s.loop l).dead = false → s.fan.tb ≠ 4 → s.gov.off = false → s.gov.power ≠ 3 →
      s.fault.stop = false →
      ∃ t, exec (.loopLossOfLock l) s = .next t ∧
        t.loop l = { s.loop l with
          lock := false, gate := false, began := s.clk.now, openAt := none, fails := 0, lostAt := some ((s.loop l).lostAt.getD s.clk.now),
          lostIdx := if (s.loop l).lostAt.isSome then (s.loop l).lostIdx else s.tbIdx,
          merges := if (s.loop l).gate then 0 else (s.loop l).merges, planned := false } ∧
        (∀ m, m ≠ l → t.loop m = s.loop m) ∧ (l = 3 ∨ l = 4 → KeepsBut [.fan] s t) ∧ (l = 2 → KeepsBut [.fan, .pond] s t) ∧
        (l = 5 → KeepsBut [.fan, .tail] s t) ∧ (l = 6 → OdBut [O.PAIRS_CUT] s t ∧ KeepsBut [.fan, .timer, .od] s t)) ∧
    (l < 2 → (s.loop l).dead = false → s.fan.tb ≠ 4 → s.gov.off = false → s.gov.power ≠ 3 → s.asleep = false → s.fault.stop = false →
      (l = s.fan.active → exec (.loopLossOfLock l) s = exec .twinLossOfLock s) ∧
      (l ≠ s.fan.active → ∃ t, exec (.loopLossOfLock l) s = .next t ∧ (t.loop l).lock = false ∧ t.fan.standbyReady = false ∧
        t.fan.active = s.fan.active ∧ (∀ m, m ≠ l → t.loop m = s.loop m) ∧ KeepsBut [.fan] s t)) ∧
    (l < 7 → (s.loop l).lock = false → (s.loop l).dead = false → (s.loop l).began + lockTime l ≤ s.clk.now → s.gov.power ≠ 3 →
      2 ≤ l ∨ s.asleep = false → s.dev = .run ∨ s.dev = .faulted → s.fault.stop = false → s.net.held = [] → s.net.rpdos = [] →
      ∃ t, exec (.loopLockTimeout l) s = .next t ∧ (t.loop l).fails = (s.loop l).fails + 1 ∧ (t.loop l).began = s.clk.now ∧
        t.rd (O.RELOCK_COUNT l) = min (s.rd (O.RELOCK_COUNT l) + 1) 4294967295 ∧
        ((s.loop l).fails + 1 < 3 → t.loop l = { s.loop l with fails := (s.loop l).fails + 1, began := s.clk.now } ∧
          OdBut [O.RELOCK_COUNT l] s t ∧ KeepsBut [.fan, .od, .ctr, .layer] s t) ∧
        (3 ≤ (s.loop l).fails + 1 → (t.loop l).dead = true ∧ (2 ≤ l ∧ l ≤ 5 → t.dev = .faulted ∧ t.fault.faultN = true) ∧
          (l < 2 ∨ l = 6 → t.dev = s.dev))) ∧
    (s.clk.now < (s.loop l).began + lockTime l → s.fault.stop = false →
      ∃ t, exec (.loopLockTimeout l) s = .next t ∧ KeepsBut [] s t) ∧
    (l < 7 → (s.loop l).lock = false → (s.loop l).dead = false → s.fan.tb ≠ 4 ∨ l = 4 → s.gov.power ≠ 3 → 2 ≤ l ∨ s.asleep = false →
      (s.loop l).began + 256 * 800 ≤ s.clk.now →
      ∃ t, exec (.loopLocked l) s = .next t ∧
        t.loop l = { s.loop l with lock := true, fails := 0, openAt := some (s.clk.now + 2048 * 800) } ∧
        (∀ m, m ≠ l → t.loop m = s.loop m) ∧ KeepsBut [.fan] s t) ∧
    (s.clk.now < (s.loop l).began + 256 * 800 → ∃ t, exec (.loopLocked l) s = .next t ∧ KeepsBut [] s t) ∧
    (∀ due, l < 7 → (s.loop l).openAt = some due → due ≤ s.clk.now → s.fault.stop = false → s.net.held = [] → s.net.rpdos = [] →
      s.pond.reads = [] →
      ∃ t, exec (.gateReopen l) s = .next t ∧
        t.loop l = { s.loop l with
          gate := true, openAt := none, lostAt := none, planned := false, newN := none, newSsc := none, merges := 0 } ∧
        (∀ m, m ≠ l → t.loop m = s.loop m) ∧
        (∀ n, (s.loop l).newN = some n → t.fan.runN = n) ∧ ((s.loop l).newN = none → t.fan.runN = s.fan.runN) ∧
        ((s.loop l).newSsc = none → t.fan.sscApplied = s.fan.sscApplied) ∧
        t.rd (O.RELOCK_COUNT l) = min (s.rd (O.RELOCK_COUNT l) + 1) 4294967295 ∧
        OdBut [O.RELOCK_COUNT l, O.FAULTS_COVERED] s t ∧ t.place (448 + l) = (s.place (448 + l) + 1) % 2 ^ 64 ∧ t.pond.selfRefresh = (s.pond.selfRefresh && l != 2) ∧
        (∀ x, (s.loop l).lostAt = some x → ∃ r, tfind t.fault.log (s.fault.next % 256) = some r ∧ r.kind = 0x0F ∧ r.outcome = 3 ∧
          r.unit = loopUnit l ∧ r.index = (s.loop l).lostIdx) ∧
        (l ≠ 2 → KeepsBut [.fan, .od, .ctr, .fault, .trace, .free, .layer] s t)) ∧
    (∀ due, (s.loop l).openAt = some due → s.clk.now < due → s.fault.stop = false →
      ∃ t, exec (.gateReopen l) s = .next t ∧ KeepsBut [] s t) ∧
    (∀ n, s.fan.pendN = some n → (s.loop 3).dead = false → s.gov.power ≠ 3 →
      ∃ t, exec .loopCommit s = .next t ∧ t.fan.pendN = none ∧ (t.loop 3).newN = some n ∧ (t.loop 3).gate = false ∧
        (t.loop 3).lock = false ∧ t.fan.runN = s.fan.runN ∧ (∀ m, m ≠ 3 → t.loop m = s.loop m) ∧
        t.place 297 = (s.place 297 + 1) % 2 ^ 64 ∧ CtrBut [297] s t ∧ KeepsBut [.fan, .ctr] s t) ∧
    (s.fan.pendN = none ∨ (s.loop 3).dead = true ∨ s.gov.power = 3 → ∃ t, exec .loopCommit s = .next t ∧ KeepsBut [] s t) ∧
    (∀ (p : Path) (v : Int), Admitted s p O.SSC_COMMIT v →
      (bit v.toNat 0 = true → (∃ q, q < 16 ∧ armedSt (s.plan q).entering = true) → ∃ t, exec (.sscCommit p v) s = .next t ∧
        RefusedWith (accOf p O.SSC_COMMIT v) 0 0x08000022 Why.FANTAIL_DOMAIN_BUSY 255 s t) ∧
      (bit v.toNat 0 = false ∨ (∀ q, q < 16 → armedSt (s.plan q).entering = false) → ∃ t, exec (.sscCommit p v) s = .next t ∧
        (bit v.toNat 0 = true → (t.loop 2).newSsc = some (s.rdN O.SSC_POND) ∧ (t.loop 2).gate = false ∧ (t.loop 2).lock = false) ∧
        (bit v.toNat 0 = false → t.loop 2 = s.loop 2 ∧ t.pond = s.pond) ∧
        (bit v.toNat 1 = true → (t.loop 3).newSsc = some (s.rdN O.SSC_RUN) ∧ (t.loop 3).gate = false ∧ (t.loop 3).lock = false ∧
          t.gov = { s.gov with stepped := true } ∧ t.place 297 = (s.place 297 + 1) % 2 ^ 64) ∧
        (bit v.toNat 1 = false → t.loop 3 = s.loop 3 ∧ t.gov = s.gov ∧ t.place 297 = s.place 297) ∧
        (∀ m, m ≠ 2 → m ≠ 3 → t.loop m = s.loop m) ∧
        t.fan.sscStored = (if bit v.toNat 2 = true then s.rdN O.SSC_CTL else s.fan.sscStored) ∧ t.fan.sscApplied = s.fan.sscApplied ∧
        Answered p O.SSC_COMMIT 0 s t ∧ CtrBut [460, 461, 297] s t ∧ KeepsBut [.net, .ctr, .free, .fan, .pond, .gov] s t))

/-- R274, R275: when the active twin loses lock and the standby is ready, the twins exchange roles, and the converters resume 2,500 grains
after the one being formed; R276: otherwise sampling ends and the device is Faulted. R273: a locked standby, its gate open, is ready.
R310: a worn active twin is exchanged without a gap, each channel's next raw grain carrying LAYER. The unit, and 2,012.8 ns recorded as
2,013, are the choice of log entries 11 and 13. -/
def Obligations.TwinsExchange : Prop :=
  ∀ s : State,
    (s.fan.sampling = true → s.asleep = false → s.fault.stop = false →
      (s.fan.standbyReady = true → ∃ t r, exec .twinLossOfLock s = .next t ∧ t.fan.active = 1 - s.fan.active ∧ t.fan.standbyReady = false ∧
        t.fan.sampling = true ∧ t.fan.failUntil = some (s.grainAt s.clk.now + 2500 * 64) ∧
        t.rd O.FAILOVER_COUNT = min (s.rd O.FAILOVER_COUNT + 1) 4294967295 ∧ (t.loop s.fan.active).lock = false ∧
        tfind t.fault.log (s.fault.next % 256) = some r ∧ r.kind = 0x0B ∧ r.slice = s.fan.active ∧ r.outcome = 1 ∧ r.interruption = 2013 ∧
        t.dev = s.dev ∧ t.clk = s.clk ∧ t.origin = s.origin) ∧
      (s.fan.standbyReady = false → s.dev = .run ∨ s.dev = .faulted → ∃ t, exec .twinLossOfLock s = .next t ∧ t.fan.sampling = false ∧
        t.fan.active = s.fan.active ∧ t.dev = .faulted ∧ t.fault.faultN = true)) ∧
    (s.fan.sampling = false ∨ s.asleep = true → s.fault.stop = false → ∃ t, exec .twinLossOfLock s = .next t ∧ KeepsBut [] s t) ∧
    ((s.loop (1 - s.fan.active)).lock = true → (s.loop (1 - s.fan.active)).gate = true → (s.loop (1 - s.fan.active)).dead = false →
      s.fan.sampling = true → s.asleep = false →
      ∃ t, exec .standbyReady s = .next t ∧ t.fan = { s.fan with standbyReady := true } ∧ KeepsBut [.fan] s t) ∧
    ((s.loop (1 - s.fan.active)).lock = false ∨ (s.loop (1 - s.fan.active)).gate = false ∨ (s.loop (1 - s.fan.active)).dead = true →
      ∃ t, exec .standbyReady s = .next t ∧ KeepsBut [] s t) ∧
    (s.dev = .run → s.asleep = false → s.fan.sampling = true → s.fan.standbyReady = true → s.fan.failUntil = none →
      s.layer.decided.any (fun d => d.1 == 0x0800 && d.2.1 == s.fan.active) = true →
      ∃ t r, exec .twinWearSwap s = .next t ∧ t.fan = { s.fan with active := 1 - s.fan.active } ∧
        (∀ c, c < 4 → t.chan c = { s.chan c with layerNext := true }) ∧ tfind t.fault.log (s.fault.next % 256) = some r ∧ r.kind = 0x18 ∧
        r.unit = 0x0800 ∧ r.slice = s.fan.active ∧ r.outcome = 1 ∧ r.interruption = 0 ∧
        t.layer.decided = s.layer.decided.filter (fun d => !(d.1 == 0x0800 && d.2.1 == s.fan.active)) ∧
        KeepsBut [.fan, .chans, .layer, .fault, .trace, .ctr, .od] s t) ∧
    (s.dev ≠ .run ∨ s.fan.standbyReady = false ∨ s.layer.decided.any (fun d => d.1 == 0x0800 && d.2.1 == s.fan.active) = false →
      ∃ t, exec .twinWearSwap s = .next t ∧ KeepsBut [] s t)

/-! ### Dressing -/

/-- R286, R287: a waiting pass begins, at a raw-grain boundary, once nothing it waits for is left, its outputs quiet where it is the
Sluice's; after ISOLATING come MEASURE_1, COMPUTE, MEASURE_2 and COMPARE, each at its time. A pass that has waited 100 ms for the
monitors is ABORTED_MONITOR. R289: a marked pass starts again at ISOLATING once the layering and any failover are over. Before its
condition holds none of these does anything. R288: COMPARE accepts a pass if every trim's two corrections agree within its tolerance and
its target lies within its range; otherwise it is REJECTED_DISAGREE or REJECTED_LIMIT. R286, R291: at the end of a pass its outcome is
counted; the targets of an accepted channel pass are applied in steps, and no trim has moved yet; those of another unit are in force at
once; a rejected pass moves none. R286: a lane group goes on with its next lane. R291: a step moves every trim of the unit by one tap
towards its target, unless it gives way to a layering of the unit (R38). -/
def Obligations.DressingPasses : Prop :=
  (∀ (u : Nat) (p : Pass) (s : State), s.passOf u = some p →
     (p.stage = 1 → s.passReady u = true → s.grainAt s.clk.now = s.clk.now → ∃ t, exec (.passBegin u) s = .next t ∧
       t.passOf u = some { p with stage := 2, until_ := s.clk.now + us 10 } ∧ (∀ v, v ≠ u → t.passOf v = s.passOf v) ∧
       t.dress = { s.dress with passes := t.dress.passes } ∧
       (u ≠ 0x0500 → KeepsBut [.dress, .tail] s t) ∧
       (u = 0x0500 → t.pins = { s.pins with pulses := [], ctbDrive := [] } ∧ t.sluice = { s.sluice with ctbPending := false } ∧
         KeepsBut [.dress, .pins, .sluice] s t)) ∧
     (p.stage ≠ 1 ∨ s.passReady u = false ∨ s.grainAt s.clk.now ≠ s.clk.now → ∃ t, exec (.passBegin u) s = .next t ∧ KeepsBut [] s t) ∧
     (∀ w, p.stage = 1 → s.monitorWait = some w → max p.asked w + ms 100 ≤ s.clk.now → ∃ t, exec (.passWaitTimeout u) s = .next t ∧
       t.passOf u = none ∧ (t.unitDress u).outcome = 5 ∧ t.dress.trims = s.dress.trims ∧
       t.rd O.PASSES_ABORTED = min (s.rd O.PASSES_ABORTED + 1) 4294967295 ∧ OdBut [O.PASSES_ABORTED] s t ∧
       t.place 324 = (s.place 324 + 1) % 2 ^ 64 ∧ CtrBut [324] s t ∧ KeepsBut [.dress, .od, .ctr] s t) ∧
     (p.stage ≠ 1 ∨ (∀ w, s.monitorWait = some w → s.clk.now < max p.asked w + ms 100) → ∃ t, exec (.passWaitTimeout u) s = .next t ∧
       KeepsBut [] s t) ∧
     (∀ m, p.restart = false → p.until_ ≤ s.clk.now → p.stage ∈ [2, 3, 4, 5] → ∃ t, exec (.passStageEnd u m) s = .next t ∧
       t.passOf u = some
         { p with stage := p.stage + 1, m1 := if p.stage = 3 then p.m1 ++ m else p.m1, m2 := if p.stage = 5 then p.m2 ++ m else p.m2,
                  until_ := p.until_ + if p.stage = 4 ∨ p.stage = 2 then measureTime u else if p.stage = 3 then us 200 else us 50 } ∧
       t.dress = { s.dress with passes := t.dress.passes } ∧ KeepsBut [.dress] s t) ∧
     (∀ m, p.restart = true ∨ s.clk.now < p.until_ → ∃ t, exec (.passStageEnd u m) s = .next t ∧ KeepsBut [] s t) ∧
     (p.restart = true → s.layeringOn u = false → s.fan.failUntil = none → ∃ t, exec (.passRestart u) s = .next t ∧
       t.passOf u = some
         { p with restart := false, stage := 2, until_ := s.clk.now + us 10, lane := 0, m1 := [], m2 := [], quality := [] } ∧
       t.rd O.PASSES_RESTARTED = min (s.rd O.PASSES_RESTARTED + 1) 4294967295 ∧ OdBut [O.PASSES_RESTARTED] s t ∧
       t.place 323 = (s.place 323 + 1) % 2 ^ 64 ∧ CtrBut [323] s t ∧
       t.dress = { s.dress with passes := t.dress.passes } ∧ KeepsBut [.dress, .tail, .od, .ctr] s t) ∧
     (p.restart = false ∨ s.layeringOn u = true ∨ s.fan.failUntil ≠ none → ∃ t, exec (.passRestart u) s = .next t ∧ KeepsBut [] s t)) ∧
  (∀ (u : Nat) (s : State),
     (∀ p q, s.passOf u = some p → p.stage = 6 → p.restart = false → p.until_ ≤ s.clk.now →
       (p.lastTurn = false → ∃ t, exec (.passCompare u q) s = .next t ∧
         t.passOf u = some { p with stage := 7, until_ := p.until_ + us 10, quality := p.quality ++ q } ∧
         t.dress = { s.dress with passes := t.dress.passes } ∧ KeepsBut [.dress] s t) ∧
       (p.lastTurn = true → ∃ t y, exec (.passCompare u q) s = .next t ∧ t.passOf u = some y ∧
         y = { p with stage := 7, until_ := p.until_ + us 10, quality := p.quality ++ q, disagree := y.disagree, outcome := y.outcome,
                      targets := y.targets } ∧
         ((∃ n, n < trimCount u ∧ trimTolerance (trimKind u n) < ((p.m1[n]?).getD 0 - (p.m2[n]?).getD 0).natAbs) → y.outcome = 2) ∧
         ((∀ n, n < trimCount u → ((p.m1[n]?).getD 0 - (p.m2[n]?).getD 0).natAbs ≤ trimTolerance (trimKind u n)) →
           y.outcome = if ∀ n, n < trimCount u →
               (trimRange (trimKind u n)).1 ≤ s.trimNow u n + ((p.m1[n]?).getD 0 + (p.m2[n]?).getD 0).tdiv 2 ∧
               s.trimNow u n + ((p.m1[n]?).getD 0 + (p.m2[n]?).getD 0).tdiv 2 ≤ (trimRange (trimKind u n)).2 then 1 else 3) ∧
         (y.outcome = 1 → ∀ n v, (n, v) ∈ y.targets ↔
           n < trimCount u ∧ ((p.m1[n]?).getD 0 + (p.m2[n]?).getD 0).tdiv 2 ≠ 0 ∧
             v = s.trimNow u n + ((p.m1[n]?).getD 0 + (p.m2[n]?).getD 0).tdiv 2) ∧
         t.dress = { s.dress with passes := t.dress.passes } ∧ KeepsBut [.dress] s t)) ∧
     (∀ p, s.passOf u = some p → p.stage = 7 →
       (if isChanUnit u = true ∨ u = 0x0500 then s.grainAt p.until_ else p.until_) ≤ s.clk.now →
       (p.lastTurn = false → ∃ t, exec (.passEnd u) s = .next t ∧
         t.passOf u = some { p with stage := 2, lane := p.lane + 1, until_ := p.until_ + us 10 } ∧
         t.dress = { s.dress with passes := t.dress.passes } ∧ KeepsBut [.dress, .tail] s t) ∧
       (p.lastTurn = true → p.outcome ≠ 1 → ∃ t, exec (.passEnd u) s = .next t ∧ t.passOf u = none ∧
         (t.unitDress u).outcome = p.outcome ∧ (t.unitDress u).disagree = p.disagree ∧
         t.rd O.PASSES_REJECTED = min (s.rd O.PASSES_REJECTED + 1) 4294967295 ∧ OdBut [O.PASSES_REJECTED] s t ∧
         t.place 322 = (s.place 322 + 1) % 2 ^ 64 ∧ CtrBut [322] s t ∧ t.dress.trims = s.dress.trims ∧
         t.dress.applying = s.dress.applying ∧ KeepsBut [.dress, .chans, .tail, .od, .ctr, .layer] s t) ∧
       (p.lastTurn = true → p.outcome = 1 → ∃ t, exec (.passEnd u) s = .next t ∧ t.passOf u = none ∧
         (t.unitDress u).outcome = 1 ∧ t.dress.uncommitted = true ∧
         t.rd O.PASSES_ACCEPTED = min (s.rd O.PASSES_ACCEPTED + 1) 4294967295 ∧ OdBut [O.PASSES_ACCEPTED] s t ∧
         t.place 321 = (s.place 321 + 1) % 2 ^ 64 ∧ CtrBut [321] s t ∧ t.quads = s.quads ∧
         (isChanUnit u = true → t.dress.trims = s.dress.trims ∧ (∀ x, x ∈ s.dress.applying → x ∈ t.dress.applying) ∧
           (∀ n v, (n, v) ∈ p.targets → s.trimNow u n ≠ v → ∃ x, x ∈ t.dress.applying ∧ x.unit = u ∧ x.targets = p.targets)) ∧
         (isChanUnit u = false → t.dress.applying = s.dress.applying ∧
           ((p.targets.map (fun x => x.1)).Nodup → ∀ n v, (n, v) ∈ p.targets → t.trimNow u n = v)) ∧
         KeepsBut [.dress, .chans, .tail, .od, .ctr, .farm] s t)) ∧
     (∀ a, s.dress.applying.find? (fun x => x.unit == u) = some a → a.next ≤ s.clk.now →
       ((∀ q, q ∈ quadsOf u → (s.quad q).pending = none) → (a.targets.map (fun x => x.1)).Nodup →
         (∀ n v, (n, v) ∈ a.targets → n < trimCount u) →
         ∃ t, exec (.applyStep u) s = .next t ∧
           (∀ n v, (n, v) ∈ a.targets → t.trimNow u n =
             if s.trimNow u n < v then s.trimNow u n + 1 else if v < s.trimNow u n then s.trimNow u n - 1 else v) ∧
           (a.left ≤ 1 → ∀ x, x ∈ t.dress.applying → x.unit ≠ u) ∧
           (2 ≤ a.left → { a with left := a.left - 1, next := a.next + 1024 * 64, passed := [] } ∈ t.dress.applying) ∧
           KeepsBut [.dress, .quads] s t) ∧
       ((∃ q, q ∈ quadsOf u ∧ (s.quad q).pending ≠ none) → a.passed.length + (quadsOf u).length ≤ 4 →
         ∃ t x, exec (.applyStep u) s = .next t ∧ x ∈ t.dress.applying ∧
           x = { a with passed := x.passed, next := s.grainAt (s.clk.now + 1) } ∧ t.dress.trims = s.dress.trims ∧ KeepsBut [.dress] s t)) ∧
     (∀ a, s.dress.applying.find? (fun x => x.unit == u) = some a → s.clk.now < a.next →
       ∃ t, exec (.applyStep u) s = .next t ∧ KeepsBut [] s t))

/-- R293: a natural-gap window is the first of its item, or is accepted if it agrees with the one before, or rejected; with GAP_DRESS_ENABLE
0, or no gap, it does nothing. GAP_DRESS_ENABLE 0 discards the windows in progress. R296: a commit that checks makes the other copy the
one in force, and one that fails twice leaves that as it was. R300: DRESS_UNIT latches the figures of a dressable unit, and refuses
others with reason DRESS_UNIT. Log entries 27 and 28 are the model's reading of what a rejected window and the end of a commit do. -/
def Obligations.GapDressingAndCommit : Prop :=
  ∀ s : State,
    (∀ item w, s.rd O.GAP_DRESS_ENABLE = 1 → s.gapOpen item = true → w.length = gapLength item → s.asleep = false →
      s.dev = .run ∨ s.dev = .faulted →
      (tfind s.dress.firsts item = none → ∃ t, exec (.gapWindowComplete item w) s = .next t ∧
        t.dress = { s.dress with firsts := tset item w s.dress.firsts } ∧ KeepsBut [.dress] s t) ∧
      (∀ f, tfind s.dress.firsts item = some f → agreeAll (gapTolerance item) (f.take 130) (w.take 130) = false →
        ∃ t, exec (.gapWindowComplete item w) s = .next t ∧ t.dress = { s.dress with firsts := tdel item s.dress.firsts } ∧
          t.rd O.GAP_WINDOWS_REJECTED = min (s.rd O.GAP_WINDOWS_REJECTED + 1) 4294967295 ∧ OdBut [O.GAP_WINDOWS_REJECTED] s t ∧
          t.place 326 = (s.place 326 + 1) % 2 ^ 64 ∧ CtrBut [326] s t ∧ KeepsBut [.dress, .od, .ctr] s t) ∧
      (∀ f, tfind s.dress.firsts item = some f → agreeAll (gapTolerance item) (f.take 130) (w.take 130) = true →
        ∃ t, exec (.gapWindowComplete item w) s = .next t ∧ tfind t.dress.firsts item = some w ∧ t.dress.uncommitted = true ∧
          t.rd O.GAP_WINDOWS_ACCEPTED = min (s.rd O.GAP_WINDOWS_ACCEPTED + 1) 4294967295 ∧
          (item < 4 → tfind t.dress.interp item = some w) ∧ tfind t.dress.ages item = some s.runTime ∧
          (5 ≤ item → tfind (t.quad ((item - 5) / 16)).trims (16 * (s.quad ((item - 5) / 16)).spare + (item - 5) % 16) =
            some (clampTrim 0 ((w[0]?).getD 0), clampTrim 1 ((w[1]?).getD 0))) ∧
          OdBut [O.GAP_WINDOWS_ACCEPTED] s t ∧ t.place 325 = (s.place 325 + 1) % 2 ^ 64 ∧ CtrBut [325] s t ∧
          KeepsBut [.dress, .od, .ctr, .timer, .quads] s t)) ∧
    (∀ item w, s.rd O.GAP_DRESS_ENABLE ≠ 1 ∨ s.gapOpen item = false ∨ s.asleep = true →
      ∃ t, exec (.gapWindowComplete item w) s = .next t ∧ KeepsBut [] s t) ∧
    (∀ (p : Path) (v : Int), Admitted s p O.GAP_DRESS_ENABLE v → ∃ t, exec (.gapDressEnableWrite p v) s = .next t ∧
      t.rd O.GAP_DRESS_ENABLE = v ∧ t.dress = (if v = 0 then { s.dress with firsts := [] } else s.dress) ∧
      OdBut [O.GAP_DRESS_ENABLE] s t ∧ Written p O.GAP_DRESS_ENABLE s t ∧ KeepsBut [.net, .ctr, .free, .od, .dress] s t) ∧
    (∀ first second due body, s.dress.commit = some (due, body) →
      ((first || second) = true → ∃ t g, exec (.commitComplete first second) s = .next t ∧
        g = (if s.dress.inForce = 2 then 1 else (s.dress.generation + 1) % 2 ^ 32) ∧
        t.dress = { s.dress with
          commit := none, commitResult := if first = true then 1 else 2, inForce := if s.dress.inForce = 0 then 1 else 0,
          fallback := false, uncommitted := s.dress.acceptedSince,
          copyA := if s.dress.inForce = 0 then s.dress.copyA else some (g, body),
          copyB := if s.dress.inForce = 0 then some (g, body) else s.dress.copyB } ∧
        t.pond = { s.pond with shadow := body } ∧ t.place 327 = (s.place 327 + 1) % 2 ^ 64 ∧ CtrBut [327] s t ∧
        KeepsBut [.dress, .ctr, .pond] s t) ∧
      ((first || second) = false → ∃ t r, exec (.commitComplete first second) s = .next t ∧
        t.dress = { s.dress with
          commit := none, commitResult := 3, copyA := if s.dress.inForce = 0 then s.dress.copyA else none,
          copyB := if s.dress.inForce = 0 then none else s.dress.copyB } ∧
        tfind t.fault.log (s.fault.next % 256) = some r ∧ r.kind = 0x14 ∧ KeepsBut [.dress, .ctr, .fault, .trace, .od] s t)) ∧
    (s.dress.commit = none → ∀ first second, ∃ t, exec (.commitComplete first second) s = .next t ∧ KeepsBut [] s t) ∧
    (∀ (p : Path) (v : Int), Admitted s p O.DRESS_UNIT v →
      (dressable v.toNat = false → v.toNat ≠ 0x0803 → ∃ t, exec (.dressUnitLatch p v) s = .next t ∧
        RefusedWith (accOf p O.DRESS_UNIT v) 0 0x06090030 Why.DRESS_UNIT 255 s t) ∧
      (dressable v.toNat = true ∨ v.toNat = 0x0803 → ∃ t, exec (.dressUnitLatch p v) s = .next t ∧ t.rd (win p O.DRESS_UNIT) = v ∧
        t.dress = { s.dress with win := tset (side p) (v.toNat, s.passState v.toNat, s.unitDress v.toNat,
          ((s.dress.applying.find? (fun a => a.unit == v.toNat)).map (fun a => a.left)).getD 0) s.dress.win } ∧
        OdBut [win p O.DRESS_UNIT] s t ∧ Written p O.DRESS_UNIT s t ∧ KeepsBut [.net, .ctr, .free, .od, .dress] s t))

/-! ### Wear and layering -/

/-- R303, R304, R306: a recompute, once a second of Run, Idle, Doze or Faulted, gives each unit its wear figure, source and slice, the peak
with it. A worn unit with a spare, nothing in hand for it, is decided under AUTO; under ASK a request is raised, with its record, for
ASK_TIMEOUT (here where no other unit is worn). R307: a request granted is decided, one declined or expired keeps its unit quiet, and
its record takes the outcome; an identifier of no unit is refused, and a unit without request, with LAYER_NO_REQUEST. R306: a policy set
to AUTO grants the pending requests of its section and one set to FROZEN declines them. R324: WEAR_UNIT latches a unit's figures. Under
FROZEN nothing is reported (log entry 30). -/
def Obligations.WearDecisions : Prop :=
  ∀ s : State,
    (∀ m v, s.layer.recomputed + sec 1 ≤ s.clk.now → s.dev ≠ .boot → s.dev ≠ .sleep → s.gov.off = false →
      v = { s with layer := { s.layer with recomputed := s.clk.now, margins := m } }.pruneWear →
      ∃ t, exec (.wearRecompute m) s = .next t ∧ t.layer.recomputed = s.clk.now ∧ t.layer.margins = m ∧ t.layer.log = v.layer.log ∧
        (∀ u, u ∈ wearUnits → t.unitWear u =
          { s.unitWear u with
            w := (v.unitFigure u).1, src := (v.unitFigure u).2.1, slice := (v.unitFigure u).2.2,
            peak := max (s.unitWear u).peak (v.unitFigure u).1, unavail := (t.unitWear u).unavail, declined := (t.unitWear u).declined }) ∧
        (∀ u, u ∈ wearUnits → s.rdN O.WEAR_THRESHOLD ≤ (v.unitFigure u).1 → s.policy u = 0 → s.dev = .run → s.inHand u = false →
          v.noSpareLeft u = false → (u, (v.unitFigure u).2.2, s.clk.now) ∈ t.layer.decided) ∧
        (∀ u, u ∈ wearUnits → s.rdN O.WEAR_THRESHOLD ≤ (v.unitFigure u).1 → s.policy u = 1 → s.dev = .run → s.inHand u = false →
          v.noSpareLeft u = false → (s.unitWear u).declined = none → s.layer.asks.length < 16 →
          (∀ a, a ∈ s.layer.asks → a.seq ≠ s.fault.next) →
          (∀ w, w ∈ wearUnits → w ≠ u → (v.unitFigure w).1 < s.rdN O.WEAR_THRESHOLD) →
          { unit := u, seq := s.fault.next, until_ := s.clk.now + sec (s.rdN O.ASK_TIMEOUT) } ∈ t.layer.asks ∧
            Recorded 0x19 u (v.unitFigure u).2.2 6 0 s t) ∧
        OdBut [] s t ∧ CtrBut [342, 343] s t ∧ KeepsBut [.layer, .fault, .trace, .ctr] s t) ∧
    (∀ m, s.clk.now < s.layer.recomputed + sec 1 ∨ s.dev = .boot ∨ s.dev = .sleep ∨ s.gov.off = true →
      ∃ t, exec (.wearRecompute m) s = .next t ∧ KeepsBut [] s t) ∧
    (∃ t, exec .askTimeout s = .next t ∧
      (∀ a, a ∈ t.layer.asks → a ∈ s.layer.asks ∧ s.clk.now < a.until_) ∧
      (∀ a, a ∈ s.layer.asks → s.clk.now < a.until_ → (∀ b, b ∈ s.layer.asks → b.unit = a.unit → b = a) → a ∈ t.layer.asks) ∧
      (∀ a, a ∈ s.layer.asks → a.until_ ≤ s.clk.now → OutcomeTold a.seq 8 s t ∧
        (t.unitWear a.unit).declined = some ((s.unitWear a.unit).w, s.wearTime)) ∧
      t.layer = { s.layer with asks := t.layer.asks, units := t.layer.units } ∧ KeepsBut [.layer, .fault] s t) ∧
    (∀ (p : Path) (v : Int), Admitted s p O.LAYER_GRANT v →
      (unitKnown v.toNat = false → ∃ t, exec (.layerGrant p v) s = .next t ∧
        RefusedWith (accOf p O.LAYER_GRANT v) 0 0x06090030 Why.UNIT_INVALID 255 s t) ∧
      (unitKnown v.toNat = true → (∀ a, a ∈ s.layer.asks → a.unit ≠ v.toNat) → ∃ t, exec (.layerGrant p v) s = .next t ∧
        RefusedWith (accOf p O.LAYER_GRANT v) 0 0x08000022 Why.LAYER_NO_REQUEST 255 s t) ∧
      (∀ a, unitKnown v.toNat = true → s.layer.asks.find? (fun a => a.unit == v.toNat) = some a →
        ∃ t, exec (.layerGrant p v) s = .next t ∧
          t.layer = { s.layer with
            asks := s.layer.asks.filter (fun b => b.unit != v.toNat),
            decided := s.layer.decided ++ [(v.toNat, (s.unitWear v.toNat).slice, s.clk.now)] } ∧
          OutcomeTold a.seq 1 s t ∧ Written p O.LAYER_GRANT s t ∧ KeepsBut [.net, .ctr, .free, .layer, .fault] s t)) ∧
    (∀ (p : Path) (v : Int), Admitted s p O.LAYER_DECLINE v →
      (unitKnown v.toNat = false → ∃ t, exec (.layerDecline p v) s = .next t ∧
        RefusedWith (accOf p O.LAYER_DECLINE v) 0 0x06090030 Why.UNIT_INVALID 255 s t) ∧
      (unitKnown v.toNat = true → (∀ a, a ∈ s.layer.asks → a.unit ≠ v.toNat) → ∃ t, exec (.layerDecline p v) s = .next t ∧
        RefusedWith (accOf p O.LAYER_DECLINE v) 0 0x08000022 Why.LAYER_NO_REQUEST 255 s t) ∧
      (∀ a, unitKnown v.toNat = true → s.layer.asks.find? (fun a => a.unit == v.toNat) = some a →
        ∃ t, exec (.layerDecline p v) s = .next t ∧
          t.layer = { s.layer with
            asks := s.layer.asks.filter (fun b => b.unit != v.toNat),
            units := tset v.toNat { s.unitWear v.toNat with declined := some ((s.unitWear v.toNat).w, s.wearTime) } s.layer.units } ∧
          OutcomeTold a.seq 7 s t ∧ Written p O.LAYER_DECLINE s t ∧ KeepsBut [.net, .ctr, .free, .layer, .fault] s t)) ∧
    (∀ (p : Path) (sub : Nat) (v : Int), Admitted s p (policyObj sub) v → ∃ t, exec (.policyWrite p sub v) s = .next t ∧
      t.rd (policyObj sub) = v ∧ (v = 1 → t.layer = s.layer ∧ t.fault.log = s.fault.log) ∧
      (v = 0 ∨ v = 2 → t.layer.asks = s.layer.asks.filter (fun a => policyKey a.unit != policyObj sub) ∧
        ∀ a, a ∈ s.layer.asks → policyKey a.unit = policyObj sub → OutcomeTold a.seq (if v = 0 then 1 else 7) s t ∧
          (v = 0 → (a.unit, (s.unitWear a.unit).slice, s.clk.now) ∈ t.layer.decided ∧ t.layer.units = s.layer.units) ∧
          (v = 2 → (t.unitWear a.unit).declined = some ((s.unitWear a.unit).w, s.wearTime) ∧ t.layer.decided = s.layer.decided)) ∧
      t.layer = { s.layer with asks := t.layer.asks, decided := t.layer.decided, units := t.layer.units } ∧
      OdBut [policyObj sub] s t ∧ Written p (policyObj sub) s t ∧ KeepsBut [.net, .ctr, .free, .od, .layer, .fault] s t) ∧
    (∀ (p : Path) (v : Int), Admitted s p O.WEAR_UNIT v →
      (v.toNat ∉ wearUnits → ∃ t, exec (.wearUnitLatch p v) s = .next t ∧
        RefusedWith (accOf p O.WEAR_UNIT v) 0 0x06090030 Why.LAYER_UNIT 255 s t) ∧
      (v.toNat ∈ wearUnits → ∃ t st n, exec (.wearUnitLatch p v) s = .next t ∧ t.rd (win p O.WEAR_UNIT) = v ∧
        (∀ a, s.layer.asks.find? (fun a => a.unit == v.toNat) = some a → st = 1 ∧ n = (a.until_ - s.clk.now) / sec 1) ∧
        ((∀ a, a ∈ s.layer.asks → a.unit ≠ v.toNat) → st = (if s.quietUnit v.toNat = true then 2 else 0) ∧ n = 0) ∧
        t.layer = { s.layer with win := tset (side p) (v.toNat, s.unitWear v.toNat, st, n) s.layer.win } ∧ OdBut [win p O.WEAR_UNIT] s t ∧
        Written p O.WEAR_UNIT s t ∧ KeepsBut [.net, .ctr, .free, .od, .layer] s t))

/-- R45, R308: a decided slice gives its position to the quad's spare at once, and a decided runner its checkpoints, each with a LAYER_WEAR
record and count. R309: after four failing grains in a row the spare serves from three grains after the next, with a record of 6 ns (5.6
ns rounded), no loss of acquisition and any request for the unit superseded; R48: without a spare the quad has failed and the device is
Faulted. Where these conditions fail nothing changes. R308: a worn lane gives its slot to a pooled lane, a worn Hedge pair its traffic
to the spare pair, and a worn or failed power phase leaves its group for a spare; else nothing changes. R305: the layering map is
written with its next generation, the one before kept, when due or once an hour. R311: a phase that fails with no spare left is an
uncovered fault. R319: the records of uncovered faults go to module flash, the last eight. That 5.6 ns is recorded as 6 is the choice of
log entry 13, the units that of 11. -/
def Obligations.Layering : Prop :=
  (∀ s : State,
     (∀ c q j sl at_, c < 4 → q < 4 → s.dev = .run → s.asleep = false → (s.quad (4 * c + q)).spareReady = true →
       (s.quad (4 * c + q)).layered = false → (s.quad (4 * c + q)).pending = none →
       s.layer.decided.find? (fun d => d.1 == 256 * (c + 1) + q) = some (256 * (c + 1) + q, sl, at_) →
       (List.range 16).find? (fun j => (s.quad (4 * c + q)).serving j == sl) = some j →
       ∃ t, exec (.sliceWearLayering c q) s = .next t ∧
         t.quads = tset (4 * c + q) { s.quad (4 * c + q) with
           map := tset j (s.quad (4 * c + q)).spare (s.quad (4 * c + q)).map, retired := sl :: (s.quad (4 * c + q)).retired,
           spareReady := false, failRun := [], layered := true } s.quads ∧
         t.chan c = { s.chan c with layerNext := true } ∧ (∀ d, d ≠ c → t.chan d = s.chan d) ∧
         t.layer.decided = s.layer.decided.filter (fun d => !(d.1 == 256 * (c + 1) + q && d.2.1 == sl)) ∧
         t.layer.mapDue = some (s.clk.now + ms 100) ∧ Recorded 0x18 (256 * (c + 1) + q) sl 1 0 s t ∧
         t.rd O.LAYERINGS_WEAR = min (s.rd O.LAYERINGS_WEAR + 1) 4294967295 ∧ OdBut [O.LAYERINGS_WEAR] s t ∧
         t.place 328 = (s.place 328 + 1) % 2 ^ 64 ∧ CtrBut [328] s t ∧
         KeepsBut [.quads, .chans, .dress, .layer, .fault, .trace, .ctr, .od] s t) ∧
     (∀ c q, 4 ≤ c ∨ 4 ≤ q ∨ s.dev ≠ .run ∨ s.asleep = true ∨ (s.quad (4 * c + q)).spareReady = false ∨
         (s.quad (4 * c + q)).layered = true ∨ (s.quad (4 * c + q)).pending ≠ none ∨
         (∀ d, d ∈ s.layer.decided → d.1 ≠ 256 * (c + 1) + q) →
       ∃ t, exec (.sliceWearLayering c q) s = .next t ∧ KeepsBut [] s t) ∧
     (∀ c q sl, c < 4 → q < 4 → (s.quad (4 * c + q)).failed = false → (s.quad (4 * c + q)).pending = none →
       4 ≤ tget (fun _ => 0) (s.quad (4 * c + q)).failRun sl → s.fault.stop = false →
       (∀ j, (s.quad (4 * c + q)).spareReady = true → (s.quad (4 * c + q)).layered = false → s.dev = .run →
         (List.range 16).find? (fun j => (s.quad (4 * c + q)).serving j == sl) = some j →
         ∃ t r, exec (.sliceHardFailure c q sl) s = .next t ∧
           t.quads = tset (4 * c + q) { s.quad (4 * c + q) with
             map := tset j (s.quad (4 * c + q)).spare (s.quad (4 * c + q)).map, retired := sl :: (s.quad (4 * c + q)).retired,
             spareReady := false, failRun := [], pending := some (s.grainAt s.clk.now + 3 * 64, j) } s.quads ∧
           Recorded 0x01 (256 * (c + 1) + q) sl 1 6 s t ∧ tfind t.fault.log (s.fault.next % 256) = some r ∧
           r.index = s.idxAt (s.grainAt s.clk.now) - 64 ∧
           (∀ d, d ∈ t.layer.decided → d.1 ≠ 256 * (c + 1) + q) ∧ (∀ a, a ∈ t.layer.asks → a.unit ≠ 256 * (c + 1) + q) ∧
           t.layer.mapDue = some (s.clk.now + ms 100) ∧
           t.rd O.LAYERINGS_HARD = min (s.rd O.LAYERINGS_HARD + 1) 4294967295 ∧
           t.rd O.FAULTS_COVERED = min (s.rd O.FAULTS_COVERED + 1) 4294967295 ∧ OdBut [O.LAYERINGS_HARD, O.FAULTS_COVERED] s t ∧
           t.place 335 = (s.place 335 + 1) % 2 ^ 64 ∧ CtrBut [335] s t ∧
           KeepsBut [.quads, .dress, .layer, .fault, .trace, .ctr, .od] s t) ∧
       ((s.quad (4 * c + q)).spareReady = false ∨ (s.quad (4 * c + q)).layered = true → s.dev = .run ∨ s.dev = .faulted →
         ∃ t, exec (.sliceHardFailure c q sl) s = .next t ∧ (t.quad (4 * c + q)).failed = true ∧ t.dev = .faulted ∧
           t.fault.faultN = true ∧ Recorded 0x02 (256 * (c + 1) + q) sl 4 0 s t)) ∧
     (∀ c q sl, 4 ≤ c ∨ 4 ≤ q ∨ (s.quad (4 * c + q)).failed = true ∨ (s.quad (4 * c + q)).pending ≠ none ∨
         tget (fun _ => 0) (s.quad (4 * c + q)).failRun sl < 4 → s.fault.stop = false →
       ∃ t, exec (.sliceHardFailure c q sl) s = .next t ∧ KeepsBut [] s t) ∧
     (∀ k r at_, k < 16 → s.dev = .run → s.farmRuns = true → (s.cluster k).spareReady = true → (s.cluster k).layered = false →
       (s.cluster k).empty = false → s.layer.decided.find? (fun d => d.1 == 0x0700 + k) = some (0x0700 + k, r, at_) →
       ∃ t, exec (.runnerLayering k) s = .next t ∧
         t.farm = { s.farm with
           clusters := tset k { s.cluster k with retired := r :: (s.cluster k).retired, layered := true, spareReady := false }
             s.farm.clusters,
           tiles := s.farm.tiles.map (fun x => if x.run = 32 * k + r then { x with run := 32 * k + 16 } else x),
           insts := s.farm.insts.map (fun x => if x.run = some (32 * k + r) then { x with run := some (32 * k + 16) } else x) } ∧
         t.layer.decided = s.layer.decided.filter (fun d => !(d.1 == 0x0700 + k && d.2.1 == r)) ∧
         t.layer.mapDue = some (s.clk.now + ms 100) ∧ 0x0700 + k ∈ t.fault.noSpare ∧ Recorded 0x18 (0x0700 + k) r 1 0 s t ∧
         t.rd O.LAYERINGS_WEAR = min (s.rd O.LAYERINGS_WEAR + 1) 4294967295 ∧ OdBut [O.LAYERINGS_WEAR] s t ∧
         t.place 330 = (s.place 330 + 1) % 2 ^ 64 ∧ t.place 295 = (s.place 295 + 1) % 2 ^ 64 ∧ CtrBut [295, 330] s t ∧
         KeepsBut [.farm, .layer, .fault, .trace, .ctr, .od] s t) ∧
     (∀ k, 16 ≤ k ∨ s.dev ≠ .run ∨ s.farmRuns = false ∨ (s.cluster k).spareReady = false ∨ (s.cluster k).layered = true ∨
         (s.cluster k).empty = true ∨ (∀ d, d ∈ s.layer.decided → d.1 ≠ 0x0700 + k) →
       ∃ t, exec (.runnerLayering k) s = .next t ∧ KeepsBut [] s t)) ∧
  (∀ s : State,
     (∀ g k sl at_, g < 4 → s.dev = .run → s.tailRuns = true →
       s.layer.decided.find? (fun d => d.1 == 0x0A00 + g) = some (0x0A00 + g, sl, at_) → s.readyLane = some k → k ≠ sl →
       ∃ t, exec (.laneWearLayering g) s = .next t ∧ t.lane k = { s.lane k with st := 3, group := g, slot := (s.lane sl).slot } ∧
         t.lane sl = { s.lane sl with st := 7, rxOk := false, partner := false, okSince := none, lost := none, repl := none } ∧
         (∀ n, n ≠ k → n ≠ sl → t.lane n = s.lane n) ∧ t.tail = { s.tail with lanes := t.tail.lanes } ∧
         t.layer.mapDue = some (s.clk.now + ms 100) ∧ Recorded 0x18 (0x0A00 + g) sl 1 0 s t ∧
         t.rd O.LAYERINGS_WEAR = min (s.rd O.LAYERINGS_WEAR + 1) 4294967295 ∧ OdBut [O.LAYERINGS_WEAR] s t ∧
         t.place 331 = (s.place 331 + 1) % 2 ^ 64 ∧ CtrBut [331] s t ∧
         KeepsBut [.tail, .dress, .layer, .fault, .trace, .ctr, .od] s t) ∧
     (∀ g sl at_, g = 4 ∨ g = 5 → s.dev = .run → s.tailRuns = true → (s.link g).spareIn = false →
       (∀ m, m ∈ pairLanes g true → (s.lane m).st = 4) →
       s.layer.decided.find? (fun d => d.1 == 0x0B00 + (g - 4)) = some (0x0B00 + (g - 4), sl, at_) →
       ∃ t, exec (.laneWearLayering g) s = .next t ∧ (∀ m, m ∈ pairLanes g true → t.lane m = { s.lane m with st := 3 }) ∧
         (∀ m, m ∈ pairLanes g false → t.lane m = { s.lane m with st := 7, rxOk := false, partner := false, lost := none }) ∧
         (∀ n, n ∉ pairLanes g true → n ∉ pairLanes g false → t.lane n = s.lane n) ∧
         t.tail = { s.tail with lanes := t.tail.lanes, links := tset g { s.link g with spareIn := true } s.tail.links } ∧
         Recorded 0x18 (0x0B00 + (g - 4)) sl 1 0 s t ∧ t.rd O.LAYERINGS_WEAR = min (s.rd O.LAYERINGS_WEAR + 1) 4294967295 ∧
         OdBut [O.LAYERINGS_WEAR] s t ∧ t.place 332 = (s.place 332 + 1) % 2 ^ 64 ∧ CtrBut [332] s t ∧
         KeepsBut [.tail, .dress, .layer, .fault, .trace, .ctr, .od] s t) ∧
     (∀ g, 6 ≤ g ∨ s.dev ≠ .run ∨ s.tailRuns = false ∨ (∀ d, d ∈ s.layer.decided → d.1 ≠ linkUnit g) ∨ (g < 4 ∧ s.readyLane = none) ∨
         (4 ≤ g ∧ (s.link g).spareIn = true) →
       ∃ t, exec (.laneWearLayering g) s = .next t ∧ KeepsBut [] s t) ∧
     (∀ g n, g < 6 → n ∈ s.inService (0x0900 + g) → s.gov.off = false → s.fault.stop = false →
       ((s.retiredPhases g).length < 2 → s.dev = .run →
         (∃ t, exec (.phaseLayering true g n) s = .next t ∧
           t.gov = { s.gov with phases := tset g (n :: s.retiredPhases g) s.gov.phases } ∧ Recorded 0x09 (0x0900 + g) n 1 0 s t ∧
           t.layer.mapDue = some (s.clk.now + ms 100) ∧
           OdBut [O.LAYERINGS_HARD, O.FAULTS_COVERED] s t ∧ t.place 340 = (s.place 340 + 1) % 2 ^ 64 ∧ CtrBut [340] s t ∧
           KeepsBut [.gov, .layer, .fault, .trace, .ctr, .od] s t) ∧
         (s.layer.decided.any (fun d => d.1 == 0x0900 + g && d.2.1 == n) = true →
           ∃ t, exec (.phaseLayering false g n) s = .next t ∧
             t.gov = { s.gov with phases := tset g (n :: s.retiredPhases g) s.gov.phases } ∧ Recorded 0x18 (0x0900 + g) n 1 0 s t ∧
             t.layer.mapDue = some (s.clk.now + ms 100) ∧
             OdBut [O.LAYERINGS_WEAR] s t ∧ t.place 333 = (s.place 333 + 1) % 2 ^ 64 ∧ CtrBut [333] s t ∧
             KeepsBut [.gov, .layer, .fault, .trace, .ctr, .od] s t)) ∧
       (2 ≤ (s.retiredPhases g).length → s.dev = .run ∨ s.dev = .faulted →
         ∃ t, exec (.phaseLayering true g n) s = .next t ∧ t.dev = .faulted ∧ t.fault.faultN = true ∧
           t.retiredPhases g = n :: s.retiredPhases g ∧ Recorded 0x0A (0x0900 + g) n 4 0 s t)) ∧
     (∀ hard g n, s.fault.stop = false →
       6 ≤ g ∨ n ∉ s.inService (0x0900 + g) ∨ s.gov.off = true ∨ (hard = false ∧ (2 ≤ (s.retiredPhases g).length ∨ s.dev ≠ .run)) →
       ∃ t, exec (.phaseLayering hard g n) s = .next t ∧ KeepsBut [] s t) ∧
     (s.layer.mapDue ≠ none ∨ s.layer.flash.time + hours 1 ≤ s.wearTime → s.gov.off = false →
       ∃ t, exec .layeringMapWrite s = .next t ∧
         t.layer = { s.layer with flash := s.layerMap, flashOld := s.layer.flash, mapDue := none } ∧
         t.layer.flash.gen = s.layer.flash.gen + 1 ∧ KeepsBut [.layer] s t) ∧
     ((s.layer.mapDue = none ∧ s.wearTime < s.layer.flash.time + hours 1) ∨ s.gov.off = true →
       ∃ t, exec .layeringMapWrite s = .next t ∧ KeepsBut [] s t) ∧
     (s.gov.off = false → ∃ t, exec .prevFaultFlashWrite s = .next t ∧
       t.fault.flash = (s.fault.toFlash.reverse ++ s.fault.flash).take 8 ∧
       t.fault.bare = { s.fault.bare with flash := t.fault.flash, toFlash := [] } ∧ KeepsBut [.fault] s t) ∧
     (s.gov.off = true → ∃ t, exec .prevFaultFlashWrite s = .next t ∧ KeepsBut [] s t))

/-! ### Supply, start-up, power states -/

/-- R328, R345: a supply warning closes admission, and with the end of the last warning that cause is gone. R328, R331, R332: a supply
beyond its limits, or a rail fault, shuts the module down: rails off, no PGOOD, FAULT_N, the cause kept; below 20 V the cause is
forgotten. R329, R330: a sensor at its stop threshold makes the device Faulted with no PGOOD, rail group 0 off, every cluster parked and
no channel ready, unless it has done so already; 5 °C above, the module shuts down with its record in flash; 5 °C below, it may stop
again. The unit 0x09FF, PGOOD at a protective stop, and what a supply that is gone leaves are the choice of log entries 11, 35 and 64. -/
def Obligations.Protection : Prop :=
  ∀ s : State,
    (∀ k v, k < 2 → s.gov.off = false → bit s.gov.closedBy 2 = false →
      s.fault.stop = false → ∃ t, exec (.supplyCondition k true v) s = .next t ∧
        t.gov = { s.gov with
          vinLow := s.gov.vinLow || k == 0, vinHigh := s.gov.vinHigh || k == 1, closed := true, closedBy := setBit s.gov.closedBy 2 true } ∧
        t.fault.bare = { s.fault.bare with gov := setBit s.fault.gov 2 true } ∧ KeepsBut [.gov, .fault] s t) ∧
    (∀ k v, k < 2 → s.gov.off = false → (k = 0 → s.gov.vinHigh = false) → (k = 1 → s.gov.vinLow = false) → s.fault.stop = false →
      ∃ t, exec (.supplyCondition k false v) s = .next t ∧
        t.gov = { s.gov with
          vinLow := false, vinHigh := false, closed := setBit s.gov.closedBy 2 false != 0, closedBy := setBit s.gov.closedBy 2 false } ∧
        t.fault.bare = { s.fault.bare with gov := setBit s.fault.gov 2 false } ∧ KeepsBut [.gov, .fault] s t) ∧
    (∀ k cause b v, (k, cause) ∈ [(2, 2), (3, 1), (4, 3)] → s.gov.off = false →
      ∃ t, exec (.supplyCondition k b v) s = .next t ∧ t.gov.off = true ∧ t.gov.pgood = false ∧ t.gov.rails = [] ∧
        t.gov.shutdown = cause + v % 65536 * 65536 ∧ t.fault.faultN = true ∧ t.fault.flash = s.fault.flash ∧ t.place 459 = 1 ∧
        t.clk.now = s.clk.now) ∧
    (∀ k b v, k = 2 ∨ k = 3 ∨ k = 4 → s.gov.off = true → s.gov.rails = [] → s.fault.stop = false →
      ∃ t, exec (.supplyCondition k b v) s = .next t ∧ KeepsBut [] s t) ∧
    (∀ b v, s.gov.off = false → s.fault.stop = false → ∃ t, exec (.supplyCondition 5 b v) s = .next t ∧
      t.gov = { s.gov with winSince := none } ∧ KeepsBut [.gov] s t) ∧
    (∀ b v, ∃ t, exec (.supplyCondition 6 b v) s = .next t ∧ t.gov.off = true ∧ t.gov.rails = [] ∧ t.gov.shutdown = 0 ∧
        t.gov.restarts = [] ∧ t.fault.faultN = false ∧ t.clk.now = s.clk.now) ∧
    (∀ (n : Nat) (v : Int), n < 12 → s.gov.off = false →
      ((if n = 0 then 900 else 1200) ≤ v → v < (if n = 0 then 950 else 1250) → n ∉ s.gov.hot → s.dev = .run ∨ s.dev = .faulted →
        ∃ t, exec (.thermalCondition n v) s = .next t ∧ t.dev = .faulted ∧ t.fault.faultN = true ∧ n ∈ t.gov.hot ∧ t.gov.off = false ∧
          t.gov.pgood = false ∧ t.gov.rails = s.gov.rails.filter (· != 0) ∧ (∀ k, k < 16 → (t.cluster k).parked = true) ∧
          (∀ c, c < 4 → (t.chan c).ready = false) ∧ Recorded 0x17 0x09FF 0xFFFF 4 0 s t) ∧
      ((if n = 0 then 900 else 1200) ≤ v → v < (if n = 0 then 950 else 1250) → n ∈ s.gov.hot → s.fault.stop = false →
        ∃ t, exec (.thermalCondition n v) s = .next t ∧
          t.gov = { s.gov with lastLid := if n = 0 then v else s.gov.lastLid } ∧ KeepsBut [.gov] s t) ∧
      (v < (if n = 0 then 850 else 1150) → s.fault.stop = false → ∃ t, exec (.thermalCondition n v) s = .next t ∧
        t.gov = { s.gov with lastLid := if n = 0 then v else s.gov.lastLid, hot := s.gov.hot.filter (· != n) } ∧ KeepsBut [.gov] s t) ∧
      ((if n = 0 then 950 else 1250) ≤ v → ∃ t, exec (.thermalCondition n v) s = .next t ∧ t.gov.off = true ∧ t.gov.pgood = false ∧
        t.gov.rails = [] ∧ t.gov.cause = (if n = 0 then 6 else 7) ∧ t.fault.faultN = true ∧
        (∃ r, r ∈ t.fault.flash ∧ r.kind = 0x17 ∧ r.unit = 0x09FF))) ∧
    (∀ g v, g < 6 → g ∈ s.gov.rails → s.gov.seqAt = none → s.gov.off = false →
      ∃ t, exec (.railFault g v) s = .next t ∧ t.gov.off = true ∧ t.gov.pgood = false ∧ t.gov.rails = [] ∧
        t.gov.shutdown = 8 + g * 256 + v % 65536 * 65536 ∧ t.fault.faultN = true) ∧
    (∀ g v, 6 ≤ g ∨ g ∉ s.gov.rails ∨ s.gov.seqAt ≠ none → s.fault.stop = false →
      ∃ t, exec (.railFault g v) s = .next t ∧ KeepsBut [] s t)

/-- R331, R333, R334: a supply that holds its window starts the rail groups in their order, 2.5 ms apart, and then Boot; a group that fails
is left out, but for group 5, which is tried again after 1 s; after an electrical shutdown the core tries again after 1 s, at most three
times in 60 s, and once a fourth was due not at all. R335, R190: RESET_N held low for 1 µs puts every section but the Governor's core
back to its start, with no plan armed and no grain kept, and released begins Boot; 40 ns do nothing. R459: Boot starts the active bank
that can be started. R28, R33: at its end, with no failure found and a timebase that runs, the device is in Run, the network
pre-operational; a fault found earlier in Boot shows as Faulted (log entry 76). Restarts and what Boot counts are as log entries 32 and
46 read the rules. -/
def Obligations.StartUp : Prop :=
  ∀ s : State,
    (s.gov.off = true → s.gov.seqAt = none → s.gov.cause = 0 → s.gov.retryAt = none → ∃ t, exec .supplyEstablished s = .next t ∧
      t.gov = { s.gov with winSince := some s.clk.now, seqAt := some s.clk.now, rails := [], railsBad := [], wantStart := false, spent := false } ∧
      t.fault.bare = { s.fault.bare with faultN := false } ∧ KeepsBut [.gov, .fault] s t) ∧
    (s.gov.off = false → ∃ t, exec .supplyEstablished s = .next t ∧ t.gov = { s.gov with winSince := some s.clk.now } ∧
      KeepsBut [.gov] s t) ∧
    (∀ d, s.gov.off = true → s.gov.seqAt = none → s.gov.restartDue = some d → d ≤ s.clk.now → s.gov.spent = false →
      (s.gov.recent d).length < 3 → ∃ t, exec .shutdownRestart s = .next t ∧
        t.gov = { s.gov with
          restarts := s.clk.now :: s.gov.recent d, seqAt := some s.clk.now, rails := [], railsBad := [], retryAt := none,
          wantStart := false, spent := false } ∧
        t.fault.bare = { s.fault.bare with faultN := false } ∧ KeepsBut [.gov, .fault] s t) ∧
    (s.gov.off = false ∨ s.gov.seqAt ≠ none ∨ s.gov.restartDue = none ∨ s.gov.spent = true ∨
        (∃ d, s.gov.restartDue = some d ∧ (s.clk.now < d ∨ 3 ≤ (s.gov.recent d).length)) →
      ∃ t, exec .shutdownRestart s = .next t ∧ KeepsBut [] s t) ∧
    (∀ w, s.gov.winSince = some w → s.gov.restartDue =
      match s.gov.retryAt with
      | some r => some (max r w)
      | none => if s.gov.cause = 1 ∨ s.gov.cause = 2 ∨ s.gov.cause = 3 then some (max s.gov.offAt (w + sec 1)) else none) ∧
    (∀ b v, s.gov.off = true → s.gov.seqAt = none → s.gov.rails = [] → s.fault.stop = false →
      ∃ t, exec (.supplyCondition 5 b v) s = .next t ∧
        t.gov = { s.gov with winSince := none, spent := s.gov.spent || s.gov.exhausted s.clk.now } ∧ KeepsBut [.gov] s t) ∧
    (∀ since r, s.gov.seqAt = some since →
      since + ms 10 + (s.gov.rails.length + s.gov.railsBad.length) * 200000000 ≤ s.clk.now →
      railOrder[s.gov.rails.length + s.gov.railsBad.length]? = some r → ∃ t, exec .railGroupStart s = .next t ∧
        t.gov = { s.gov with rails := s.gov.rails ++ [r] } ∧ KeepsBut [.gov] s t) ∧
    (∀ since, s.gov.seqAt = some since → s.clk.now < since + ms 10 + (s.gov.rails.length + s.gov.railsBad.length) * 200000000 →
      ∃ t, exec .railGroupStart s = .next t ∧ KeepsBut [] s t) ∧
    (∀ since, s.gov.seqAt = some since → s.gov.rails.length + s.gov.railsBad.length = 6 → since + ms 25 ≤ s.clk.now →
      ∃ t, exec .railGroupStart s = .next t ∧ t.dev = .boot ∧ t.gov.boot = (if s.gov.resetHeld = true then 0 else 1) ∧
        t.gov.off = false ∧ t.gov.seqAt = none ∧ t.gov.pgood = s.gov.railsBad.isEmpty) ∧
    (∀ since r, s.gov.seqAt = some since → s.gov.rails.getLast? = some r → ∃ t, exec .railGroupFail s = .next t ∧
      (r = 5 → t.gov = { s.gov with rails := [], railsBad := [], seqAt := none, retryAt := some (s.clk.now + sec 1) } ∧
        t.fault.bare = { s.fault.bare with faultN := true }) ∧
      (r ≠ 5 → t.gov = { s.gov with rails := s.gov.rails.dropLast, railsBad := s.gov.railsBad ++ [r] } ∧ t.fault.bare = s.fault.bare) ∧
      KeepsBut [.gov, .fault] s t) ∧
    (s.gov.seqAt = none → ∃ t, exec .railGroupFail s = .next t ∧ KeepsBut [] s t) ∧
    (∀ ns, 1000 ≤ ns → s.gov.off = false → ∃ t, exec (.resetN true ns) s = .next t ∧ t.dev = .boot ∧ t.gov.boot = 0 ∧
      t.gov.resetHeld = true ∧ t.gov.rails = s.gov.rails ∧ t.plans = State.reset.plans ∧ t.dir = State.reset.dir ∧ t.pond = State.reset.pond ∧
      t.net.serving = false ∧ t.fault.flash = s.fault.flash ∧ t.dress.copyA = s.dress.copyA ∧ t.dress.copyB = s.dress.copyB ∧
      t.upd.banks = s.upd.banks ∧ t.layer.flash = s.layer.flash ∧ t.clk.now = s.clk.now) ∧
    (∀ ns, ns ≤ 40 → ∃ t, exec (.resetN true ns) s = .next t ∧ KeepsBut [.free] s t) ∧
    (∀ ns, s.gov.resetHeld = true → s.gov.off = false → ∃ t, exec (.resetN false ns) s = .next t ∧ t.dev = .boot ∧ t.gov.boot = 1 ∧
      t.gov.resetHeld = false) ∧
    (∀ ns, s.gov.resetHeld = false → ∃ t, exec (.resetN false ns) s = .next t ∧ KeepsBut [] s t) ∧
    (s.dev = .boot → s.gov.boot = 1 → s.upd.sel.trial = false → s.upd.sel.candidate = none → (s.bank s.upd.sel.active).startable = true →
      ∃ t, exec .firmwareBootDecision s = .next t ∧ t.gov = { s.gov with boot := 2 } ∧ KeepsBut [.gov] s t) ∧
    (∀ i : BootIn, s.dev = .boot → s.gov.boot = 2 → s.gov.railsBad = [] → s.fault.stop = false → s.fan.tb ≠ 4 → i.fails = [] →
      i.late = none →
      (∀ m c, m < 2 → i.codes[m]? = some c → c.length = 16 →
        (∀ o, o ∈ ((s.conv m).calibrate c).offsets → o.natAbs ≤ 64) ∧ ((s.conv m).calibrate c).corr.natAbs ≤ 2000) →
      ∃ t, exec (.bootComplete i) s = .next t ∧ t.dev = (if s.fault.cause = none then .run else .faulted) ∧ t.gov.boot = 0 ∧ t.gov.power = 0 ∧ t.clk.epochBase = s.clk.now ∧
        t.clk.runBefore = 0 ∧ t.net.serving = true ∧ t.net.nmt = .preOp ∧ t.plans = s.plans ∧ t.clk.now = s.clk.now)

/-- R337: Run becomes Idle while nothing is at work, and Run again. R338: DOZE_NOW, or DOZE_AFTER seconds in Idle, takes a device that may
doze to Doze, with rail group 0 and the sample loops off and no pulse left on TRIG_OUT; the way out ends in Run with the enabled
channels READY. R339: Sleep is reached with the stores in self-refresh and rail group 2 alone, once no layering holds it. R340: WAKE_N
low for 200 ns, or a dominant edge of CAN_RX, wakes it, and Run (or Faulted, where it was) follows; after 30 ms without it the device is
Faulted. A wake that is late: log entry 36. -/
def Obligations.PowerStates : Prop :=
  ∀ s : State,
    (∃ t, exec .idlePowerChange s = .next t ∧
      t.gov = (if s.gov.power = 0 ∧ s.idleHolds = true then { s.gov with power := 1, idleSince := some s.clk.now }
        else if s.gov.power = 1 ∧ s.idleHolds = false then { s.gov with power := 0, idleSince := none } else s.gov) ∧
      KeepsBut [.gov] s t) ∧
    (∀ (p : Path) (v : Int), Admitted s p O.DOZE_NOW v →
      (s.gov.power = 2 → ∃ t, exec (.dozeNow p v) s = .next t ∧ Written p O.DOZE_NOW s t ∧ KeepsBut [.net, .ctr, .free] s t) ∧
      (s.gov.power ≠ 2 → s.mayDoze = false → ∃ t, exec (.dozeNow p v) s = .next t ∧
        RefusedWith (accOf p O.DOZE_NOW v) 0 0x08000022 Why.POWER_STATE 255 s t) ∧
      (s.gov.power ≠ 2 → s.mayDoze = true → ∃ t, exec (.dozeNow p v) s = .next t ∧
        t.gov = { s.gov with power := 2, rails := s.gov.rails.filter (· != 0), idleSince := none, dozeEnd := none } ∧
        t.clk = { s.clk with runBefore := s.runTime, runSince := s.clk.now } ∧
        (∀ l, l < 2 → (t.loop l).lock = false ∧ (t.loop l).gate = false) ∧ (∀ l, 2 ≤ l → t.loop l = s.loop l) ∧
        (∀ c, c < 4 → (t.chan c).ready = false) ∧ t.pins = { s.pins with pulses := [], ctbDrive := [] } ∧ Written p O.DOZE_NOW s t ∧
        KeepsBut [.net, .ctr, .free, .gov, .clk, .chans, .fan, .pins, .sluice] s t)) ∧
    (∀ since, s.gov.idleSince = some since → s.rdN O.DOZE_AFTER ≠ 0 → s.gov.power = 1 → since + sec (s.rdN O.DOZE_AFTER) ≤ s.clk.now →
      s.mayDoze = true → ∃ t, exec .dozeAfterExpire s = .next t ∧
        t.gov = { s.gov with power := 2, rails := s.gov.rails.filter (· != 0), idleSince := none, dozeEnd := none } ∧
        (∀ l, l < 2 → (t.loop l).lock = false ∧ (t.loop l).gate = false) ∧ (∀ c, c < 4 → (t.chan c).ready = false) ∧
        t.pins = { s.pins with pulses := [], ctbDrive := [] } ∧ KeepsBut [.gov, .clk, .chans, .fan, .pins, .sluice] s t) ∧
    (s.gov.idleSince = none ∨ s.rdN O.DOZE_AFTER = 0 ∨ s.gov.power ≠ 1 ∨ s.mayDoze = false →
      ∃ t, exec .dozeAfterExpire s = .next t ∧ KeepsBut [] s t) ∧
    (∀ since, s.gov.dozeEnd = some since → s.gov.power = 2 → s.dev ≠ .sleep → (s.loop 0).lostAt = none → (s.loop 1).lostAt = none →
      ∃ t, exec .dozeExitComplete s = .next t ∧
        t.gov = { s.gov with power := 0, rails := s.gov.rails ++ [0], dozeEnd := none } ∧
        (∀ c, c < 4 → s.rd (O.CH_ENABLE c) ≠ 0 → (t.chan c).ready = true) ∧
        (∀ l, l < 2 → (s.loop l).dead = false → (t.loop l).lock = true ∧ (t.loop l).gate = true) ∧
        OdBut (O.RELOCK_COUNT 0 :: O.RELOCK_COUNT 1 :: chanNos.map O.SWAPS_DONE) s t ∧
        KeepsBut [.gov, .clk, .fan, .chans, .od, .ctr, .layer, .free] s t) ∧
    (s.gov.dozeEnd = none ∨ s.gov.power ≠ 2 ∨ s.dev = .sleep → ∃ t, exec .dozeExitComplete s = .next t ∧ KeepsBut [] s t) ∧
    (∀ since, s.gov.downAt = some since → s.dev = .sleep → s.gov.power ≠ 3 → s.stopped 3 = false → s.layeringHeld = false →
      s.pond.copy = none →
      ∃ t, exec .sleepReached s = .next t ∧ t.gov.power = 3 ∧ t.gov.rails = [2] ∧ t.gov.downAt = none ∧ t.pond.selfRefresh = true ∧
        t.net = { s.net with serving := false } ∧ t.rd O.SLEEP_COUNT = min (s.rd O.SLEEP_COUNT + 1) 4294967295 ∧
        t.gov.wakeAt = (if s.gov.latched = 0 then s.gov.wakeAt else some s.clk.now) ∧
        (∀ c, c < 4 → (t.chan c).ready = false) ∧
        OdBut [O.SLEEP_COUNT, O.WAKE_SOURCE] s t ∧ KeepsBut [.pond, .net, .gov, .od, .tail, .chans, .fan, .pins, .sluice] s t) ∧
    (s.gov.downAt = none ∨ s.dev ≠ .sleep ∨ s.gov.power = 3 ∨ s.stopped 3 = true ∨ s.layeringHeld = true →
      ∃ t, exec .sleepReached s = .next t ∧ KeepsBut [] s t) ∧
    (∀ ns held, 200 ≤ ns → s.dev = .sleep → s.gov.wakeAt = none → ∃ t, exec (.wakeNLow ns held) s = .next t ∧
      (s.gov.power = 3 → t.gov = { s.gov with wakeN := held, wakeAt := some s.clk.now, latched := 0 } ∧ t.rd O.WAKE_SOURCE = 1) ∧
      (s.gov.power ≠ 3 → t.gov = { s.gov with wakeN := held, latched := if s.gov.latched = 0 then 1 else s.gov.latched } ∧
        t.rd O.WAKE_SOURCE = s.rd O.WAKE_SOURCE) ∧ OdBut [O.WAKE_SOURCE] s t ∧ KeepsBut [.gov, .free, .od] s t) ∧
    (∀ ns held, ns ≤ 40 ∨ s.dev ≠ .sleep → ∃ t, exec (.wakeNLow ns held) s = .next t ∧ t.gov = { s.gov with wakeN := held } ∧
      KeepsBut [.gov, .free] s t) ∧
    (s.dev = .sleep → s.gov.wakeAt = none → s.gov.power = 3 → ∃ t, exec .canRxWake s = .next t ∧
      t.gov = { s.gov with canOff := true, wakeAt := some s.clk.now, latched := 0 } ∧
      t.rd O.WAKE_SOURCE = 2 ∧ OdBut [O.WAKE_SOURCE] s t ∧ KeepsBut [.gov, .od] s t) ∧
    (s.dev ≠ .sleep → ∃ t, exec .canRxWake s = .next t ∧ KeepsBut [] s t) ∧
    (∀ since, s.gov.wakeAt = some since → s.dev = .sleep →
      (s.fan.tb ≠ 4 → ∃ t, exec .runReached s = .next t ∧ t.dev = (if s.fault.cause = none then .run else .faulted) ∧ t.gov.power = 0 ∧
        t.gov.rails = [0, 1, 2, 3, 4, 5] ∧ t.gov.wakeAt = none ∧ t.net = { s.net with serving := true } ∧ t.pond.selfRefresh = false ∧
        t.rd O.WAKE_TIME_LAST = min ((s.clk.now - since) / us 10) 65535 ∧ t.plans = s.plans ∧ t.dir = s.dir ∧
        (∀ c, c < 4 → s.rd (O.CH_ENABLE c) ≠ 0 → (t.chan c).ready = true)) ∧
      (since + ms 30 ≤ s.clk.now → ∀ late, ∃ t, exec (.wakeTimeout late) s = .next t ∧ t.dev = .faulted ∧ t.fault.faultN = true) ∧
      (s.clk.now < since + ms 30 → s.fault.stop = false → ∀ late, ∃ t, exec (.wakeTimeout late) s = .next t ∧ KeepsBut [] s t)) ∧
    (s.gov.wakeAt = none ∨ s.dev ≠ .sleep ∨ s.fan.tb = 4 → ∃ t, exec .runReached s = .next t ∧ KeepsBut [] s t)

/-- R341, R343, R345, R346, R363: an evaluation, every 10 ms, publishes the mean input power and what the monitor converters last read (its
rounding: log entry 103). Above the cap or the lid limit it takes one step down, in the RUN frequency or by parking the highest cluster,
and below RUN_FREQ_MAX's step one; at the floor for 100 ms over the cap it closes admission. With the limits kept for 1 s and room for
it, it takes one step up. The evaluation after a step takes none. While M0 is distrusted for 1 s it closes admission and steps down each
time. When admission reopens: log entry 34. -/
def Obligations.GovernorSteps : Prop :=
  ∀ (pin : Nat) (s : State),
    (s.clk.now < s.gov.evalAt + ms 10 ∨ s.dev = .boot ∨ s.gov.off = true ∨ s.gov.power = 3 →
      ∃ t, exec (.governorEvaluation pin) s = .next t ∧ KeepsBut [] s t) ∧
    (s.gov.evalAt + ms 10 ≤ s.clk.now → s.dev ≠ .boot → s.gov.off = false → s.gov.power ≠ 3 →
      ∃ t, exec (.governorEvaluation pin) s = .next t ∧ t.gov.evalAt = s.clk.now ∧ t.rd O.P_IN = pin ∧ t.rd O.VIN = s.inputVolts ∧
        t.rd O.IIN = s.inputCurrent ∧ t.rd O.LID_TEMP = s.temperature 0 ∧ (∀ i, i < 11 → t.rd (O.DIE_TEMP i) = s.temperature (i + 1)) ∧
        (∀ i, i < 6 → t.rd (O.RAIL_POWER i) = s.railPower i) ∧ t.rd O.P_IN_PEAK = max (s.rd O.P_IN_PEAK) pin ∧
        t.gov.energy = s.gov.energy + pin ∧ t.dev = s.dev ∧ t.clk = s.clk ∧ t.plans = s.plans ∧ t.dir = s.dir ∧ t.chans = s.chans ∧
        t.net = s.net ∧
        (s.mon.distrust = none →
          (s.gov.stepped = true → t.gov.step = s.gov.step ∧ t.gov.stepped = false) ∧
          (s.gov.stepped = false → s.gov.step < 11 →
            10 * s.rdN O.POWER_CAP < pin ∨ 10 * s.rd O.LID_LIMIT < s.temperature 0 ∨ s.gov.step < s.topStep →
            t.gov.step = s.gov.step + 1 ∧ t.gov.stepped = true ∧ t.rd O.STEPS_DOWN = min (s.rd O.STEPS_DOWN + 1) 4294967295 ∧
            (s.gov.step < 3 → t.fan.pendN = some (stepN (s.gov.step + 1))) ∧
            (3 ≤ s.gov.step → s.parkedClusters.length < s.gov.step - 2 → ∃ k, k < 16 ∧ k ∉ s.parkedClusters ∧
              (∀ m, k < m → m < 16 → m ∈ s.parkedClusters) ∧ (t.cluster k).parked = true)) ∧
          (s.gov.stepped = false → pin ≤ 10 * s.rdN O.POWER_CAP → s.temperature 0 ≤ 10 * s.rd O.LID_LIMIT → s.topStep ≤ s.gov.step →
            (∀ since, s.gov.goodSince = some since → s.clk.now < since + sec 1) →
            t.gov.step = s.gov.step ∧ t.gov.stepped = false) ∧
          (∀ since, s.gov.step = 11 → s.gov.overSince = some since → since + ms 100 ≤ s.clk.now → bit s.gov.closedBy 1 = false →
            10 * s.rdN O.POWER_CAP < pin → t.gov.closed = true ∧ bit t.gov.closedBy 1 = true) ∧
          (∀ since, s.gov.stepped = false → s.gov.goodSince = some since → since + sec 1 ≤ s.clk.now →
            pin + 80 ≤ 10 * s.rdN O.POWER_CAP → s.temperature 0 + 30 ≤ 10 * s.rd O.LID_LIMIT → s.topStep < s.gov.step →
            s.roomAbove pin (s.railPower 4) = true →
            t.gov.step = s.gov.step - 1 ∧ t.gov.stepped = true ∧ t.rd O.STEPS_UP = min (s.rd O.STEPS_UP + 1) 4294967295 ∧
            bit t.gov.closedBy 1 = false ∧ bit t.gov.closedBy 3 = false ∧
            (s.gov.step < 4 → t.fan.pendN = some (stepN (s.gov.step - 1))))) ∧
        (∀ d, s.mon.distrust = some d →
          (s.clk.now < d + sec 1 → t.gov.step = s.gov.step ∧ t.gov.stepped = false) ∧
          (d + sec 1 ≤ s.clk.now → s.gov.step < 11 → bit s.gov.closedBy 4 = false →
            t.gov.step = s.gov.step + 1 ∧ t.gov.stepped = true ∧ t.gov.closed = true ∧ bit t.gov.closedBy 4 = true)))

/-! ### Event timer, monitors -/

/-- R349, R350, R353, R355, R356, R359, R361, R370: while the timer runs, the first edge opens a pair, and one on the other input closes it into
a record with both counts and codes, its order judged by the tables of its generation, and the timer is dead for 50 ns; in single mode it then
stops, and a queue of 16 loses the record. A further edge on the input that opened the pair is counted, and so is one in the dead time. A pair
over PAIR_LIMIT closes without its second edge. A write of TIMER_MODE discards the open pair, and one that would start a timer whose loop has
failed is refused; STAMP_NEXT takes the oldest record; TT_ROW latches a constant, and is refused for a generation no longer held. -/
def Obligations.EventTimer : Prop :=
  ∀ s : State,
    (∀ start falling k f, f < 4096 → s.rd O.TIMER_MODE ≠ 0 → s.timerRuns = true → s.rdBit O.EDGE_SELECT (if start = true then 0 else 1) = falling →
      (∀ o, s.timer.pair = some o → s.rdN O.PAIR_LIMIT = 0 ∨ k - 1 < o.k + s.rdN O.PAIR_LIMIT) →
      (∀ r, s.timer.rearm = some r → 4096 * k - f < r → ∃ t, exec (.timerEdge start falling k f) s = .next t ∧
        t.timer = { s.timer with edgeAt := some s.clk.now } ∧
        t.rd O.DEAD_EDGES = min (s.rd O.DEAD_EDGES + 1) 4294967295 ∧ OdBut [O.DEAD_EDGES] s t ∧ KeepsBut [.od, .timer] s t) ∧
      ((∀ r, s.timer.rearm = some r → r ≤ 4096 * k - f) →
        (s.timer.pair = none → ∃ t, exec (.timerEdge start falling k f) s = .next t ∧
          t.timer = { s.timer with edgeAt := some s.clk.now, rearm := none,
                                   pair := some { isStart := start, k := k, f := f, ref := !s.unref, changes := s.fan.changes } } ∧
          KeepsBut [.timer] s t) ∧
        (∀ o, s.timer.pair = some o → o.isStart = start → ∃ t, exec (.timerEdge start falling k f) s = .next t ∧
          t.timer = { s.timer with edgeAt := some s.clk.now, rearm := none } ∧
          t.rd O.EXTRA_EDGES = min (s.rd O.EXTRA_EDGES + 1) 4294967295 ∧
          OdBut [O.EXTRA_EDGES] s t ∧ KeepsBut [.timer, .od] s t) ∧
        (∀ o, s.timer.pair = some o → o.isStart ≠ start → ∃ t x,
          exec (.timerEdge start falling k f) s = .next t ∧ t.timer.pair = none ∧ t.timer.seq = (s.timer.seq + 1) % 2 ^ 32 ∧
          (x.seq = s.timer.seq ∧ x.epoch = s.dir.epochs % 256 ∧ x.gen = s.timer.gen % 256) ∧
          (if start = true then x.startK = k ∧ x.startF = f ∧ x.stopK = o.k ∧ x.stopF = o.f
           else x.startK = o.k ∧ x.startF = o.f ∧ x.stopK = k ∧ x.stopF = f) ∧
          (∀ a b ord, s.timerTables s.timer.gen = some (a, b) →
            ord = pairOrder (edgeTime a (Config.pathDelay 0) x.startK x.startF) (edgeTime b (Config.pathDelay 1) x.stopK x.stopF) →
            x.flags = ord + at_ (o.ref && o.changes == s.fan.changes && !s.unref) 1 + at_ s.timer.lostBefore 5 ∧
            t.timer.rearm = some ((if ord = 1 then 4096 * x.startK - x.startF else 4096 * x.stopK - x.stopF) + 20 * 4096)) ∧
          (s.timer.queue.length < 16 → t.timer.queue = s.timer.queue ++ [x] ∧ t.timer.lostBefore = false ∧
            t.rd O.TIMER_MODE = (if s.rd O.TIMER_MODE = 1 then 0 else s.rd O.TIMER_MODE) ∧ OdBut [O.TIMER_MODE] s t) ∧
          (16 ≤ s.timer.queue.length → t.timer.queue = s.timer.queue ∧ t.timer.lostBefore = true ∧
            t.rd O.PAIRS_LOST = min (s.rd O.PAIRS_LOST + 1) 4294967295 ∧ OdBut [O.PAIRS_LOST] s t) ∧
          t.place 470 = (s.place 470 + 1) % 2 ^ 64 ∧ CtrBut [470] s t ∧ KeepsBut [.timer, .od, .ctr] s t))) ∧
    (∀ start falling k f, s.timer.pair = none →
      s.rd O.TIMER_MODE = 0 ∨ s.timerRuns = false ∨ s.rdBit O.EDGE_SELECT (if start = true then 0 else 1) ≠ falling →
      ∃ t, exec (.timerEdge start falling k f) s = .next t ∧ t.timer = { s.timer with edgeAt := some s.clk.now } ∧
        KeepsBut [.timer] s t) ∧
    (∀ o, s.timer.pair = some o → s.rdN O.PAIR_LIMIT ≠ 0 → s.timerRuns = true → o.k + s.rdN O.PAIR_LIMIT ≤ s.coarse →
      ∃ t, exec .pairLimitExpire s = .next t ∧ t.timer.pair = none ∧
        t.timer.rearm = (if o.isStart = false ∧ 4096 * s.coarse < 4096 * o.k - o.f + 20 * 4096 then some (4096 * o.k - o.f + 20 * 4096)
                         else none) ∧
        (s.timer.queue.length < 16 → ∃ x, t.timer.queue = s.timer.queue ++ [x] ∧ x.seq = s.timer.seq ∧
          (o.isStart = true → x.startK = o.k ∧ x.startF = o.f ∧ x.stopK = 0 ∧ x.stopF = 0 ∧ bit x.flags 4 = true) ∧
          (o.isStart = false → x.startK = 0 ∧ x.startF = 0 ∧ x.stopK = o.k ∧ x.stopF = o.f ∧ bit x.flags 3 = true)) ∧
        OdBut [O.TIMER_MODE, O.PAIRS_LOST] s t ∧ CtrBut [470] s t ∧ KeepsBut [.timer, .od, .ctr] s t) ∧
    (s.timer.pair = none ∨ s.rdN O.PAIR_LIMIT = 0 ∨ s.timerRuns = false ∨
        (∃ o, s.timer.pair = some o ∧ s.coarse < o.k + s.rdN O.PAIR_LIMIT) →
      ∃ t, exec .pairLimitExpire s = .next t ∧ KeepsBut [] s t) ∧
    (∀ r, s.timer.rearm = some r → r ≤ 4096 * s.coarse → ∃ t, exec .timerRearm s = .next t ∧ t.timer = { s.timer with rearm := none } ∧
      KeepsBut [.timer] s t) ∧
    ((∀ r, s.timer.rearm = some r → 4096 * s.coarse < r) → ∃ t, exec .timerRearm s = .next t ∧ KeepsBut [] s t) ∧
    (∀ (p : Path) (v : Int), Admitted s p O.TIMER_MODE v →
      (v ≠ 0 → s.timerDead = true → ∃ t, exec (.timerModeWrite p v) s = .next t ∧
        RefusedWith (accOf p O.TIMER_MODE v) 0 0x08000022 Why.TIMER_OUT_OF_SERVICE 255 s t) ∧
      (v = 0 ∨ s.timerDead = false → ∃ t, exec (.timerModeWrite p v) s = .next t ∧ t.rd O.TIMER_MODE = v ∧
        t.timer = { s.timer with pair := none, rearm := none, gen := t.timer.gen, gens := t.timer.gens, nextGen := t.timer.nextGen } ∧
        t.rd O.PAIRS_CUT = (if s.timer.pair = none then s.rd O.PAIRS_CUT else min (s.rd O.PAIRS_CUT + 1) 4294967295) ∧
        Written p O.TIMER_MODE s t ∧ OdBut [O.TIMER_MODE, O.PAIRS_CUT] s t ∧
        KeepsBut [.net, .ctr, .free, .od, .timer] s t)) ∧
    (∀ p : Path, s.admits p = true → s.waits (O.STAMP_NEXT / 256 % 65536) = false →
      (∀ x rest, s.timer.queue = x :: rest → ∃ t, exec (.stampNext p) s = .next t ∧ t.timer = { s.timer with queue := rest } ∧
        Answered p O.STAMP_NEXT (ofLe x.bytes) s t ∧ CtrBut [460, 461] s t ∧ KeepsBut [.net, .ctr, .free, .timer] s t) ∧
      (s.timer.queue = [] → ∃ t, exec (.stampNext p) s = .next t ∧
        RefusedWith { path := p, write := false, idx := O.STAMP_NEXT / 256 % 65536, sub := O.STAMP_NEXT % 256, len := 0, v := 0 }
          0 0x08000024 Why.TIMER_EMPTY 255 s t)) ∧
    (∀ (p : Path) (v : Int), Admitted s p O.TT_ROW v →
      (∀ a b, s.timerTables (if s.rdN (win p O.TT_GEN) = 0 then s.timer.gen else s.rdN (win p O.TT_GEN)) = some (a, b) →
        ∃ t, exec (.ttRowLatch p v) s = .next t ∧ t.rd (win p O.TT_ROW) = v ∧
          t.timer = { s.timer with
            win := tset (side p) (((if s.rd (win p O.TT_CONVERTER) = 0 then a else b)[v.toNat]?).getD 0) s.timer.win } ∧
          OdBut [win p O.TT_ROW] s t ∧ Written p O.TT_ROW s t ∧ KeepsBut [.net, .ctr, .free, .od, .timer] s t) ∧
      (s.timerTables (if s.rdN (win p O.TT_GEN) = 0 then s.timer.gen else s.rdN (win p O.TT_GEN)) = none →
        ∃ t, exec (.ttRowLatch p v) s = .next t ∧ RefusedWith (accOf p O.TT_ROW v) 0 0x08000024 Why.TIMER_CONST_GONE 255 s t))

/-- R363, R364: while the converters are on, each entry's corrected code is published, and the table goes round, a new one beginning after
its last; a sequence's end calibrates its converter; MON_TEST starts one, at most 15 µs away and 112 µs long. R365: a cross-check whose
differences exceed 131 codes distrusts the monitors, with its record, and restarts the sequences, until one agrees. R366: an injected
conversion is refused while another waits or for an input above 23, and leaves its result. R363: MT_APPLY takes a table that holds the
inputs needed, and refuses any other. The unit 0x09FF is the choice of log entry 11. -/
def Obligations.Monitors : Prop :=
  ∀ s : State,
    (∀ m raw, m < 2 → s.monOn = true → (s.conv m).inSequence = false →
      ∃ t, exec (.monitorTableEntry m raw) s = .next t ∧
        t.rd (monKey m (((s.conv m).table[(s.conv m).pos]?).getD (0, 1, 0)).1) = ((s.conv m).correct 0 raw : Nat) ∧
        t.mon = { s.mon with conv := t.mon.conv } ∧
        t.mon.conv = tset m
          (if (s.conv m).pos + 1 < (s.conv m).table.length then { s.conv m with pos := (s.conv m).pos + 1 }
           else { s.conv m with pos := 0, table := (s.conv m).next.getD (s.conv m).table, next := none }) s.mon.conv ∧
        OdBut [monKey m (((s.conv m).table[(s.conv m).pos]?).getD (0, 1, 0)).1] s t ∧ KeepsBut [.od, .mon] s t) ∧
    (∀ m raw, 2 ≤ m ∨ s.monOn = false ∨ (s.conv m).inSequence = true →
      ∃ t, exec (.monitorTableEntry m raw) s = .next t ∧ KeepsBut [] s t) ∧
    (∀ m due codes, m < 2 → (s.conv m).seqUntil = some due → codes.length = 16 → s.monOn = true → due ≤ s.clk.now →
      ∃ t, exec (.monitorSequenceEnd m codes) s = .next t ∧
        t.mon = { s.mon with conv := tset m ((s.conv m).calibrate codes) s.mon.conv } ∧ KeepsBut [.mon] s t) ∧
    (∀ m codes, (∀ due, (s.conv m).seqUntil = some due → s.clk.now < due) ∨ s.monOn = false →
      ∃ t, exec (.monitorSequenceEnd m codes) s = .next t ∧ KeepsBut [] s t) ∧
    (∀ (p : Path) (v : Int), Admitted s p O.MON_TEST v → ∃ t, exec (.monTest p v) s = .next t ∧
      (∀ m, m < 2 → bit v.toNat m = true → (s.conv m).seqUntil = none → ∃ w, t.conv m = { s.conv m with seqUntil := some w } ∧
        s.clk.now + us 112 ≤ w ∧ w ≤ s.clk.now + us 127) ∧
      (∀ m, bit v.toNat m = false ∨ 2 ≤ m ∨ (s.conv m).seqUntil ≠ none → t.conv m = s.conv m) ∧
      t.mon = { s.mon with conv := t.mon.conv } ∧ Written p O.MON_TEST s t ∧ KeepsBut [.net, .ctr, .free, .mon] s t) ∧
    (∀ a b c d : Int, s.monOn = true → s.mon.crossAt ≤ s.clk.now → (s.conv 0).inSequence = false → (s.conv 1).inSequence = false →
      ∃ t, exec (.crossCheck a b c d) s = .next t ∧
        t.rd O.CROSS_DIFF_22 = clampI (-32768) 32767 (((s.conv 0).correct 0 a : Int) - (s.conv 1).correct 0 b) ∧
        t.rd O.CROSS_DIFF_23 = clampI (-32768) 32767 (((s.conv 0).correct 0 c : Int) - (s.conv 1).correct 0 d) ∧
        (Int.natAbs (((s.conv 0).correct 0 a : Int) - (s.conv 1).correct 0 b) ≤ 131 →
          Int.natAbs (((s.conv 0).correct 0 c : Int) - (s.conv 1).correct 0 d) ≤ 131 →
            t.mon = { s.mon with distrust := none, crossAt := s.clk.now + ms 1 } ∧ OdBut [O.CROSS_DIFF_22, O.CROSS_DIFF_23] s t ∧
            KeepsBut [.od, .mon] s t) ∧
        (131 < Int.natAbs (((s.conv 0).correct 0 a : Int) - (s.conv 1).correct 0 b) ∨
          131 < Int.natAbs (((s.conv 0).correct 0 c : Int) - (s.conv 1).correct 0 d) →
            t.rd O.CROSS_FAILS = min (s.rd O.CROSS_FAILS + 1) 4294967295 ∧ t.place 469 = (s.place 469 + 1) % 2 ^ 64 ∧ CtrBut [469] s t ∧
            OdBut [O.CROSS_DIFF_22, O.CROSS_DIFF_23, O.CROSS_FAILS, O.FAULTS_COVERED] s t ∧
            (∀ w, s.mon.distrust = some w → t.mon = { s.mon with crossAt := s.clk.now + ms 1 } ∧ t.fault.log = s.fault.log) ∧
            (s.mon.distrust = none → t.mon.distrust = some s.clk.now ∧ (t.conv 0).inSequence = true ∧ (t.conv 1).inSequence = true ∧
              Recorded 0x13 0x09FF 0xFFFF 0 0 s t) ∧
            KeepsBut [.od, .mon, .ctr, .fault, .trace, .free] s t)) ∧
    (∀ a b c d : Int, s.monOn = false ∨ s.clk.now < s.mon.crossAt ∨ (s.conv 0).inSequence = true ∨ (s.conv 1).inSequence = true →
      ∃ t, exec (.crossCheck a b c d) s = .next t ∧ KeepsBut [] s t) ∧
    (∀ (p : Path) (v : Int), Admitted s p O.INJ_REQUEST v →
      (23 < v.toNat % 32 → ∃ t, exec (.injRequest p v) s = .next t ∧
        RefusedWith (accOf p O.INJ_REQUEST v) 0 0x06090030 Why.VALUE_RANGE 255 s t) ∧
      (v.toNat % 32 ≤ 23 → (s.conv (v.toNat / 256 % 2)).inj = none → ∃ t, exec (.injRequest p v) s = .next t ∧
        t.mon = { s.mon with conv := t.mon.conv } ∧
        t.mon.conv = tset (v.toNat / 256 % 2)
          { s.conv (v.toNat / 256 % 2) with
            inj := some (v.toNat % 32, s.clk.now), result := 2 ^ 30 + v.toNat % 32 * 2 ^ 16 } s.mon.conv ∧
        Written p O.INJ_REQUEST s t ∧ KeepsBut [.net, .ctr, .free, .mon] s t) ∧
      (∀ x, v.toNat % 32 ≤ 23 → (s.conv (v.toNat / 256 % 2)).inj = some x → ∃ t, exec (.injRequest p v) s = .next t ∧
        RefusedWith (accOf p O.INJ_REQUEST v) 0 0x08000022 Why.MON_INJECT_BUSY 255 s t)) ∧
    (∀ m raw i since, m < 2 → s.monOn = true → (s.conv m).inj = some (i, since) →
      (s.conv m).inSequence = false ∨ (s.conv m).woken = false → ∃ t, exec (.injectedConversion m raw) s = .next t ∧
      t.mon = { s.mon with conv := t.mon.conv } ∧
      t.mon.conv = tset m
        { s.conv m with inj := none, result := (if s.mon.distrust = none then 2 else 3) * 2 ^ 30 + i * 2 ^ 16 + (s.conv m).correct 0 raw }
        s.mon.conv ∧ KeepsBut [.mon] s t) ∧
    (∀ m raw, 2 ≤ m ∨ s.monOn = false ∨ (s.conv m).inj = none ∨ ((s.conv m).inSequence = true ∧ (s.conv m).woken = true) →
      ∃ t, exec (.injectedConversion m raw) s = .next t ∧ KeepsBut [] s t) ∧
    (∀ (p : Path) (v : Int), Admitted s p O.MT_APPLY v →
      ((∀ i, i ∈ neededInputs (s.rdN O.MT_CONVERTER) →
          i ∈ ((s.conv (s.rdN O.MT_CONVERTER)).shadow.take (s.conv (s.rdN O.MT_CONVERTER)).shadowLen).map (fun e => e.1)) →
        ∃ t, exec (.mtApply p v) s = .next t ∧ t.mon = { s.mon with conv := t.mon.conv } ∧
          t.mon.conv = tset (s.rdN O.MT_CONVERTER)
            { s.conv (s.rdN O.MT_CONVERTER) with
              next := some ((s.conv (s.rdN O.MT_CONVERTER)).shadow.take (s.conv (s.rdN O.MT_CONVERTER)).shadowLen) } s.mon.conv ∧
          Written p O.MT_APPLY s t ∧ KeepsBut [.net, .ctr, .free, .mon] s t) ∧
      (∀ i, i ∈ neededInputs (s.rdN O.MT_CONVERTER) →
          i ∉ ((s.conv (s.rdN O.MT_CONVERTER)).shadow.take (s.conv (s.rdN O.MT_CONVERTER)).shadowLen).map (fun e => e.1) →
        ∃ t, exec (.mtApply p v) s = .next t ∧
          RefusedWith (accOf p O.MT_APPLY v) 0 0x06090030 Why.MON_TABLE_INCOMPLETE 255 s t)) ∧
    (∀ (p : Path) (v : Int), Admitted s p O.SQ_ROW v → ∃ t, exec (.sqRowLatch p v) s = .next t ∧ t.rd (win p O.SQ_ROW) = v ∧
      t.mon = { s.mon with win := tset (side p) (s.rdN (win p O.SQ_CONVERTER), v.toNat,
        ((s.conv (s.rdN (win p O.SQ_CONVERTER))).codes[v.toNat]?).getD 0) s.mon.win } ∧
      OdBut [win p O.SQ_ROW] s t ∧ Written p O.SQ_ROW s t ∧ KeepsBut [.net, .ctr, .free, .od, .mon] s t)

/-! ### Field network -/

/-- R379: an expedited write or read is the access itself; a segmented write is applied when its last segment has come, and never in part; a
segment without transfer or over its size, or a malformed request, is refused and ends the transfer; after 1 s without a segment it is
aborted with 0x0504_0000. R32, R21: an SDO request that the NMT state does not allow, or with CTL stopped, has no effect. R388: an OD
request is served from its queue whatever the NMT state, and its response joins what the group sends, unless the access waits or 8
frames do. The sizes of frames are those of the family (log entry 9), and a segmented write is judged at its end (log entry 63). -/
def Obligations.SdoAndOdRequests : Prop :=
  ∀ s : State,
    (∀ r, s.admits .sdo = false ∨ s.stopped 4 = true → ∃ t, exec (.sdoRequest r) s = .next t ∧ KeepsBut [] s t) ∧
    (∀ (k : Nat) (v : Int), k ∈ plainObjects → Admitted s .sdo k v →
      ∃ t, exec (.sdoRequest (.write (k / 256) (k % 256) (natLen k) v)) s = .next t ∧ t.rd k = v ∧ OdBut [k] s t ∧ Written .sdo k s t ∧
        KeepsBut [.net, .ctr, .free, .od] s t) ∧
    (∀ k, k ∈ plainObjects → s.serves .sdo (k / 256) → ∃ t, exec (.sdoRequest (.read (k / 256) (k % 256))) s = .next t ∧
      Answered .sdo k (s.rd k) s t ∧ CtrBut [460] s t ∧ KeepsBut [.net, .ctr, .free] s t) ∧
    (s.admits .sdo = true → s.stopped 4 = false →
      (∀ idx sub size, ∃ t m, exec (.sdoRequest (.begin_ idx sub size)) s = .next t ∧
        t.net = { s.net with
          last := { path := .sdo, idx := idx, sub := sub }, sdoMax := max s.net.sdoMax m,
          xfer := some { idx := idx, sub := sub, write := true, size := size, moved := 0, data := 0, last := s.clk.now } } ∧
        CtrBut [460] s t ∧ KeepsBut [.net, .ctr, .free] s t) ∧
      (∀ x len v, s.net.xfer = some x → x.write = true → len ≤ sdoSegment → x.moved + len ≤ x.size →
        ∃ t m, exec (.sdoRequest (.segment len v false)) s = .next t ∧
          t.net = { s.net with
            last := { path := .sdo, idx := x.idx, sub := x.sub }, sdoMax := max s.net.sdoMax m,
            xfer := some { x with moved := x.moved + len, data := x.data + v % 256 ^ len * 256 ^ x.moved, last := s.clk.now } } ∧
          CtrBut [460] s t ∧ KeepsBut [.net, .ctr, .free] s t) ∧
      (∀ x len v k, s.net.xfer = some x → x.write = true → len ≤ sdoSegment → x.moved + len = x.size → k ∈ plainObjects → x.idx = k / 256 →
        x.sub = k % 256 → x.size = natLen k → Admitted s .sdo k ((x.data + v % 256 ^ len * 256 ^ x.moved : Nat) : Int) →
        ∃ t, exec (.sdoRequest (.segment len v true)) s = .next t ∧ t.rd k = ((x.data + v % 256 ^ len * 256 ^ x.moved : Nat) : Int) ∧
          OdBut [k] s t ∧ Written .sdo k s t ∧ KeepsBut [.net, .ctr, .free, .od] s t) ∧
      (∀ x len v last, s.net.xfer = some x → x.write = true → len ≤ sdoSegment → x.size < x.moved + len ∨ (last = true ∧ x.moved + len ≠ x.size) →
        ∃ t, exec (.sdoRequest (.segment len v last)) s = .next t ∧ RefusedWith (sdoAcc true x.idx x.sub 0 0) 0 0x06070010 0x0005 255 s t) ∧
      (∀ x n, s.net.xfer = some x → x.write = false → n = min sdoSegment (x.size - x.moved) →
        ∃ t m, exec (.sdoRequest .next) s = .next t ∧
          t.net = { s.net with
            last := { path := .sdo, idx := x.idx, sub := x.sub, value := ((x.data / 256 ^ x.moved % 256 ^ n : Nat) : Int) },
            sdoMax := max s.net.sdoMax m,
            xfer := if x.moved + n = x.size then none else some { x with moved := x.moved + n, last := s.clk.now } } ∧
          CtrBut [460] s t ∧ KeepsBut [.net, .ctr, .free] s t) ∧
      (s.net.xfer = none → ∀ len v last, ∃ t, exec (.sdoRequest (.segment len v last)) s = .next t ∧
        RefusedWith (sdoAcc true 0 0 0 0) 0 0x05040001 Why.PROTOCOL 255 s t) ∧
      (∃ t, exec (.sdoRequest .malformed) s = .next t ∧ RefusedWith (sdoAcc true 0 0 0 0) 0 0x05040001 Why.PROTOCOL 255 s t) ∧
      (∃ t, exec (.sdoRequest .abort) s = .next t ∧ t.net = { s.net with xfer := none } ∧ KeepsBut [.net] s t)) ∧
    (∀ x, s.net.xfer = some x → x.last + sec 1 ≤ s.clk.now → ∃ t, exec .transferTimeout s = .next t ∧
      t.net = { s.net with
        xfer := none, last := { path := .sdo, idx := x.idx, sub := x.sub, abort := 0x05040000, reason := Why.TRANSFER_TIMEOUT },
        refusal := { reason := Why.TRANSFER_TIMEOUT, abort := 0x05040000, object := x.idx * 65536 + x.sub * 256, command := 0, plan := 255,
                     path := Path.sdo.code, count := (s.net.refusal.count + 1) % 2 ^ 32 } } ∧
      CtrBut [462] s t ∧ KeepsBut [.net, .ctr] s t) ∧
    ((∀ x, s.net.xfer = some x → s.clk.now < x.last + sec 1) → ∃ t, exec .transferTimeout s = .next t ∧ KeepsBut [] s t) ∧
    (∀ q rest k, s.tail.odQueue = q :: rest → s.serves .od q.idx → (s.tail.out.filter (fun e => decide (e.1 < 4))).length < 8 →
      k ∈ plainObjects → q.op = 0 → q.idx = k / 256 → q.sub = k % 256 → ∃ t, exec .odRequest s = .next t ∧ t.tail.odQueue = rest ∧
        Answered .od k (s.rd k) s t ∧ t.sends q.group (odResponse q { path := .od, idx := q.idx, sub := q.sub, value := s.rd k } 0) ∧
        OdBut [O.FRAMES_SENT] s t ∧ KeepsBut [.net, .ctr, .free, .tail, .od] s t) ∧
    (∀ q rest, s.tail.odQueue = q :: rest →
      s.waits q.idx = true ∨ 8 ≤ (s.tail.out.filter (fun e => decide (e.1 < 4))).length →
      ∃ t, exec .odRequest s = .next t ∧ KeepsBut [] s t) ∧
    (s.tail.odQueue = [] → ∃ t, exec .odRequest s = .next t ∧ KeepsBut [] s t)

/-- R378: the NMT commands, to the module's node-ID or to 0, and no effect else. R387: the heartbeat. R386: the oldest EMCY message goes
out, and into the history; error passive and bus-off, and the recovery from it; bit 4 of the error register. R375: an ignored frame is
counted. Out of their time, or with the controller off, these change nothing. History and bus-off are as log entry 62 reads them. -/
def Obligations.NetworkManagement : Prop :=
  ∀ s : State,
    (∀ node, s.nmtMine node = true →
      (∃ t, exec (.startRemoteNode node) s = .next t ∧
        t.net = (if s.net.nmt = .operational then s.net
          else { s.net with nmt := .operational, tpdo := [], rpdos := [], overrun := false }) ∧ KeepsBut [.net] s t) ∧
      (∃ t, exec (.stopRemoteNode node) s = .next t ∧ t.net = { s.net with nmt := .stopped, xfer := none } ∧ KeepsBut [.net] s t) ∧
      (∃ t, exec (.enterPreOperational node) s = .next t ∧ t.net = { s.net with nmt := .preOp } ∧ KeepsBut [.net] s t) ∧
      (∃ t, exec (.resetNode node) s = .next t ∧ t.dev = .boot ∧ t.gov.boot = 1 ∧ t.plans = State.reset.plans ∧ t.net.serving = false ∧
        t.clk.now = s.clk.now) ∧
      (∀ balls, ∃ t id, exec (.resetCommunication node balls) s = .next t ∧
        id = (if s.net.storedNode ≠ 0 then s.net.storedNode else balls % 128) ∧
        t.net = { s.net with
          nmt := .preOp, xfer := none, rpdos := [], overrun := false, tpdo := [], history := [], nodeId := id, balls := balls % 128,
          rateNow := s.net.storedRate, storePending := false, hbAt := some s.clk.now,
          bootUps := if id = 0 then s.net.bootUps else s.net.bootUps + 1,
          sent := if id = 0 then s.net.sent else tset (0x700 + id) { len := 1, data := 0 } s.net.sent } ∧
        (∀ k, k < 0x100000 ∨ 0x200000 ≤ k → s.net.saved = none → k ≠ O.EMCY_LOST → t.rd k = s.rd k) ∧
        (∀ k, 0x100000 ≤ k → k < 0x200000 → s.net.saved = none → t.rd k = odDefault k) ∧ KeepsBut [.net, .od] s t)) ∧
    (∀ node balls i, s.nmtMine node = false →
      i ∈ [.startRemoteNode node, .stopRemoteNode node, .enterPreOperational node, .resetNode node, .resetCommunication node balls] →
      ∃ t, exec i s = .next t ∧ KeepsBut [] s t) ∧
    (∀ due, s.canSends = true → s.net.nmt ≠ .init → s.rdN 0x101700 ≠ 0 → s.net.hbAt = some due → due + ms (s.rdN 0x101700 - 1) ≤ s.clk.now →
      ∃ t, exec .heartbeat s = .next t ∧
        t.net = { s.net with
          hbAt := some s.clk.now, sent := tset (0x700 + s.net.nodeId) { len := 1, data := s.net.nmt.code } s.net.sent } ∧
        KeepsBut [.net] s t) ∧
    (s.canSends = false ∨ s.net.nmt = .init ∨ s.rdN 0x101700 = 0 ∨
        (∃ due, s.net.hbAt = some due ∧ s.clk.now < due + ms (s.rdN 0x101700 - 1)) →
      ∃ t, exec .heartbeat s = .next t ∧ KeepsBut [] s t) ∧
    (∀ m rest, s.fault.emcy = m :: rest → s.emcyFree = true → ∃ t, exec .emcySend s = .next t ∧ rest <+: t.fault.emcy ∧
      t.net = { s.net with
        sent := tset (s.emcyCob % 2048) { len := 8, data := m.data } s.net.sent, emcyAt := some s.clk.now,
        history := if m.code = 0 then s.net.history else ((m.code % 2 ^ 16 + m.hist % 2 ^ 16 * 2 ^ 16) :: s.net.history).take 16 } ∧
      t.fault.bare = s.fault.bare ∧ t.place 464 = (s.place 464 + 1) % 2 ^ 64 ∧ CtrBut [464] s t ∧ KeepsBut [.net, .fault, .ctr] s t) ∧
    (s.fault.emcy = [] ∨ s.emcyFree = false → ∃ t, exec .emcySend s = .next t ∧ KeepsBut [] s t) ∧
    (s.canOn = true → s.dev ≠ .sleep → ∃ t, exec .canFrameIgnored s = .next t ∧
      t.rd O.RX_IGNORED = min (s.rd O.RX_IGNORED + 1) 4294967295 ∧ OdBut [O.RX_IGNORED] s t ∧ KeepsBut [.od] s t) ∧
    (s.canOn = false → s.dev ≠ .sleep → ∃ t, exec .canFrameIgnored s = .next t ∧ KeepsBut [] s t) ∧
    (s.canOn = false → ∀ e, ∃ t, exec (.canErrorState e) s = .next t ∧ KeepsBut [] s t) ∧
    (s.canOn = true →
      (s.net.passive = false → s.net.busOff = false → s.fault.emcy.length < 16 → ∃ t m, exec (.canErrorState 1) s = .next t ∧
        t.net = { s.net with passive := true, activeSince := none } ∧ t.fault.bare = { s.fault.bare with canBit := true } ∧
        m ∈ t.fault.emcy ∧ m.code = 0x8120 ∧ KeepsBut [.net, .fault] s t) ∧
      (s.net.busOff = false → ∃ t, exec (.canErrorState 2) s = .next t ∧
        t.net = { s.net with passive := false, busOff := true, activeSince := none } ∧
        t.fault.bare = { s.fault.bare with canBit := true } ∧ KeepsBut [.net, .fault] s t) ∧
      (s.net.busOff = true → s.fault.emcy.length < 16 → ∃ t m, exec (.canErrorState 0) s = .next t ∧
        t.net = { s.net with passive := false, busOff := false, activeSince := some s.clk.now } ∧
        t.fault.bare = { s.fault.bare with canBit := true } ∧ m ∈ t.fault.emcy ∧ m.code = 0x8140 ∧
        t.rd O.BUS_OFF_COUNT = min (s.rd O.BUS_OFF_COUNT + 1) 4294967295 ∧
        OdBut [O.BUS_OFF_COUNT] s t ∧ KeepsBut [.net, .fault, .od] s t) ∧
      (s.net.passive = true → s.net.busOff = false → ∃ t, exec (.canErrorState 0) s = .next t ∧
        t.net = { s.net with passive := false, activeSince := some s.clk.now } ∧ t.fault.bare = { s.fault.bare with canBit := true } ∧
        KeepsBut [.net, .fault] s t)) ∧
    (∃ t, exec .errorRegisterBit4Clear s = .next t ∧
      (t.fault.canBit = true ↔ s.fault.canBit = true ∧ ∀ u, s.net.activeSince = some u → s.clk.now < u + sec 1) ∧
      (∀ u, s.fault.canUntil = some u → t.fault.canUntil = if u ≤ s.clk.now then none else some u) ∧
      (s.fault.canUntil = none → t.fault.canUntil = none) ∧
      t.fault.bare = { s.fault.bare with canBit := t.fault.canBit, canUntil := t.fault.canUntil } ∧ KeepsBut [.fault] s t)

/-- R384: an RPDO of another length than its mapping is discarded, one of a synchronous type waits for the SYNC, in a queue of 16, and
others are applied at once (here a mapping of one plain object), as an SDO write would be, but for those that wait behind a held access.
R385, R383: a SYNC has the synchronous RPDOs applied and the synchronous TPDOs sent at every nth; an event-driven one is sent when its
timer expires. R377: the stored node-ID and data rate wait for a reset. R383, R386: "save", "load", and the history's clearing; another
signature is refused. Sub-indices and mapping are those of the family (log entries 9, 60, 61); the store of a node-ID is atomic (log
entry 45). -/
def Obligations.ProcessDataAndStores : Prop :=
  ∀ s : State,
    (∀ n data, s.canServes = false ∨ s.net.nmt ≠ .operational ∨ 8 ≤ n ∨ s.pdoValid false n = false →
      ∃ t, exec (.rpdoReceived n data) s = .next t ∧ KeepsBut [] s t) ∧
    (∀ n data, s.canServes = true → s.net.nmt = .operational → n < 8 → s.pdoValid false n = true →
      (data.length ≠ mapLen (s.mapping false n) → ∃ t, exec (.rpdoReceived n data) s = .next t ∧
        t.fault.bare = { s.fault.bare with canUntil := some (s.clk.now + sec 1) } ∧ KeepsBut [.fault] s t) ∧
      (data.length = mapLen (s.mapping false n) → s.pdoType false n ≤ 240 ∨ s.net.held ≠ [] →
        (s.net.rpdos.length < 16 → ∃ t, exec (.rpdoReceived n data) s = .next t ∧
          t.net = { s.net with overrun := false, rpdos := s.net.rpdos ++ [(s.clk.now, n, data)] } ∧ KeepsBut [.net] s t) ∧
        (16 ≤ s.net.rpdos.length → ∃ t, exec (.rpdoReceived n data) s = .next t ∧ t.net = { s.net with overrun := true } ∧
          t.fault.bare = (if s.net.overrun = true then s.fault.bare else { s.fault.bare with canUntil := some (s.clk.now + sec 1) }) ∧
          t.rd O.RPDO_LOST = min (s.rd O.RPDO_LOST + 1) 4294967295 ∧ OdBut [O.RPDO_LOST] s t ∧ KeepsBut [.net, .od, .fault] s t)) ∧
      (∀ w k, s.mapping false n = [w] → mapIdx w * 256 + mapSub w = k → k ∈ plainObjects → mapBytes w = natLen k → data.length = mapBytes w →
        240 < s.pdoType false n → Admitted s .rpdo k (ofLe data) →
        ∃ t, exec (.rpdoReceived n data) s = .next t ∧ t.rd k = (ofLe data : Nat) ∧ OdBut [k] s t ∧
          t.net = { s.net with overrun := false, last := { path := .rpdo, idx := k / 256, sub := k % 256 } } ∧
          KeepsBut [.net, .od] s t)) ∧
    (∀ counter, s.canServes = false ∨ (s.net.nmt ≠ .preOp ∧ s.net.nmt ≠ .operational) →
      ∃ t, exec (.syncReceived counter) s = .next t ∧ KeepsBut [] s t) ∧
    (∀ counter, s.canServes = true → s.net.nmt = .preOp → ∃ t, exec (.syncReceived counter) s = .next t ∧
      t.net = { s.net with syncCount := s.net.syncCount + 1 } ∧ KeepsBut [.net] s t) ∧
    (∀ counter at_ n data w k, s.canServes = true → s.net.nmt = .operational → (∀ m, m < 16 → s.pdoValid true m = false) →
      s.net.rpdos = [(at_, n, data)] → n < 8 → s.pdoType false n ≤ 240 → s.mapping false n = [w] → mapIdx w * 256 + mapSub w = k →
      k ∈ plainObjects → mapBytes w = natLen k → data.length = mapBytes w → Admitted s .rpdo k (ofLe data) →
      ∃ t, exec (.syncReceived counter) s = .next t ∧ t.rd k = (ofLe data : Nat) ∧ OdBut [k] s t ∧
        t.net = { s.net with
          syncCount := s.net.syncCount + 1, rpdos := [], last := { path := .rpdo, idx := k / 256, sub := k % 256 } } ∧
        KeepsBut [.net, .od] s t) ∧
    (∀ counter n u, s.canServes = true → s.net.nmt = .operational → s.net.busOff = false → s.net.rpdos = [] → n < 16 →
      (∀ m, m < 16 → (s.pdoValid true m = true ↔ m = n)) → 1 ≤ s.pdoType true n → s.pdoType true n ≤ 240 → s.rdN (pdoKey true n 6) = 0 →
      u = { s with net := { s.net with syncCount := s.net.syncCount + 1 } } →
      (s.pdoType true n ≤ (s.tpdoSt n).syncs + 1 → ∃ t, exec (.syncReceived counter) s = .next t ∧
        t.net.syncCount = s.net.syncCount + 1 ∧
        tfind t.net.sent (s.rdN (pdoKey true n 1) % 2048) =
          some { len := mapLen (s.mapping true n), data := packMap (s.mapping true n) (u.sampleMap (s.mapping true n)).2 } ∧
        t.tpdoSt n = { s.tpdoSt n with
          syncs := 0, sentAt := some s.clk.now, sampled := (u.sampleMap (s.mapping true n)).2, changed := false }) ∧
      ((s.tpdoSt n).syncs + 1 < s.pdoType true n → ∃ t, exec (.syncReceived counter) s = .next t ∧
        t.net = { s.net with
          syncCount := s.net.syncCount + 1, tpdo := tset n { s.tpdoSt n with syncs := (s.tpdoSt n).syncs + 1 } s.net.tpdo } ∧
        KeepsBut [.net] s t)) ∧
    (∀ n since, s.canSends = true → s.net.nmt = .operational → n < 16 → s.pdoValid true n = true → 254 ≤ s.pdoType true n →
      (s.tpdoSt n).sentAt = some since → s.rdN (pdoKey true n 5) ≠ 0 → since + ms (s.rdN (pdoKey true n 5)) ≤ s.clk.now →
      since + us (100 * s.rdN (pdoKey true n 3)) ≤ s.clk.now → ∃ t, exec (.tpdoEvent n) s = .next t ∧
        tfind t.net.sent (s.rdN (pdoKey true n 1) % 2048) =
          some { len := mapLen (s.mapping true n), data := packMap (s.mapping true n) (s.sampleMap (s.mapping true n)).2 } ∧
        t.tpdoSt n = { s.tpdoSt n with sentAt := some s.clk.now, sampled := (s.sampleMap (s.mapping true n)).2, changed := false }) ∧
    (∀ n, s.canSends = false ∨ s.net.nmt ≠ .operational ∨ 16 ≤ n ∨ s.pdoValid true n = false ∨ s.pdoType true n < 254 →
      ∃ t, exec (.tpdoEvent n) s = .next t ∧ KeepsBut [] s t) ∧
    (∀ (p : Path) (v : Int),
      (Admitted s p 0x2F0002 v → ∃ t m, exec (.nodeIdWrite p 2 v) s = .next t ∧
        t.net = { answered { path := p, idx := 0x2F00, sub := 2 } m s.net with storedNode := v.toNat, storePending := true } ∧
        CtrBut [460, 461] s t ∧ KeepsBut [.net, .ctr, .free] s t) ∧
      (Admitted s p 0x2F0004 v → ∃ t m, exec (.nodeIdWrite p 4 v) s = .next t ∧
        t.net = { answered { path := p, idx := 0x2F00, sub := 4 } m s.net with storedRate := v.toNat, storePending := true } ∧
        CtrBut [460, 461] s t ∧ KeepsBut [.net, .ctr, .free] s t) ∧
      (∀ sub, sub ≠ 2 → sub ≠ 4 → ∃ t, exec (.nodeIdWrite p sub v) s = .next t ∧ KeepsBut [] s t) ∧
      (Admitted s p 0x101002 v →
        (v = 0x65766173 → ∃ t m, exec (.storeParameters p v) s = .next t ∧
          t.net = { answered { path := p, idx := 0x1010, sub := 2 } m s.net with
            saved := some (s.od.filter (fun e => decide (0x100000 ≤ e.1) && decide (e.1 < 0x200000))) } ∧
          CtrBut [460, 461] s t ∧ KeepsBut [.net, .ctr, .free] s t) ∧
        (v ≠ 0x65766173 → ∃ t, exec (.storeParameters p v) s = .next t ∧
          RefusedWith (accOf p 0x101002 v) 0 0x06090030 Why.VALUE_RANGE 255 s t)) ∧
      (Admitted s p 0x101102 v →
        (v = 0x64616F6C → ∃ t m, exec (.restoreParameters p v) s = .next t ∧
          t.net = { answered { path := p, idx := 0x1011, sub := 2 } m s.net with saved := none } ∧
          CtrBut [460, 461] s t ∧ KeepsBut [.net, .ctr, .free] s t) ∧
        (v ≠ 0x64616F6C → ∃ t, exec (.restoreParameters p v) s = .next t ∧
          RefusedWith (accOf p 0x101102 v) 0 0x06090030 Why.VALUE_RANGE 255 s t)) ∧
      (Admitted s p 0x100300 v → ∃ t m, exec (.errorHistoryClear p v) s = .next t ∧
        t.net = { answered { path := p, idx := 0x1003, sub := 0 } m s.net with history := [] } ∧
        CtrBut [460, 461] s t ∧ KeepsBut [.net, .ctr, .free] s t))

/-! ### Lanes and groups -/

/-- R422: a lane whose receiver has symbol lock, deskewed within 128 symbols, has RX_OK; one skewed by more counts as not locked. R421, R423,
R435: a marker whose CHECK is good tells of the partner's RX_OK and MAP, and a second one without RX_OK takes a lane out of its group's stripe
while another is left; a marker whose CHECK is bad is ignored. R424: a lane without lock after 10 ms starts its receiver afresh, counts a retry
and is LISTENING, and with the last one of a group or side the group is, which makes one record and one message. -/
def Obligations.LaneTraining : Prop :=
  ∀ (l : Nat) (s : State), l < 26 → s.tailRuns = true → (s.lane l).on = true → (s.lane l).st ≠ 7 →
    (∀ skew, (s.lane l).rxOk = false → skew ≤ 128 → ∃ t, exec (.symbolLock l skew) s = .next t ∧
      t.lane l = { s.lane l with
        rxOk := true, st := if (s.lane l).st ≤ 1 then 2 else (s.lane l).st,
        okSince := if (s.lane l).partner = true then some ((s.lane l).okSince.getD s.clk.now) else none } ∧
      (∀ m, m ≠ l → t.lane m = s.lane m) ∧ t.tail = { s.tail with lanes := t.tail.lanes } ∧ KeepsBut [.tail] s t) ∧
    (∀ skew, 128 < skew ∨ (s.lane l).rxOk = true → ∃ t, exec (.symbolLock l skew) s = .next t ∧ KeepsBut [] s t) ∧
    (∀ a b c d e f g : Nat,
      (g ≠ crc8 [a, b, c, d, e, f] → ∃ t, exec (.markerReceived l [0x7C, a, b, c, d, e, f, g]) s = .next t ∧ KeepsBut [] s t) ∧
      (g = crc8 [a, b, c, d, e, f] → (bit e 0 = true ∨ (s.lane l).st ≠ 3 ∨ (s.lane l).refused = 0) →
        ∃ t, exec (.markerReceived l [0x7C, a, b, c, d, e, f, g]) s = .next t ∧
          t.lane l = { s.lane l with
            partner := bit e 0, map := b, refused := if bit e 0 = true then 0 else (s.lane l).refused + 1,
            okSince := if (s.lane l).rxOk = true ∧ bit e 0 = true then some ((s.lane l).okSince.getD s.clk.now) else none } ∧
          (∀ m, m ≠ l → t.lane m = s.lane m) ∧ t.tail = { s.tail with lanes := t.tail.lanes } ∧ KeepsBut [.tail] s t) ∧
      (g = crc8 [a, b, c, d, e, f] → bit e 0 = false → (s.lane l).st = 3 → (s.lane l).refused = 1 → (s.lane l).group < 4 →
        (∃ m, m < 26 ∧ m ≠ l ∧ (s.lane m).st = 3 ∧ (s.lane m).group = (s.lane l).group) →
        ∃ t, exec (.markerReceived l [0x7C, a, b, c, d, e, f, g]) s = .next t ∧
          t.lane l = { s.lane l with
            map := b, rxOk := false, partner := false, okSince := none, refused := 0, trainFrom := s.clk.now, st := 5,
            lost := some (s.clk.now, s.tbIdx) } ∧
          (∀ m, m ≠ l → t.lane m = s.lane m) ∧ t.tail = { s.tail with lanes := t.tail.lanes } ∧ KeepsBut [.tail] s t)) ∧
    ((s.lane l).rxOk = false → (s.lane l).st ≠ 6 → (s.lane l).trainFrom + ms 10 ≤ s.clk.now →
      (∃ t, exec (.laneLockTimeout l) s = .next t ∧
        t.lane l = { s.lane l with trainFrom := s.clk.now, st := if (s.lane l).lost = none then 1 else (s.lane l).st } ∧
        (∀ m, m ≠ l → t.lane m = s.lane m) ∧ t.rd O.LISTEN_RETRIES = min (s.rd O.LISTEN_RETRIES + 1) 4294967295 ∧
        t.tail = { s.tail with lanes := t.tail.lanes, links := t.tail.links } ∧
        OdBut [O.LISTEN_RETRIES] s t ∧ CtrBut [417] s t ∧ t.place 417 = (s.place 417 + 1) % 2 ^ 64 ∧
        KeepsBut [.tail, .od, .ctr, .fault] s t) ∧
      ((s.lane l).lost = none → (s.lane l).group < 6 → (s.link (s.lane l).group).listening = false →
        (s.link (s.lane l).group).quiet = false →
        (∀ m, m < 26 → m ≠ l → (s.lane m).group = (s.lane l).group → (s.lane m).on = true → (s.lane m).st = 1 ∨ (s.lane m).st = 7) →
        s.fault.emcy.length < 16 →
        ∃ t m, exec (.laneLockTimeout l) s = .next t ∧
          t.link (s.lane l).group = { s.link (s.lane l).group with listening := true } ∧
          Recorded 0x1C (linkUnit (s.lane l).group) 0xFFFF 0 0 s t ∧
          t.fault.next = (s.fault.next + 1) % 2 ^ 32 ∧ (s.fault.emcy ++ [m]) <+: t.fault.emcy ∧ m.code = 0xFF1C)) ∧
    ((s.lane l).rxOk = true ∨ (s.lane l).st = 6 ∨ s.clk.now < (s.lane l).trainFrom + ms 10 →
      ∃ t, exec (.laneLockTimeout l) s = .next t ∧ KeepsBut [] s t)

/-- R422, R435: a lane of a group that loses lock leaves the stripe, its group going on with the others; a spare is then not ready; losses
of all the group's lanes within 10 us mean that the partner is absent: no lane is retired, no spare used, and the group is LISTENING.
R437: a lane of a Hedge side takes the other of its pair out of the stripe with it, and the loss of both within 10 us means the same
there. That the stripe loses the lane at once is log entry 53. -/
def Obligations.LaneLosses : Prop :=
  ∀ (l n : Nat) (s : State), l < 26 → s.tailRuns = true → (s.lane l).on = true →
    ((s.lane l).rxOk = false → ∃ t, exec (.laneLossOfLock l n) s = .next t ∧ KeepsBut [] s t) ∧
    ((s.lane l).rxOk = true → (s.lane l).st = 3 → (s.lane l).group < 4 →
      (∃ m, m < 26 ∧ m ≠ l ∧ (s.lane m).st = 3 ∧ (s.lane m).group = (s.lane l).group) →
      ∃ t, exec (.laneLossOfLock l n) s = .next t ∧
        t.lane l = { s.lane l with
          rose := (s.lane l).rose || n != 0, rxOk := false, partner := false, okSince := none, refused := 0, trainFrom := s.clk.now,
          st := 5, lost := some (s.clk.now, s.tbIdx) } ∧
        (∀ m, m ≠ l → t.lane m = s.lane m) ∧ t.tail = { s.tail with lanes := t.tail.lanes } ∧
        t.place (384 + l) = (s.place (384 + l) + n) % 2 ^ 64 ∧ CtrBut [384 + l] s t ∧ KeepsBut [.tail, .ctr] s t) ∧
    ((s.lane l).rxOk = true → (s.lane l).st = 4 ∨ (s.lane l).st = 5 ∨ (s.lane l).st = 6 →
      ∃ t, exec (.laneLossOfLock l n) s = .next t ∧
        t.lane l = { s.lane l with
          rose := (s.lane l).rose || n != 0, rxOk := false, partner := false, okSince := none, refused := 0, trainFrom := s.clk.now,
          st := if (s.lane l).st = 6 then 6 else 5 } ∧
        (∀ m, m ≠ l → t.lane m = s.lane m) ∧ t.tail = { s.tail with lanes := t.tail.lanes } ∧
        t.place (384 + l) = (s.place (384 + l) + n) % 2 ^ 64 ∧ CtrBut [384 + l] s t ∧ KeepsBut [.tail, .ctr] s t) ∧
    (∀ g, (s.lane l).rxOk = true → g < 4 → s.stripe g = [l] → (s.lane l).group = g → (s.link g).listening = false →
      (s.link g).quiet = false → (∀ m, (s.lane m).repl = none) →
      (∀ a, a ∈ s.losses g → a ≤ s.clk.now + us 10 ∧ s.clk.now ≤ a + us 10 ∧ ∀ b, b ∈ s.losses g → a ≤ b + us 10) →
      ∃ t, exec (.laneLossOfLock l n) s = .next t ∧ (t.link g).listening = true ∧
        (∀ m, m < 26 → (s.lane m).group = g → (s.lane m).st ≠ 0 → (s.lane m).st ≠ 7 → (t.lane m).st = 1 ∧ (t.lane m).lost = none) ∧
        (∀ m, (s.lane m).group ≠ g → t.lane m = s.lane m) ∧ (∀ h, h ≠ g → t.link h = s.link h) ∧
        Recorded 0x1C (0x0A00 + g) 0xFFFF 0 0 s t ∧ KeepsBut [.tail, .ctr, .fault] s t) ∧
    (∀ g m, (s.lane l).rxOk = true → g = 4 ∨ g = 5 → (s.lane l).group = g → (s.lane l).st = 3 →
      s.stripe g = [l, m] ∨ s.stripe g = [m, l] → s.losses g = [] →
      ∃ t, exec (.laneLossOfLock l n) s = .next t ∧ (t.lane l).st = 5 ∧ (t.lane l).rxOk = false ∧
        (t.lane l).lost = some (s.clk.now, s.tbIdx) ∧ t.lane m = { s.lane m with st := 2 } ∧
        (∀ k, k ≠ l → k ≠ m → t.lane k = s.lane k) ∧ t.tail = { s.tail with lanes := t.tail.lanes } ∧ CtrBut [384 + l] s t ∧
        KeepsBut [.tail, .ctr] s t) ∧
    (∀ g a, (s.lane l).rxOk = true → g = 4 ∨ g = 5 → (s.lane l).group = g → (s.lane l).st = 2 → s.losses g = [a] →
      (s.lane l).lost = none → a ≤ s.clk.now → s.clk.now ≤ a + us 10 → (s.link g).listening = false → (s.link g).quiet = false →
      (∀ m, (s.lane m).repl = none) →
      ∃ t, exec (.laneLossOfLock l n) s = .next t ∧ (t.link g).listening = true ∧
        (∀ m, m < 26 → (s.lane m).group = g → (s.lane m).lost ≠ none ∨ m = l → (s.lane m).st ≠ 7 →
          (t.lane m).st = 1 ∧ (t.lane m).lost = none) ∧
        (∀ m, m ≠ l → (s.lane m).lost = none → t.lane m = s.lane m) ∧ (∀ h, h ≠ g → t.link h = s.link h) ∧
        Recorded 0x1C (0x0B00 + (g - 4)) 0xFFFF 0 0 s t ∧ KeepsBut [.tail, .ctr, .fault] s t)

/-- R420, R419, R423, R435, R437: at a marker boundary the count of boundaries rises and the next is 1.6384 us off; LANE_ENABLE and
HEDGE_ENABLE are in force; usable lanes of a group enter its stripe; a ready spare takes the slot of a lost lane; once the 10 us in which
losses count as one have passed, a lost lane is retired for its spare, or its group is DEGRADED, with its record; a failed pair of a Hedge side
gives way to the ready spare pair, or leaves the side out of service. Before its time, or with TAIL stopped, it moves no lane. -/
def Obligations.MarkerBoundaries : Prop :=
  ∀ (inv : List (Nat × Nat)) (s : State),
    (s.tailRuns = false ∨ s.clk.now < s.tail.markerAt → ∃ t, exec (.markerBoundary inv) s = .next t ∧ t.tail.lanes = s.tail.lanes ∧
      t.tail.markers = s.tail.markers ∧ KeepsBut [.tail, .od, .ctr, .free, .upd] s t) ∧
    (s.tailRuns = true → s.tail.markerAt ≤ s.clk.now →
      (∃ t, exec (.markerBoundary inv) s = .next t ∧ t.tail.markers = (s.tail.markers + 1) % 65536 ∧ t.tail.markerAt = s.clk.now + 131072 ∧
        (∀ l, l < 26 → (t.lane l).on = s.laneEnabled l) ∧
        KeepsBut [.tail, .od, .ctr, .free, .fault, .layer, .upd, .dress] s t) ∧
      ((∀ l, l < 26 → (s.lane l).on = s.laneEnabled l) →
        (∀ g, g < 4 → (∀ m, (s.lane m).lost = none) → (s.link g).degraded = false →
          ∃ t, exec (.markerBoundary inv) s = .next t ∧
            (∀ l, l < 18 → (s.lane l).group = g → (s.lane l).st ≤ 2 → (s.lane l).usable = true →
              t.lane l = { s.lane l with st := 3, rose := (t.lane l).rose } ∧ (s.linkActive g = false → (t.link g).listening = false)) ∧
            (∀ l, l < 18 → (s.lane l).group = g → 2 < (s.lane l).st ∨ (s.lane l).usable = false →
              t.lane l = { s.lane l with rose := (t.lane l).rose })) ∧
        (∀ l since i, l < 18 → (s.lane l).lost = some (since, i) → (∀ m, m ≠ l → (s.lane m).lost = none) → (s.lane l).st = 5 →
          (s.lane l).group < 4 →
          (∀ k, (s.lane l).repl = none → s.readyLane = some k → s.clk.now < since + us 10 →
            ∃ t, exec (.markerBoundary inv) s = .next t ∧
              t.lane k = { s.lane k with st := 3, group := (s.lane l).group, slot := (s.lane l).slot, rose := (t.lane k).rose } ∧
              t.lane l = { s.lane l with repl := some k, rose := (t.lane l).rose } ∧ t.fault.log = s.fault.log) ∧
          (∀ k, (s.lane l).repl = some k → since + us 10 ≤ s.clk.now →
            ∃ t intr, exec (.markerBoundary inv) s = .next t ∧
              t.lane l = { s.lane l with st := 7, lost := none, repl := none, rose := (t.lane l).rose } ∧
              (t.link (s.lane l).group).degraded = (s.link (s.lane l).group).degraded ∧
              Recorded 0x07 (0x0A00 + (s.lane l).group) l 1 intr s t ∧ intr ≤ 500000 ∧
              t.rd O.LAYERINGS_HARD = min (s.rd O.LAYERINGS_HARD + 1) 4294967295) ∧
          ((s.lane l).repl = none → s.readyLane = none → since + us 10 ≤ s.clk.now →
            ∃ t intr, exec (.markerBoundary inv) s = .next t ∧ t.lane l = { s.lane l with lost := none, rose := (t.lane l).rose } ∧
              (t.link (s.lane l).group).degraded = true ∧ Recorded 0x07 (0x0A00 + (s.lane l).group) l 2 intr s t ∧ intr ≤ 500000)) ∧
        (∀ g l since i, g = 4 ∨ g = 5 → l ∈ pairLanes g (s.link g).spareIn → (s.lane l).group = g → (s.lane l).lost = some (since, i) →
          (∀ m, m ≠ l → (s.lane m).lost = none) → since + us 10 ≤ s.clk.now →
          ((s.link g).spareIn = false → (∀ m, m ∈ pairLanes g true → (s.lane m).st = 4) →
            ∃ t intr, exec (.markerBoundary inv) s = .next t ∧ (t.link g).spareIn = true ∧
              (∀ m, m ∈ pairLanes g false → (t.lane m).st = 7) ∧ (∀ m, m ∈ pairLanes g true → (t.lane m).st = 3) ∧
              Recorded 0x08 (0x0B00 + (g - 4)) (laneSlice l) 1 intr s t ∧ intr ≤ 500000) ∧
          ((s.link g).spareIn = true ∨ (∃ m, m ∈ pairLanes g true ∧ (s.lane m).st ≠ 4) →
            ∃ t intr, exec (.markerBoundary inv) s = .next t ∧ (t.link g).out = true ∧
              Recorded 0x08 (0x0B00 + (g - 4)) (laneSlice l) 2 intr s t ∧ intr ≤ 500000))))

/-- R435, R437: a lost lane of a DEGRADED group rejoins once both its ends have had RX_OK for 1 ms, with a record whose outcome is RECOVERED;
with the last one DEGRADED clears; a pair out of service returns as a pair; before that time no lane moves. R419: LANE_ENABLE is stored, to be
in force at the next boundary. R440: a role that only one line may have, or a write while a plan in CTB_ANSWER_PLANS is Armed, is refused with
reason CTB_ROLE. R438: an epoch record gives the latency to the neighbour and its epoch's offset, and counts towards EPOCH_ALIGNED while both
modules are DISCIPLINED. -/
def Obligations.RejoiningAndRoles : Prop :=
  ∀ s : State,
    (∀ l g since, l < 18 → s.tailRuns = true → (s.lane l).group = g → g < 4 → (s.lane l).okSince = some since →
      since + ms 1 ≤ s.clk.now → (s.lane l).usable = true → (s.lane l).lost = none → (s.link g).degraded = true →
      (s.lane l).st = 1 ∨ (s.lane l).st = 2 ∨ (s.lane l).st = 5 →
      ∃ t, exec (.laneRejoin l) s = .next t ∧ t.lane l = { s.lane l with st := 3 } ∧ (∀ m, m ≠ l → t.lane m = s.lane m) ∧
        Recorded 0x07 (0x0A00 + g) l 3 0 s t ∧
        ((t.link g).degraded = false ↔ ∀ m, m < 26 → (s.lane m).group = g → m = l ∨ (s.lane m).on = false ∨ (s.lane m).st = 3 ∨
          (s.lane m).st = 6 ∨ (s.lane m).st = 7) ∧ KeepsBut [.tail, .od, .ctr, .free, .fault, .upd] s t) ∧
    (∀ l, 26 ≤ l ∨ s.tailRuns = false ∨ (s.lane l).okSince = none ∨ (s.lane l).usable = false ∨ (s.lane l).lost ≠ none ∨
        (∃ since, (s.lane l).okSince = some since ∧ s.clk.now < since + ms 1) →
      ∃ t, exec (.laneRejoin l) s = .next t ∧ (∀ m, t.lane m = s.lane m) ∧ KeepsBut [.tail, .od, .ctr, .free, .upd] s t) ∧
    (∀ l g, g = 4 ∨ g = 5 → l ∈ pairLanes g (s.link g).spareIn → s.tailRuns = true → (s.lane l).group = g → (s.link g).out = true →
      (s.lane l).lost = none →
      (∀ m, m ∈ pairLanes g (s.link g).spareIn → (s.lane m).usable = true ∧
        ∃ since, (s.lane m).okSince = some since ∧ since + ms 1 ≤ s.clk.now) →
      ∃ t, exec (.laneRejoin l) s = .next t ∧ (t.link g).out = false ∧ (t.link g).listening = false ∧
        (∀ m, m ∈ pairLanes g (s.link g).spareIn → t.lane m = { s.lane m with st := 3 }) ∧
        (∀ m, m ∉ pairLanes g (s.link g).spareIn → t.lane m = s.lane m) ∧ Recorded 0x08 (0x0B00 + (g - 4)) (laneSlice l) 3 0 s t ∧
        KeepsBut [.tail, .od, .ctr, .free, .fault, .upd] s t) ∧
    (∀ (p : Path) (v : Int), Admitted s p O.LANE_ENABLE v → ∃ t, exec (.laneEnableWrite p v) s = .next t ∧ t.rd O.LANE_ENABLE = v ∧
      OdBut [O.LANE_ENABLE] s t ∧ Written p O.LANE_ENABLE s t ∧ KeepsBut [.net, .ctr, .free, .od] s t) ∧
    (∀ (p : Path) (sub : Nat) (v : Int), 1 ≤ sub → sub ≤ 6 → Admitted s p (0x570100 + sub) v →
      (sub ≤ 4 → 2 ≤ v → (∃ i, i < 4 ∧ i + 1 ≠ sub ∧ s.rd (O.CTB_ROLE i) = v) →
        ∃ t, exec (.ctbRoleWrite p sub v) s = .next t ∧ RefusedWith (accOf p (0x570100 + sub) v) 0 0x06090030 Why.CTB_ROLE 255 s t) ∧
      ((sub ≤ 4 → 2 ≤ v → ∀ i, i < 4 → i + 1 ≠ sub → s.rd (O.CTB_ROLE i) ≠ v) →
        ((∃ q, q < 16 ∧ bit (s.rdN O.CTB_ANSWER_PLANS) q = true ∧ armedSt (s.plan q).entering = true) →
          ∃ t, exec (.ctbRoleWrite p sub v) s = .next t ∧ RefusedWith (accOf p (0x570100 + sub) v) 0 0x08000022 Why.CTB_ROLE 255 s t) ∧
        ((∀ q, q < 16 → bit (s.rdN O.CTB_ANSWER_PLANS) q = true → armedSt (s.plan q).entering = false) →
          ∃ t, exec (.ctbRoleWrite p sub v) s = .next t ∧ t.rd (0x570100 + sub) = v ∧ OdBut [0x570100 + sub] s t ∧
            Written p (0x570100 + sub) s t ∧ KeepsBut [.net, .ctr, .free, .od] s t))) ∧
    (∀ (p : Path) (sub : Nat) (v : Int), sub = 0 ∨ 6 < sub → ∃ t, exec (.ctbRoleWrite p sub v) s = .next t ∧ KeepsBut [] s t) ∧
    (∀ g t4 r lat off, g = 4 ∨ g = 5 → (s.nb g).record = some (t4, r) →
      lat = wrapU 32 ((t4 : Int) - fieldOf r 8 4 - fieldOf r 12 2) / 2 → off = wrapS 32 ((fieldOf r 4 4 : Int) + lat - t4) →
      ∃ t, exec (.hedgeEpochRecord g) s = .next t ∧
        t.nb g = { s.nb g with
          latency := min lat 65535, offset := off, epoch := fieldOf r 0 4, echo := fieldOf r 4 4, arrived := t4, record := none,
          run := if off.natAbs ≤ 1 ∧ fieldOf r 14 1 = 2 ∧ s.fan.tb = 2 then min ((s.nb g).run + 1) 16 else 0 } ∧
        (∀ h, h ≠ g → 4 ≤ h → t.nb h = s.nb h) ∧ t.tail = { s.tail with sides := t.tail.sides } ∧ KeepsBut [.tail] s t) ∧
    (∀ g, g < 4 ∨ 6 ≤ g ∨ (s.nb g).record = none → ∃ t, exec (.hedgeEpochRecord g) s = .next t ∧ KeepsBut [] s t)

/-! ### Frames, replay, deliveries -/

/-- R425, R427, R429: a frame with a bad length, start or CRC is discarded and counted, and a NAK is due; one received in order is counted
and goes where its TYPE says, OD requests into a queue of 8 and UPDATE frames into one of 16 KiB, or is discarded and counted where its
type does not belong or the queue is full; one received out of order changes no queue. ACK_SEQ takes the frames received off the replay
buffer, and NAK has what is left in it sent again, flagged REPLAY. R432: CREDIT_TOTAL is the total granted to the stream, and a STALLED
delivery goes on (R434). On a link that is not ACTIVE nothing is received. Credits and counters are as log entries 49, 52 and 54 read
them. -/
def Obligations.FramesReceived : Prop :=
  ∀ (g : Nat) (bytes : List Nat) (s : State),
    (6 ≤ g ∨ s.tailRuns = false ∨ s.linkActive g = false → ∃ t, exec (.frameReceived g bytes) s = .next t ∧ KeepsBut [] s t) ∧
    (g < 6 → s.tailRuns = true → s.linkActive g = true → s.gov.boot ≠ 3 → (s.link g).nextRx < 65536 →
      (Frame.parse bytes = none → ∃ t, exec (.frameReceived g bytes) s = .next t ∧
        t.tail = { s.tail with links := tset g { s.link g with nak := true } s.tail.links } ∧
        (g < 4 → t.rd O.CRC_ERRORS = min (s.rd O.CRC_ERRORS + 1) 4294967295 ∧ t.place 420 = (s.place 420 + 1) % 2 ^ 64) ∧
        (4 ≤ g → t.rd O.CRC_ERRORS = s.rd O.CRC_ERRORS ∧ t.place 420 = s.place 420) ∧
        OdBut [O.CRC_ERRORS] s t ∧ CtrBut [420] s t ∧ KeepsBut [.tail, .od, .ctr] s t) ∧
      (∀ f, Frame.parse bytes = some f → ∃ t, exec (.frameReceived g bytes) s = .next t ∧
        (bit f.flags 2 = false → (Link.acked f.ack (s.link g)).replay <+: (t.link g).replay) ∧
        (bit f.flags 2 = true → ∀ e, e ∈ (Link.acked f.ack (s.link g)).replay →
          { e with frame := { e.frame with flags := setBit e.frame.flags 1 true }, last := s.clk.now } ∈ (t.link g).replay) ∧
        (t.link g).nextRx = (if f.typ ≠ 0 ∧ f.seq % 65536 = (s.link g).nextRx then ((s.link g).nextRx + 1) % 65536 else (s.link g).nextRx) ∧
        (f.typ ≠ 0 → f.seq % 65536 = (s.link g).nextRx →
          (g < 4 → t.rd O.FRAMES_RECEIVED = min (s.rd O.FRAMES_RECEIVED + 1) (2 ^ 64 - 1) ∧
            t.place 419 = (s.place 419 + 1) % 2 ^ 64) ∧
          (f.typ = 8 → t.tail.odQueue = s.tail.odQueue ∧
            (s.updUsed g + ceilDiv f.len 64 ≤ 256 → t.tail.updQueue = s.tail.updQueue ++ [(g, { f with stream := 1 })]) ∧
            (256 < s.updUsed g + ceilDiv f.len 64 → t.tail.updQueue = s.tail.updQueue ∧
              t.rd (if g < 4 then O.FRAMES_DISCARDED else O.HEDGE_DISCARDED) =
                min (s.rd (if g < 4 then O.FRAMES_DISCARDED else O.HEDGE_DISCARDED) + 1) 4294967295)) ∧
          (g < 4 → f.typ = 6 → t.tail.updQueue = s.tail.updQueue ∧
            (s.tail.odQueue.length < 8 → t.tail.odQueue = s.tail.odQueue ++ [{
              group := g, tag := fieldOf f.data 0 2, op := fieldOf f.data 2 1, idx := fieldOf f.data 4 2, sub := fieldOf f.data 6 1,
              data := (f.data.drop 24).take (fieldOf f.data 8 4) }]) ∧
            (8 ≤ s.tail.odQueue.length → t.tail.odQueue = s.tail.odQueue ∧
              t.rd O.FRAMES_DISCARDED = min (s.rd O.FRAMES_DISCARDED + 1) 4294967295)) ∧
          (f.typ ≠ 8 → 4 ≤ g ∨ f.typ ≠ 6 → t.tail.odQueue = s.tail.odQueue ∧ t.tail.updQueue = s.tail.updQueue ∧
            t.rd (if g < 4 then O.FRAMES_DISCARDED else O.HEDGE_DISCARDED) =
              min (s.rd (if g < 4 then O.FRAMES_DISCARDED else O.HEDGE_DISCARDED) + 1) 4294967295)) ∧
        (f.typ = 0 ∨ f.seq % 65536 ≠ (s.link g).nextRx →
          t.tail.odQueue = s.tail.odQueue ∧ t.tail.updQueue = s.tail.updQueue ∧ t.rd O.FRAMES_RECEIVED = s.rd O.FRAMES_RECEIVED) ∧
        (∀ up, g < 4 → up = (f.creditTotal + 65536 - (s.stream f.creditStream).granted) % 65536 → 0 < up → up ≤ 32768 →
          (t.stream f.creditStream).granted = f.creditTotal ∧
          (t.stream f.creditStream).state = (if (s.stream f.creditStream).state = 2 then 1 else (s.stream f.creditStream).state)) ∧
        KeepsBut [.tail, .od, .ctr, .free, .layer, .upd] s t))

/-- R429: 20 us after its last sending a frame not acknowledged is sent again, flagged REPLAY, counted and charged to the lanes; 50 us after
its first sending the group or side trains every lane again and counts an escalation. Before those times, or on a link that is not
ACTIVE, nothing happens. What is counted and charged is log entry 51. -/
def Obligations.ReplayAndEscalation : Prop :=
  ∀ (g : Nat) (s : State),
    (g < 6 → s.tailRuns = true → s.linkActive g = true →
      (∀ n, n = ((s.link g).replay.filter (fun e => decide (e.last + us 20 ≤ s.clk.now))).length → 0 < n →
        ∃ t, exec (.replayTimeout g) s = .next t ∧
          t.link g = { s.link g with
            replay := (s.link g).replay.map (fun e => if e.last + us 20 ≤ s.clk.now then
              { e with frame := { e.frame with flags := setBit e.frame.flags 1 true }, last := s.clk.now } else e) } ∧
          (∀ h, h ≠ g → t.link h = s.link h) ∧ (∀ l, t.lane l = { s.lane l with rose := (t.lane l).rose }) ∧
          (g < 4 → t.rd O.REPLAYS = min (s.rd O.REPLAYS + n) 4294967295) ∧
          (4 ≤ g → t.rd O.HEDGE_REPLAYS = min (s.rd O.HEDGE_REPLAYS + n) 4294967295) ∧
          t.place (410 + g) = (s.place (410 + g) + n) % 2 ^ 64 ∧ CtrBut [410 + g] s t ∧
          OdBut [if g < 4 then O.REPLAYS else O.HEDGE_REPLAYS] s t ∧
          (∃ ws, t.layer = { s.layer with log := ws ++ s.layer.log } ∧ ws.length = n * (s.charged g).length ∧
            ∀ w, w ∈ ws → w.unit = linkUnit g ∧ w.what = 7) ∧
          KeepsBut [.tail, .od, .ctr, .layer] s t) ∧
      ((∃ e, e ∈ (s.link g).replay ∧ e.first + us 50 ≤ s.clk.now) →
        ∃ t, exec (.replayEscalation g) s = .next t ∧ t.rd O.ESCALATIONS = min (s.rd O.ESCALATIONS + 1) 4294967295 ∧
          t.place 416 = (s.place 416 + 1) % 2 ^ 64 ∧ t.link g = { s.link g with escalating := true } ∧ (∀ h, h ≠ g → t.link h = s.link h) ∧
          (∀ l, l < 26 → (s.lane l).group = g → (s.lane l).on = true → (s.lane l).st ≠ 7 → t.lane l = { s.lane l with
            st := if (s.lane l).st = 6 then 6 else 1, rxOk := false, partner := false, okSince := none, refused := 0,
            trainFrom := s.clk.now, lost := none, repl := none }) ∧
          (∀ l, (s.lane l).group ≠ g ∨ (s.lane l).on = false ∨ (s.lane l).st = 7 → t.lane l = s.lane l) ∧
          OdBut [O.ESCALATIONS] s t ∧ CtrBut [416] s t ∧ KeepsBut [.tail, .od, .ctr] s t)) ∧
    (s.tailRuns = false ∨ s.linkActive g = false ∨ (∀ e, e ∈ (s.link g).replay → s.clk.now < e.last + us 20) →
      ∃ t, exec (.replayTimeout g) s = .next t ∧ KeepsBut [] s t) ∧
    (6 ≤ g ∨ s.tailRuns = false ∨ s.linkActive g = false ∨ (∀ e, e ∈ (s.link g).replay → s.clk.now < e.first + us 50) →
      ∃ t, exec (.replayEscalation g) s = .next t ∧ KeepsBut [] s t)

/-- R433, R434: STREAM_GO starts the delivery of the selected stream, and for kind 5 requests its snapshot; on an open stream it is refused,
as where there is no snapshot to have; STREAM_ABORT ends an open one and releases its snapshot. R428: a frame of a delivery holds its
sub-header and records, and the last carries LAST; sent, it stays in the replay buffer. With no frame ready, no room or no credit of the
store (R175) none is sent. A delivery that has lacked credit for longer than CREDIT_TIMEOUT is STALLED and counted. Corner cases are
those of log entries 55 and 56. -/
def Obligations.Deliveries : Prop :=
  ∀ (n : Nat) (s : State),
    (∀ (p : Path) (v : Int), n = s.streamRow →
      (Admitted s p O.STREAM_GO v →
        ((s.stream n).open_ = true → ∃ t, exec (.streamGo p v) s = .next t ∧
          RefusedWith (accOf p O.STREAM_GO v) 0 0x08000022 Why.TAIL_STREAM_OPEN 255 s t) ∧
        ((s.stream n).open_ = false → (s.stream n).kind = 0 → ∃ t, exec (.streamGo p v) s = .next t ∧ Written p O.STREAM_GO s t ∧
          KeepsBut [.net, .ctr, .free] s t) ∧
        ((s.stream n).open_ = false → (s.stream n).kind ≠ 0 → (s.stream n).kind ≠ 5 → ∃ t, exec (.streamGo p v) s = .next t ∧
          t.tail = { s.tail with streams := t.tail.streams } ∧ t.tail.streams = tset n
            { s.stream n with state := 1, frames := 0, unit := 0, ch := 0, pos := 0, lackSince := none } s.tail.streams ∧
          Written p O.STREAM_GO s t ∧ KeepsBut [.net, .ctr, .free, .tail] s t) ∧
        ((s.stream n).open_ = false → (s.stream n).kind = 5 →
          (s.planeInUse (s.stream n).a = false → ∃ t, exec (.streamGo p v) s = .next t ∧
            RefusedWith (accOf p O.STREAM_GO v) 0 0x08000022 Why.PLANE_NONE 255 s t) ∧
          (s.planeInUse (s.stream n).a = true → s.snapFrame = none → ∃ t, exec (.streamGo p v) s = .next t ∧
            RefusedWith (accOf p O.STREAM_GO v) 0 0x08000022 Why.PLANE_SNAPSHOT_BUSY 255 s t) ∧
          (∀ fr, s.planeInUse (s.stream n).a = true → s.snapFrame = some fr → ∃ t, exec (.streamGo p v) s = .next t ∧
            t.tail = { s.tail with streams := t.tail.streams } ∧ t.tail.streams = tset n
              { s.stream n with state := 1, frames := 0, unit := 0, ch := 0, pos := 0, lackSince := none } s.tail.streams ∧
            t.farm = { s.farm with snaps := s.farm.snaps ++
              [({ plane := (s.stream n).a, tail := some n, cut := s.farm.ord, frame := fr, touched := s.runTime } : Snap)] } ∧
            Written p O.STREAM_GO s t ∧ KeepsBut [.net, .ctr, .free, .tail, .farm] s t))) ∧
      (Admitted s p O.STREAM_ABORT v →
        ((s.stream n).open_ = true → ∃ t, exec (.streamAbort p v) s = .next t ∧
          t.tail = { s.tail with streams := tset n { s.stream n with state := 4, lackSince := none } s.tail.streams } ∧
          t.farm.snaps = s.farm.snaps.filter (fun x => !(x.tail == some n)) ∧ Answered p O.STREAM_ABORT 0 s t ∧
          CtrBut [205, 460, 461] s t ∧ KeepsBut [.net, .ctr, .free, .tail, .farm, .pond] s t) ∧
        ((s.stream n).open_ = false → ∃ t, exec (.streamAbort p v) s = .next t ∧ Written p O.STREAM_ABORT s t ∧
          KeepsBut [.net, .ctr, .free] s t))) ∧
    (∀ y typ sub recs missing last f, 2 ≤ n → n < 16 → (s.stream n).state = 1 → s.storeServes = true →
      s.nextFrame n = .frame y typ sub recs missing last →
      f = ({ typ, stream := n, flags := at_ last 0 + at_ missing 3, data := padTo 16 sub ++ recs } : Frame) → (s.stream n).group < 4 →
      (s.roomFor (s.stream n).group f.len = false → ∃ t, exec (.deliveryFrame n) s = .next t ∧ KeepsBut [] s t) ∧
      (s.roomFor (s.stream n).group f.len = true → (s.stream n).credit < f.cost (s.stream n).group →
        ∃ t, exec (.deliveryFrame n) s = .next t ∧
          t.tail = { s.tail with streams := t.tail.streams } ∧ t.tail.streams = tset n
            { s.stream n with lackSince := some ((s.stream n).lackSince.getD s.clk.now) } s.tail.streams ∧ KeepsBut [.tail] s t) ∧
      (s.roomFor (s.stream n).group f.len = true → f.cost (s.stream n).group ≤ (s.stream n).credit →
        (s.takeCredit 4 recs.length).2 = false → ∃ t, exec (.deliveryFrame n) s = .next t ∧ KeepsBut [.pond] s t) ∧
      (s.roomFor (s.stream n).group f.len = true → f.cost (s.stream n).group ≤ (s.stream n).credit → s.pond.credit4 = creditMax →
        ∃ t e, exec (.deliveryFrame n) s = .next t ∧ (t.link (s.stream n).group).replay = (s.link (s.stream n).group).replay ++ [e] ∧
          e.frame.typ = typ ∧ e.frame.stream = n ∧ e.frame.data = padTo 16 sub ++ recs ∧ bit e.frame.flags 0 = last ∧
          bit e.frame.flags 3 = missing ∧ e.frame.seq = (s.link (s.stream n).group).nextTx ∧
          e.frame.streamSeq = (s.stream n).txSeq ∧ e.first = s.clk.now ∧ e.last = s.clk.now ∧
          t.stream n = { y with
            frames := ((s.stream n).frames + 1) % 2 ^ 32, used := ((s.stream n).used + f.cost (s.stream n).group) % 65536,
            txSeq := ((s.stream n).txSeq + 1) % 65536, lackSince := none, state := if last = true then 3 else y.state } ∧
          (∀ m, m ≠ n → t.stream m = s.stream m) ∧ t.gov = { s.gov with frameAt := some s.clk.now } ∧
          t.place 418 = (s.place 418 + 1) % 2 ^ 64 ∧ OdBut [O.FRAMES_SENT] s t ∧
          KeepsBut [.tail, .pond, .gov, .free, .od, .ctr, .farm] s t)) ∧
    (n < 2 ∨ 16 ≤ n ∨ (s.stream n).state ≠ 1 ∨ s.storeServes = false ∨ s.nextFrame n = .wait →
      ∃ t, exec (.deliveryFrame n) s = .next t ∧ KeepsBut [] s t) ∧
    (∀ y, 2 ≤ n → n < 16 → (s.stream n).state = 1 → s.storeServes = true → s.nextFrame n = .skip y →
      ∃ t, exec (.deliveryFrame n) s = .next t ∧ t.tail = { s.tail with streams := tset n y s.tail.streams } ∧ KeepsBut [.tail] s t) ∧
    ((s.stream n).kind = 1 → (s.stream n).b ≠ 0 → ∀ q e c m, q = ((s.stream n).a + (s.stream n).unit) % 2 ^ 32 → s.entryOf q = some e →
      e.state ≠ 1 → ((onesBelow (s.stream n).chans 4).filter (fun c => bit e.seg.chset c))[(s.stream n).ch]? = some c →
      m = min 42 (e.count - (s.stream n).pos) → ∃ y last, s.nextFrame n = .frame y 1 (grainSub q (s.stream n).pos c 0 m)
        ((List.range m).flatMap (fun i => (s.readGrain e.seg.plan c (e.seg.offset ((s.stream n).pos + i))).bytes)) false last) ∧
    ((s.stream n).kind = 4 → (s.stream n).unit < (s.stream n).b → (s.stream n).a + (s.stream n).b ≤ 2097152 →
      ∀ m r, m = min 63 ((s.stream n).b - (s.stream n).unit) → r = (s.stream n).a + (s.stream n).unit →
        s.nextFrame n = .frame { s.stream n with unit := (s.stream n).unit + m } 3 (leBytes 4 r ++ leBytes 2 m)
          ((List.range m).flatMap (fun i => (s.rec_ (r + i)).bytes)) false (decide ((s.stream n).b ≤ (s.stream n).unit + m))) ∧
    (∀ since, (s.stream n).state = 1 → (s.stream n).lackSince = some since → since + ms (s.rdN O.CREDIT_TIMEOUT) < s.clk.now →
      ∃ t, exec (.creditTimeout n) s = .next t ∧ t.tail = { s.tail with streams := tset n { s.stream n with state := 2 } s.tail.streams } ∧
        t.rd O.STALLS = min (s.rd O.STALLS + 1) 4294967295 ∧ t.place 421 = (s.place 421 + 1) % 2 ^ 64 ∧
        OdBut [O.STALLS] s t ∧ CtrBut [421] s t ∧ KeepsBut [.tail, .od, .ctr] s t) ∧
    ((s.stream n).state ≠ 1 ∨ (∀ since, (s.stream n).lackSince = some since → s.clk.now ≤ since + ms (s.rdN O.CREDIT_TIMEOUT)) →
      ∃ t, exec (.creditTimeout n) s = .next t ∧ KeepsBut [] s t)

/-- R431, R430: a bulk gate load applies its records of 48 bytes in order, each as by GATE_APPLY; the first that is refused ends the load,
those before it stay applied, and the answer and the refusal window carry its refusal; a load of another length is refused with
TYPE_LENGTH. Reserved bytes are judged as log entry 57 says. -/
def Obligations.BulkGateLoads : Prop :=
  ∀ (p : Path) (len : Nat) (v : Int) (s : State), s.serves p 0x5604 → (∃ r, writeCheck 0x5604 1 len v = .ok r) →
    (len % 48 ≠ 0 → ∃ t, exec (.gateBulk p len v) s = .next t ∧
      RefusedWith { path := p, write := true, idx := 0x5604, sub := 1, len := len, v := v } 0 0x06070010 Why.TYPE_LENGTH 255 s t) ∧
    (len % 48 = 0 → ∀ (done rest : List (List Nat)) (cs : List GateCfg), piecesOf 48 (len / 48) (leBytes len v.toNat) = done ++ rest →
      done.map bulkCfg = cs.map (fun c => (.ok c : Except Rej GateCfg)) → (∀ c, c ∈ cs → c.refused = none) →
      (rest = [] → ∃ t m, exec (.gateBulk p len v) s = .next t ∧ t.net = answered { path := p, idx := 0x5604, sub := 1 } m s.net ∧
        t.farm = ((done.zip cs).foldl (fun u e => u.applyGate (fieldOf e.1 0 2) e.2) s).farm ∧
        CtrBut [460, 461] s t ∧ KeepsBut [.net, .ctr, .free, .farm] s t) ∧
      (∀ r more abort why, rest = r :: more →
        (∃ e, bulkCfg r = .error e ∧ abort = e.abort ∧ why = e.reason) ∨
          (∃ c, bulkCfg r = .ok c ∧ c.refused = some why ∧ abort = 0x06090030) →
        ∃ t m, exec (.gateBulk p len v) s = .next t ∧ t.net =
          { answered { path := p, idx := 0x5604, sub := 1, abort := abort, reason := why } m s.net with refusal := t.net.refusal } ∧
        t.net.refusal.abort = abort ∧ t.net.refusal.reason = why ∧ t.net.refusal.count = (s.net.refusal.count + 1) % 2 ^ 32 ∧
        t.farm = ((done.zip cs).foldl (fun u e => u.applyGate (fieldOf e.1 0 2) e.2) s).farm ∧
        CtrBut [460, 461, 462] s t ∧ OdBut [O.RPDO_REFUSED] s t ∧ KeepsBut [.net, .ctr, .free, .farm, .od] s t))

/-! ### Firmware update -/

/-- R453: how UPDATE_BEGIN is judged, in its order, and what each outcome does. R456: how UPDATE_END is judged; one of an incomplete image leaves
the session as it is, one of a damaged staging ends it as FAILED; accepted it takes CANDIDATE and the inactive bank's REJECTED bit from the select
word, empties the bank and begins WRITING, for at most 100 ms for each block of 256 KiB. -/
def Obligations.UpdateCommands : Prop :=
  ∀ (p : Path) (s : State), s.judges p →
    (∀ len digest, len = s.rdN (win p O.UPD_LENGTH) → digest = s.rdN (win p O.UPD_DIGEST) → s.cell 0x30 = .accept →
      (len < 256 ∨ 50331648 < len → ∃ t, exec (.updateBegin p 0 0) s = .next t ∧
        CommandRefused p (cmdWord 0x30 0 0) 0x06090030 Why.UPDATE_TOO_LARGE s t) ∧
      (256 ≤ len → len ≤ 50331648 →
        (∀ x, s.upd.session = some x → x.digest = digest → ∃ t y, exec (.updateBegin p 0 0) s = .next t ∧
          CommandNoted p (cmdWord 0x30 0 0) s t ∧ t.upd = { s.upd with session := some y } ∧
          y = (if x.source = pathSource p then x
            else { x with dups := pathSource p :: x.dups.filter (fun d => d != pathSource p) }) ∧
          CtrBut [460, 461, 463] s t ∧ KeepsBut [.net, .ctr, .free, .upd] s t) ∧
        ((∃ x, s.upd.session = some x ∧ x.digest ≠ digest) ∨ (s.upd.session = none ∧ s.upd.sel.trial = true) →
          ∃ t, exec (.updateBegin p 0 0) s = .next t ∧ CommandRefused p (cmdWord 0x30 0 0) 0x08000022 Why.UPDATE_BUSY s t) ∧
        (s.upd.session = none → s.upd.sel.trial = false →
          ((s.bank s.upd.sel.active).digest = some digest ∨ (s.spareBankReady = true ∧ (s.bank s.upd.inactive).digest = some digest) →
            ∃ t, exec (.updateBegin p 0 0) s = .next t ∧ CommandNoted p (cmdWord 0x30 0 0) s t ∧ t.upd = { s.upd with state := 5 } ∧
              CtrBut [460, 461, 463] s t ∧ KeepsBut [.net, .ctr, .free, .upd] s t) ∧
          ((s.bank s.upd.sel.active).digest ≠ some digest → s.spareBankReady = false ∨ (s.bank s.upd.inactive).digest ≠ some digest →
            ∃ t, exec (.updateBegin p 0 0) s = .next t ∧ CommandNoted p (cmdWord 0x30 0 0) s t ∧
              t.upd = { s.upd with
                session := some { source := pathSource p, len := len, digest := digest, last := s.clk.now }, source := pathSource p,
                state := 1, staging := [], staged := none, fwd := [] } ∧
              t.pond = { s.pond with stagingDamaged := false } ∧ CtrBut [460, 461, 463] s t ∧
              KeepsBut [.net, .ctr, .free, .upd, .pond] s t)))) ∧
    (s.cell 0x31 = .accept →
      ((∀ x, s.upd.session = some x → x.source ≠ pathSource p ∨ x.due ≠ none) → ∃ t, exec (.updateEnd p 0 0) s = .next t ∧
        CommandRefused p (cmdWord 0x31 0 0) 0x08000022 Why.UPDATE_NO_SESSION s t) ∧
      (∀ x, s.upd.session = some x → x.source = pathSource p → x.due = none →
        (s.upd.staging.length < x.len → ∃ t, exec (.updateEnd p 0 0) s = .next t ∧
          CommandRefused p (cmdWord 0x31 0 0) 0x08000022 Why.UPDATE_INCOMPLETE s t) ∧
        (x.len ≤ s.upd.staging.length → s.pond.stagingDamaged = true → ∃ t, exec (.updateEnd p 0 0) s = .next t ∧
          CommandRefused p (cmdWord 0x31 0 0) 0x08000022 Why.UPDATE_STAGING_ERROR
            { s with upd := { s.upd with session := none, staging := [], staged := none, state := 4 } } t) ∧
        (x.len ≤ s.upd.staging.length → s.pond.stagingDamaged = false → s.gov.boot ≠ 3 → ∃ t d, exec (.updateEnd p 0 0) s = .next t ∧
          CommandNoted p (cmdWord 0x31 0 0) s t ∧ s.clk.now ≤ d ∧ d ≤ s.clk.now + ceilDiv x.len 262144 * ms 100 ∧
          t.upd = { s.upd with
            state := 2, session := some { x with due := some d }, banks := tset s.upd.inactive {} s.upd.banks, selOld := some s.upd.sel,
            sel := { s.upd.sel with
              gen := (s.upd.sel.gen + 1) % 2 ^ 32, candidate := none, rejected := setBit s.upd.sel.rejected s.upd.inactive false } } ∧
          CtrBut [460, 461, 463] s t ∧ KeepsBut [.net, .ctr, .free, .upd] s t)))

/-- R454: UPD_DATA and UPDATE frames store their bytes in the staging area, a byte written twice keeping its later value; what is not the
source's, or would pass UPD_LENGTH, is refused, dropped, or (of the host's frames) discarded and counted. A session in RECEIVING without
data for 60 s fails, and R455: UPD_ABORT from its source ends it, but not while it is being written, and from elsewhere it is refused.
Data in WRITING are taken as log entry 41 says; the reason of a refused UPD_ABORT in WRITING is no part of this. -/
def Obligations.ImageData : Prop :=
  ∀ s : State,
    (∀ (p : Path) (len : Nat) (v : Int) (a : Acc), s.serves p 0x5800 → (∃ r, writeCheck 0x5800 6 len v = .ok r) →
      a = { path := p, write := true, idx := 0x5800, sub := 6, len := len, v := v } →
      (∀ x, s.upd.session = some x → x.source = pathSource p →
        (∀ off, off = s.rdN (win p O.UPD_OFFSET) → off + len ≤ x.len → ∃ t m, exec (.updData p len v) s = .next t ∧
          (∀ i, tget (fun _ => 0) t.upd.staging i =
            if off ≤ i ∧ i < off + len then v.toNat / 256 ^ (i - off) % 256 else tget (fun _ => 0) s.upd.staging i) ∧
          t.upd = { s.upd with staging := t.upd.staging, session := some { x with last := s.clk.now } } ∧
          t.rd (win p O.UPD_OFFSET) = (off + len : Nat) ∧ OdBut [win p O.UPD_OFFSET] s t ∧
          t.net = answered { path := p, idx := 0x5800, sub := 6 } m s.net ∧
          CtrBut [207, 460, 461] s t ∧ KeepsBut [.net, .ctr, .free, .od, .upd, .pond] s t) ∧
        (x.len < s.rdN (win p O.UPD_OFFSET) + len → ∃ t, exec (.updData p len v) s = .next t ∧
          RefusedWith a 0 0x06090030 Why.VALUE_RANGE 255 s t)) ∧
      ((∀ x, s.upd.session = some x → x.source ≠ pathSource p ∧ pathSource p ∉ x.dups) → ∃ t, exec (.updData p len v) s = .next t ∧
        RefusedWith a 0 0x08000022 Why.UPDATE_NO_SESSION 255 s t) ∧
      (∀ x, s.upd.session = some x → x.source ≠ pathSource p → pathSource p ∈ x.dups → ∃ t m, exec (.updData p len v) s = .next t ∧
        t.net = answered { path := p, idx := 0x5800, sub := 6 } m s.net ∧ CtrBut [460, 461] s t ∧ KeepsBut [.net, .ctr, .free] s t)) ∧
    (s.tail.updQueue = [] ∨ (s.storeServes = false ∧ s.gov.boot ≠ 3) → ∃ t, exec .updateFrame s = .next t ∧ KeepsBut [] s t) ∧
    (∀ g f rest src off, s.storeServes = true → s.tail.updQueue = (g, f) :: rest → off = fieldOf f.data 0 4 →
      src = (if g < 4 then 2 else g - 1) → g < 4 ∨ (off ≠ offerAt ∧ off ≠ answerAt ∧ off ≠ endAt) →
      (∀ x, s.upd.session = some x → x.source = src → off + f.image.length ≤ x.len → off < offerAt →
        ∃ t, exec .updateFrame s = .next t ∧ t.tail.updQueue = rest ∧
          (g < 4 → f.stream = 1 → t.tail = { s.tail with updQueue := rest, grant1 := (s.tail.grant1 + ceilDiv f.len 64) % 65536 }) ∧
          (∀ i, tget (fun _ => 0) t.upd.staging i =
            if off ≤ i ∧ i < off + f.image.length then (f.image[i - off]?).getD 0 % 256 else tget (fun _ => 0) s.upd.staging i) ∧
          t.upd = { s.upd with staging := t.upd.staging, session := some { x with last := s.clk.now } } ∧
          CtrBut [207] s t ∧ KeepsBut [.tail, .upd, .pond, .ctr] s t) ∧
      ((∀ x, s.upd.session = some x → x.source ≠ src ∨ x.len < off + f.image.length ∨ offerAt ≤ off) →
        ∃ t, exec .updateFrame s = .next t ∧ t.tail.updQueue = rest ∧
          (g < 4 → f.stream = 1 → t.tail = { s.tail with updQueue := rest, grant1 := (s.tail.grant1 + ceilDiv f.len 64) % 65536 }) ∧
          (g < 4 → t.rd O.UPD_DISCARDED = min (s.rd O.UPD_DISCARDED + 1) 4294967295) ∧
          (4 ≤ g → t.rd O.UPD_DISCARDED = s.rd O.UPD_DISCARDED) ∧ OdBut [O.UPD_DISCARDED] s t ∧ KeepsBut [.tail, .od] s t)) ∧
    (∀ x, s.upd.session = some x → x.due = none → x.last + sec 60 ≤ s.clk.now → ∃ t, exec .sessionInactivity s = .next t ∧
      t.upd = { s.upd with session := none, staging := [], staged := none, state := 4 } ∧ KeepsBut [.upd] s t) ∧
    ((∀ x, s.upd.session = some x → x.due ≠ none ∨ s.clk.now < x.last + sec 60) →
      ∃ t, exec .sessionInactivity s = .next t ∧ KeepsBut [] s t) ∧
    (∀ (p : Path) (v : Int), Admitted s p O.UPD_ABORT v →
      (∀ x, s.upd.session = some x → x.source = pathSource p → x.due = none → ∃ t, exec (.updAbort p v) s = .next t ∧
        t.upd = { s.upd with session := none, staging := [], staged := none, state := 4 } ∧ Written p O.UPD_ABORT s t ∧
        KeepsBut [.net, .ctr, .free, .upd] s t) ∧
      ((∀ x, s.upd.session = some x → x.source ≠ pathSource p) → ∃ t, exec (.updAbort p v) s = .next t ∧
        RefusedWith (accOf p O.UPD_ABORT v) 0 0x08000022 Why.UPDATE_NO_SESSION 255 s t) ∧
      (∀ x, s.upd.session = some x → x.source = pathSource p → x.due ≠ none → ∃ t, exec (.updAbort p v) s = .next t ∧
        RefusedWith (accOf p O.UPD_ABORT v) 0 0x08000022 Why.UPDATE_BUSY 255 s t))

/-- R456: once its writing is over the bank holds the image and its marker, and CANDIDATE names it; or the session has failed. R457: the
module then offers the image on each enabled side but its source's (here with no frame waiting), and takes the neighbour's answer;
without one for 1 s it offers again after 10 s. R458: it judges an offer as UPDATE_BEGIN and an END as UPDATE_END, and answers, once no
answer waits. Bytes never written read as log entry 39 says. -/
def Obligations.BankAndForwarding : Prop :=
  ∀ s : State,
    (∀ x d, s.upd.session = some x → x.due = some d → d ≤ s.clk.now → s.gov.boot ≠ 3 →
      (s.tail.out = [] → ∃ t, exec (.bankWriteComplete true) s = .next t ∧ t.upd.session = none ∧ t.upd.state = 3 ∧
        t.upd.staged = some (x.len, x.digest) ∧ t.upd.staging = s.upd.staging ∧
        t.upd.banks = tset s.upd.inactive { image := s.upd.staging, marker := some (x.len, x.digest) } s.upd.banks ∧
        t.upd.sel = { s.upd.sel with gen := (s.upd.sel.gen + 1) % 2 ^ 32, candidate := some s.upd.inactive } ∧
        t.upd.selOld = some s.upd.sel ∧
        (3 ≤ x.source → t.sends (x.source + 1) (updFrame answerAt [4, 0, 0, 0])) ∧
        (∀ k, k < 2 → bit (s.rdN O.FORWARD_ENABLE) k = true → x.source ≠ k + 3 →
          (s.tailRuns = true → s.linkActive (4 + k) = true →
            t.fwd k = { state := 2, asked := some s.clk.now } ∧ t.sends (4 + k) (updFrame offerAt (s.stagedBytes 0 256))) ∧
          (s.tailRuns = false ∨ s.linkActive (4 + k) = false → t.fwd k = { state := 1 })) ∧
        (∀ k, k < 2 → bit (s.rdN O.FORWARD_ENABLE) k = false ∨ x.source = k + 3 → t.fwd k = s.fwd k) ∧
        OdBut [O.FRAMES_SENT] s t ∧ KeepsBut [.upd, .tail, .free, .od, .ctr] s t) ∧
      (∃ t, exec (.bankWriteComplete false) s = .next t ∧
        t.upd = { s.upd with session := none, staging := [], staged := none, state := 4 } ∧
        (3 ≤ x.source → t.sends (x.source + 1) (updFrame answerAt [5, 0, 0, 0])) ∧
        OdBut [O.FRAMES_SENT] s t ∧ KeepsBut [.upd, .tail, .free, .od, .ctr] s t)) ∧
    (∀ good, (∀ x, s.upd.session = some x → ∀ d, x.due = some d → s.clk.now < d) →
      ∃ t, exec (.bankWriteComplete good) s = .next t ∧ KeepsBut [] s t) ∧
    (∀ g f rest, s.tail.updQueue = (g, f) :: rest → g = 4 ∨ g = 5 → fieldOf f.data 0 4 = offerAt →
      (s.dev = .sleep ∨ s.outWaits g = true → ∃ t, exec .hedgeOffer s = .next t ∧ KeepsBut [] s t) ∧
      (s.dev ≠ .sleep → s.outWaits g = false → ∃ t, exec .hedgeOffer s = .next t ∧ t.tail.updQueue = rest ∧
        t.sends g (updFrame answerAt [match s.judgeUpdate (fieldOf f.image 16 4) (fieldOf f.image 32 32) with
          | .tooLarge => 5 | .dup => 3 | .busy => 2 | .held => 1 | .opened => 0, 0, 0, 0]) ∧
        (s.judgeUpdate (fieldOf f.image 16 4) (fieldOf f.image 32 32) = .opened → t.upd = { s.upd with
          session := some { source := g - 1, len := fieldOf f.image 16 4, digest := fieldOf f.image 32 32, last := s.clk.now },
          source := g - 1, state := 1, staging := [], staged := none, fwd := [] }) ∧
        (s.judgeUpdate (fieldOf f.image 16 4) (fieldOf f.image 32 32) = .held → t.upd = { s.upd with state := 5 }) ∧
        (∀ x, s.judgeUpdate (fieldOf f.image 16 4) (fieldOf f.image 32 32) = .dup → s.upd.session = some x → t.upd = { s.upd with
          session := some (if x.source = g - 1 then x else { x with dups := (g - 1) :: x.dups.filter (fun d => d != g - 1) }) }) ∧
        (s.judgeUpdate (fieldOf f.image 16 4) (fieldOf f.image 32 32) ∈ [.tooLarge, .busy] → t.upd = s.upd) ∧
        OdBut [O.FRAMES_SENT] s t ∧ KeepsBut [.upd, .tail, .free, .od, .ctr, .pond] s t)) ∧
    (∀ g f rest, s.tail.updQueue = (g, f) :: rest → g = 4 ∨ g = 5 → fieldOf f.data 0 4 = endAt →
      (s.dev = .sleep ∨ s.outWaits g = true → ∃ t, exec .hedgeEnd s = .next t ∧ KeepsBut [] s t) ∧
      (s.dev ≠ .sleep → s.outWaits g = false →
        (∀ x, s.upd.session = some x → x.source = g - 1 → x.due = none →
          (x.len ≤ s.upd.staging.length → s.pond.stagingDamaged = false → s.gov.boot ≠ 3 → ∃ t d, exec .hedgeEnd s = .next t ∧
            t.tail.updQueue = rest ∧ s.clk.now ≤ d ∧ d ≤ s.clk.now + ceilDiv x.len 262144 * ms 100 ∧
            t.upd = { s.upd with
              state := 2, session := some { x with due := some d }, banks := tset s.upd.inactive {} s.upd.banks, selOld := some s.upd.sel,
              sel := { s.upd.sel with
                gen := (s.upd.sel.gen + 1) % 2 ^ 32, candidate := none, rejected := setBit s.upd.sel.rejected s.upd.inactive false } } ∧
            KeepsBut [.upd, .tail, .free] s t) ∧
          (x.len ≤ s.upd.staging.length → s.pond.stagingDamaged = true → ∃ t, exec .hedgeEnd s = .next t ∧ t.tail.updQueue = rest ∧
            t.upd = { s.upd with session := none, staging := [], staged := none, state := 4 } ∧
            t.sends g (updFrame answerAt [5, 0, 0, 0]) ∧ KeepsBut [.upd, .tail, .free, .od, .ctr] s t) ∧
          (s.upd.staging.length < x.len → ∃ t, exec .hedgeEnd s = .next t ∧ t.tail.updQueue = rest ∧
            t.sends g (updFrame answerAt [5, 0, 0, 0]) ∧ KeepsBut [.tail, .free, .od, .ctr] s t)) ∧
        ((∀ x, s.upd.session = some x → x.source ≠ g - 1 ∨ x.due ≠ none) → ∃ t, exec .hedgeEnd s = .next t ∧ t.tail.updQueue = rest ∧
          KeepsBut [.tail] s t))) ∧
    (∀ k f rest, k < 2 → s.tail.updQueue = (4 + k, f) :: rest → fieldOf f.data 0 4 = answerAt →
      ((s.fwd k).state = 2 ∨ (s.fwd k).state = 3 → ∃ t, exec .hedgeAnswer s = .next t ∧ t.tail.updQueue = rest ∧
        ((s.fwd k).state = 2 → fieldOf f.image 0 1 = 0 → (t.fwd k).state = 3 ∧ (t.fwd k).failed = (s.fwd k).failed) ∧
        (fieldOf f.image 0 1 = 1 ∨ fieldOf f.image 0 1 = 3 → t.fwd k = { state := 5 }) ∧
        (fieldOf f.image 0 1 = 2 → t.fwd k = { s.fwd k with asked := none, retryAt := some (s.clk.now + sec 10) }) ∧
        (fieldOf f.image 0 1 = 4 → t.fwd k = { state := 4 }) ∧
        (fieldOf f.image 0 1 = 5 → t.fwd k = if 2 ≤ (s.fwd k).failed then { state := 6, failed := (s.fwd k).failed + 1 }
          else { s.fwd k with asked := none, retryAt := some (s.clk.now + sec 10), failed := (s.fwd k).failed + 1 }) ∧
        (∀ j, j ≠ k → t.fwd j = s.fwd j) ∧ t.upd = { s.upd with fwd := t.upd.fwd } ∧ KeepsBut [.upd, .tail, .free, .od, .ctr] s t) ∧
      ((s.fwd k).state ≠ 2 → (s.fwd k).state ≠ 3 → ∃ t, exec .hedgeAnswer s = .next t ∧ t.tail.updQueue = rest ∧
        KeepsBut [.tail] s t)) ∧
    (∀ k, k < 2 →
      (∀ since, (s.fwd k).asked = some since → since + sec 1 ≤ s.clk.now → ∃ t, exec (.forwardRetry k) s = .next t ∧
        t.upd = { s.upd with fwd := tset k { s.fwd k with asked := none, retryAt := some (s.clk.now + sec 10) } s.upd.fwd } ∧
        KeepsBut [.upd] s t) ∧
      (∀ at_, (s.fwd k).asked = none → (s.fwd k).retryAt = some at_ → at_ ≤ s.clk.now →
        (s.tailRuns = true → s.linkActive (4 + k) = true → s.outWaits (4 + k) = false →
          ∃ t, exec (.forwardRetry k) s = .next t ∧
            t.upd = { s.upd with fwd := tset k { state := 2, asked := some s.clk.now, failed := (s.fwd k).failed } s.upd.fwd } ∧
            t.sends (4 + k) (updFrame offerAt (s.stagedBytes 0 256)) ∧ KeepsBut [.upd, .tail, .free, .od, .ctr] s t) ∧
        (s.tailRuns = false ∨ s.linkActive (4 + k) = false ∨ s.outWaits (4 + k) = true → ∃ t, exec (.forwardRetry k) s = .next t ∧
          t.upd = { s.upd with fwd := tset k { state := 1, failed := (s.fwd k).failed } s.upd.fwd } ∧ KeepsBut [.upd] s t)) ∧
      ((∀ since, (s.fwd k).asked = some since → s.clk.now < since + sec 1) →
        ((s.fwd k).asked = none → ∀ at_, (s.fwd k).retryAt = some at_ → s.clk.now < at_) →
        ∃ t, exec (.forwardRetry k) s = .next t ∧ KeepsBut [] s t))

/-- R462: CONFIRM ends the trial; without a trial it is refused; 600 s without it, the module takes the other bank and boots. R470: the
oldest entry of the trace queue goes into its row of the ring, at most one in 62.5 ns, and R475: to the trace port while that is on and
takes the event, in order. Rows and classes of the trace are as log entry 12 reads them. -/
def Obligations.TrialAndTrace : Prop :=
  ∀ s : State,
    (∀ (p : Path) (v : Int), Admitted s p O.CONFIRM v →
      (s.upd.sel.trial = true → ∃ t, exec (.confirm p v) s = .next t ∧
        t.upd = { s.upd with sel := { s.upd.sel with gen := (s.upd.sel.gen + 1) % 2 ^ 32, trial := false, boots := 0 }, selOld := some s.upd.sel,
                             trialEnd := none, outcome := 5 } ∧ Written p O.CONFIRM s t ∧ KeepsBut [.net, .ctr, .free, .upd] s t) ∧
      (s.upd.sel.trial = false → ∃ t, exec (.confirm p v) s = .next t ∧
        RefusedWith (accOf p O.CONFIRM v) 0 0x08000022 Why.UPDATE_NOT_PENDING 255 s t)) ∧
    (∀ due, s.upd.trialEnd = some due → due ≤ s.clk.now → s.gov.off = false → ∃ t, exec .trialTimeout s = .next t ∧
      t.upd.sel = { s.upd.sel with
        gen := (s.upd.sel.gen + 1) % 2 ^ 32, active := 1 - s.upd.sel.active, trial := false, boots := 0,
        rejected := setBit s.upd.sel.rejected s.upd.sel.active true } ∧ t.upd.selOld = some s.upd.sel ∧
      t.upd.outcome = 3 ∧ t.dev = .boot ∧ t.gov.boot = 1 ∧ t.net.serving = false ∧ t.clk.now = s.clk.now) ∧
    ((∀ due, s.upd.trialEnd = some due → s.clk.now < due) ∨ s.gov.off = true → ∃ t, exec .trialTimeout s = .next t ∧ KeepsBut [] s t) ∧
    (∀ e rest, s.trace.queue = e :: rest → s.storeServes = true → (∀ w, s.trace.wroteAt = some w → w + 5000 ≤ s.clk.now) →
      ∃ t, exec .traceWrite s = .next t ∧ rest <+: t.trace.queue ∧
        t.trace.bare = { s.trace.bare with
          ring := tset (e.seq % 65536) e s.trace.ring, written := s.trace.written + 1, wroteAt := some s.clk.now,
          lost := s.trace.lost.filter (fun r => r != e.seq % 65536),
          port := if s.portOn = true ∧ bit (s.rdN O.TRC_MASK) e.event = true then s.trace.port ++ [e] else s.trace.port } ∧
        t.place 466 = (s.place 466 + 1) % 2 ^ 64 ∧ (s.portOn = false → t.place 468 = (s.place 468 + 1) % 2 ^ 64) ∧
        CtrBut [207, 466, 468] s t ∧ KeepsBut [.trace, .pond, .ctr] s t) ∧
    (s.trace.queue = [] ∨ s.storeServes = false ∨ (∃ w, s.trace.wroteAt = some w ∧ s.clk.now < w + 5000) →
      ∃ t, exec .traceWrite s = .next t ∧ KeepsBut [] s t) ∧
    (∀ e rest, s.trace.port = e :: rest → s.portOn = true → ∃ t, exec .tracePortSend s = .next t ∧
      t.trace.bare = { s.trace.bare with port := rest, portLast := some e } ∧ KeepsBut [.trace] s t) ∧
    (s.trace.port = [] ∨ s.portOn = false → ∃ t, exec .tracePortSend s = .next t ∧ KeepsBut [] s t)
end

