-- ==== Sys2Proof/Laws/State.lean ====
section
/-!
SUPPORT. What each setter of the shared operations leaves alone: one lemma per field, true by unfolding.
-/

namespace Sys2Proof.Machine

/-! ### wr -/

@[simp] theorem State.wr_pending (k : Nat) (v : Int) (s : State) : (s.wr k v).pending = s.pending := rfl
@[simp] theorem State.wr_clk (k : Nat) (v : Int) (s : State) : (s.wr k v).clk = s.clk := rfl
@[simp] theorem State.wr_dev (k : Nat) (v : Int) (s : State) : (s.wr k v).dev = s.dev := rfl
@[simp] theorem State.wr_acq (k : Nat) (v : Int) (s : State) : (s.wr k v).acq = s.acq := rfl
@[simp] theorem State.wr_seq (k : Nat) (v : Int) (s : State) : (s.wr k v).seq = s.seq := rfl
@[simp] theorem State.wr_shown (k : Nat) (v : Int) (s : State) : (s.wr k v).shown = s.shown := rfl
@[simp] theorem State.wr_ctr (k : Nat) (v : Int) (s : State) : (s.wr k v).ctr = s.ctr := rfl
@[simp] theorem State.wr_free (k : Nat) (v : Int) (s : State) : (s.wr k v).free = s.free := rfl
@[simp] theorem State.wr_fault (k : Nat) (v : Int) (s : State) : (s.wr k v).fault = s.fault := rfl
@[simp] theorem State.wr_trace (k : Nat) (v : Int) (s : State) : (s.wr k v).trace = s.trace := rfl
@[simp] theorem State.wr_net (k : Nat) (v : Int) (s : State) : (s.wr k v).net = s.net := rfl
@[simp] theorem State.wr_chans (k : Nat) (v : Int) (s : State) : (s.wr k v).chans = s.chans := rfl
@[simp] theorem State.wr_quads (k : Nat) (v : Int) (s : State) : (s.wr k v).quads = s.quads := rfl
@[simp] theorem State.wr_origin (k : Nat) (v : Int) (s : State) : (s.wr k v).origin = s.origin := rfl
@[simp] theorem State.wr_sluice (k : Nat) (v : Int) (s : State) : (s.wr k v).sluice = s.sluice := rfl
@[simp] theorem State.wr_plans (k : Nat) (v : Int) (s : State) : (s.wr k v).plans = s.plans := rfl
@[simp] theorem State.wr_dir (k : Nat) (v : Int) (s : State) : (s.wr k v).dir = s.dir := rfl
@[simp] theorem State.wr_pond (k : Nat) (v : Int) (s : State) : (s.wr k v).pond = s.pond := rfl
@[simp] theorem State.wr_fan (k : Nat) (v : Int) (s : State) : (s.wr k v).fan = s.fan := rfl
@[simp] theorem State.wr_dress (k : Nat) (v : Int) (s : State) : (s.wr k v).dress = s.dress := rfl
@[simp] theorem State.wr_gov (k : Nat) (v : Int) (s : State) : (s.wr k v).gov = s.gov := rfl
@[simp] theorem State.wr_pins (k : Nat) (v : Int) (s : State) : (s.wr k v).pins = s.pins := rfl
@[simp] theorem State.wr_farm (k : Nat) (v : Int) (s : State) : (s.wr k v).farm = s.farm := rfl
@[simp] theorem State.wr_layer (k : Nat) (v : Int) (s : State) : (s.wr k v).layer = s.layer := rfl
@[simp] theorem State.wr_timer (k : Nat) (v : Int) (s : State) : (s.wr k v).timer = s.timer := rfl
@[simp] theorem State.wr_mon (k : Nat) (v : Int) (s : State) : (s.wr k v).mon = s.mon := rfl
@[simp] theorem State.wr_tail (k : Nat) (v : Int) (s : State) : (s.wr k v).tail = s.tail := rfl
@[simp] theorem State.wr_upd (k : Nat) (v : Int) (s : State) : (s.wr k v).upd = s.upd := rfl

/-! ### bumpBy -/

@[simp] theorem State.bumpBy_pending (n k : Nat) (s : State) : (s.bumpBy n k).pending = s.pending := rfl
@[simp] theorem State.bumpBy_clk (n k : Nat) (s : State) : (s.bumpBy n k).clk = s.clk := rfl
@[simp] theorem State.bumpBy_dev (n k : Nat) (s : State) : (s.bumpBy n k).dev = s.dev := rfl
@[simp] theorem State.bumpBy_acq (n k : Nat) (s : State) : (s.bumpBy n k).acq = s.acq := rfl
@[simp] theorem State.bumpBy_seq (n k : Nat) (s : State) : (s.bumpBy n k).seq = s.seq := rfl
@[simp] theorem State.bumpBy_shown (n k : Nat) (s : State) : (s.bumpBy n k).shown = s.shown := rfl
@[simp] theorem State.bumpBy_od (n k : Nat) (s : State) : (s.bumpBy n k).od = s.od := rfl
@[simp] theorem State.bumpBy_free (n k : Nat) (s : State) : (s.bumpBy n k).free = s.free := rfl
@[simp] theorem State.bumpBy_fault (n k : Nat) (s : State) : (s.bumpBy n k).fault = s.fault := rfl
@[simp] theorem State.bumpBy_trace (n k : Nat) (s : State) : (s.bumpBy n k).trace = s.trace := rfl
@[simp] theorem State.bumpBy_net (n k : Nat) (s : State) : (s.bumpBy n k).net = s.net := rfl
@[simp] theorem State.bumpBy_chans (n k : Nat) (s : State) : (s.bumpBy n k).chans = s.chans := rfl
@[simp] theorem State.bumpBy_quads (n k : Nat) (s : State) : (s.bumpBy n k).quads = s.quads := rfl
@[simp] theorem State.bumpBy_origin (n k : Nat) (s : State) : (s.bumpBy n k).origin = s.origin := rfl
@[simp] theorem State.bumpBy_sluice (n k : Nat) (s : State) : (s.bumpBy n k).sluice = s.sluice := rfl
@[simp] theorem State.bumpBy_plans (n k : Nat) (s : State) : (s.bumpBy n k).plans = s.plans := rfl
@[simp] theorem State.bumpBy_dir (n k : Nat) (s : State) : (s.bumpBy n k).dir = s.dir := rfl
@[simp] theorem State.bumpBy_pond (n k : Nat) (s : State) : (s.bumpBy n k).pond = s.pond := rfl
@[simp] theorem State.bumpBy_fan (n k : Nat) (s : State) : (s.bumpBy n k).fan = s.fan := rfl
@[simp] theorem State.bumpBy_dress (n k : Nat) (s : State) : (s.bumpBy n k).dress = s.dress := rfl
@[simp] theorem State.bumpBy_gov (n k : Nat) (s : State) : (s.bumpBy n k).gov = s.gov := rfl
@[simp] theorem State.bumpBy_pins (n k : Nat) (s : State) : (s.bumpBy n k).pins = s.pins := rfl
@[simp] theorem State.bumpBy_farm (n k : Nat) (s : State) : (s.bumpBy n k).farm = s.farm := rfl
@[simp] theorem State.bumpBy_layer (n k : Nat) (s : State) : (s.bumpBy n k).layer = s.layer := rfl
@[simp] theorem State.bumpBy_timer (n k : Nat) (s : State) : (s.bumpBy n k).timer = s.timer := rfl
@[simp] theorem State.bumpBy_mon (n k : Nat) (s : State) : (s.bumpBy n k).mon = s.mon := rfl
@[simp] theorem State.bumpBy_tail (n k : Nat) (s : State) : (s.bumpBy n k).tail = s.tail := rfl
@[simp] theorem State.bumpBy_upd (n k : Nat) (s : State) : (s.bumpBy n k).upd = s.upd := rfl

/-! ### bump -/

@[simp] theorem State.bump_pending (n : Nat) (s : State) : (s.bump n).pending = s.pending := rfl
@[simp] theorem State.bump_clk (n : Nat) (s : State) : (s.bump n).clk = s.clk := rfl
@[simp] theorem State.bump_dev (n : Nat) (s : State) : (s.bump n).dev = s.dev := rfl
@[simp] theorem State.bump_acq (n : Nat) (s : State) : (s.bump n).acq = s.acq := rfl
@[simp] theorem State.bump_seq (n : Nat) (s : State) : (s.bump n).seq = s.seq := rfl
@[simp] theorem State.bump_shown (n : Nat) (s : State) : (s.bump n).shown = s.shown := rfl
@[simp] theorem State.bump_od (n : Nat) (s : State) : (s.bump n).od = s.od := rfl
@[simp] theorem State.bump_free (n : Nat) (s : State) : (s.bump n).free = s.free := rfl
@[simp] theorem State.bump_fault (n : Nat) (s : State) : (s.bump n).fault = s.fault := rfl
@[simp] theorem State.bump_trace (n : Nat) (s : State) : (s.bump n).trace = s.trace := rfl
@[simp] theorem State.bump_net (n : Nat) (s : State) : (s.bump n).net = s.net := rfl
@[simp] theorem State.bump_chans (n : Nat) (s : State) : (s.bump n).chans = s.chans := rfl
@[simp] theorem State.bump_quads (n : Nat) (s : State) : (s.bump n).quads = s.quads := rfl
@[simp] theorem State.bump_origin (n : Nat) (s : State) : (s.bump n).origin = s.origin := rfl
@[simp] theorem State.bump_sluice (n : Nat) (s : State) : (s.bump n).sluice = s.sluice := rfl
@[simp] theorem State.bump_plans (n : Nat) (s : State) : (s.bump n).plans = s.plans := rfl
@[simp] theorem State.bump_dir (n : Nat) (s : State) : (s.bump n).dir = s.dir := rfl
@[simp] theorem State.bump_pond (n : Nat) (s : State) : (s.bump n).pond = s.pond := rfl
@[simp] theorem State.bump_fan (n : Nat) (s : State) : (s.bump n).fan = s.fan := rfl
@[simp] theorem State.bump_dress (n : Nat) (s : State) : (s.bump n).dress = s.dress := rfl
@[simp] theorem State.bump_gov (n : Nat) (s : State) : (s.bump n).gov = s.gov := rfl
@[simp] theorem State.bump_pins (n : Nat) (s : State) : (s.bump n).pins = s.pins := rfl
@[simp] theorem State.bump_farm (n : Nat) (s : State) : (s.bump n).farm = s.farm := rfl
@[simp] theorem State.bump_layer (n : Nat) (s : State) : (s.bump n).layer = s.layer := rfl
@[simp] theorem State.bump_timer (n : Nat) (s : State) : (s.bump n).timer = s.timer := rfl
@[simp] theorem State.bump_mon (n : Nat) (s : State) : (s.bump n).mon = s.mon := rfl
@[simp] theorem State.bump_tail (n : Nat) (s : State) : (s.bump n).tail = s.tail := rfl
@[simp] theorem State.bump_upd (n : Nat) (s : State) : (s.bump n).upd = s.upd := rfl

/-! ### satBy -/

@[simp] theorem State.satBy_pending (k n : Nat) (s : State) : (s.satBy k n).pending = s.pending := rfl
@[simp] theorem State.satBy_clk (k n : Nat) (s : State) : (s.satBy k n).clk = s.clk := rfl
@[simp] theorem State.satBy_dev (k n : Nat) (s : State) : (s.satBy k n).dev = s.dev := rfl
@[simp] theorem State.satBy_acq (k n : Nat) (s : State) : (s.satBy k n).acq = s.acq := rfl
@[simp] theorem State.satBy_seq (k n : Nat) (s : State) : (s.satBy k n).seq = s.seq := rfl
@[simp] theorem State.satBy_shown (k n : Nat) (s : State) : (s.satBy k n).shown = s.shown := rfl
@[simp] theorem State.satBy_ctr (k n : Nat) (s : State) : (s.satBy k n).ctr = s.ctr := rfl
@[simp] theorem State.satBy_free (k n : Nat) (s : State) : (s.satBy k n).free = s.free := rfl
@[simp] theorem State.satBy_fault (k n : Nat) (s : State) : (s.satBy k n).fault = s.fault := rfl
@[simp] theorem State.satBy_trace (k n : Nat) (s : State) : (s.satBy k n).trace = s.trace := rfl
@[simp] theorem State.satBy_net (k n : Nat) (s : State) : (s.satBy k n).net = s.net := rfl
@[simp] theorem State.satBy_chans (k n : Nat) (s : State) : (s.satBy k n).chans = s.chans := rfl
@[simp] theorem State.satBy_quads (k n : Nat) (s : State) : (s.satBy k n).quads = s.quads := rfl
@[simp] theorem State.satBy_origin (k n : Nat) (s : State) : (s.satBy k n).origin = s.origin := rfl
@[simp] theorem State.satBy_sluice (k n : Nat) (s : State) : (s.satBy k n).sluice = s.sluice := rfl
@[simp] theorem State.satBy_plans (k n : Nat) (s : State) : (s.satBy k n).plans = s.plans := rfl
@[simp] theorem State.satBy_dir (k n : Nat) (s : State) : (s.satBy k n).dir = s.dir := rfl
@[simp] theorem State.satBy_pond (k n : Nat) (s : State) : (s.satBy k n).pond = s.pond := rfl
@[simp] theorem State.satBy_fan (k n : Nat) (s : State) : (s.satBy k n).fan = s.fan := rfl
@[simp] theorem State.satBy_dress (k n : Nat) (s : State) : (s.satBy k n).dress = s.dress := rfl
@[simp] theorem State.satBy_gov (k n : Nat) (s : State) : (s.satBy k n).gov = s.gov := rfl
@[simp] theorem State.satBy_pins (k n : Nat) (s : State) : (s.satBy k n).pins = s.pins := rfl
@[simp] theorem State.satBy_farm (k n : Nat) (s : State) : (s.satBy k n).farm = s.farm := rfl
@[simp] theorem State.satBy_layer (k n : Nat) (s : State) : (s.satBy k n).layer = s.layer := rfl
@[simp] theorem State.satBy_timer (k n : Nat) (s : State) : (s.satBy k n).timer = s.timer := rfl
@[simp] theorem State.satBy_mon (k n : Nat) (s : State) : (s.satBy k n).mon = s.mon := rfl
@[simp] theorem State.satBy_tail (k n : Nat) (s : State) : (s.satBy k n).tail = s.tail := rfl
@[simp] theorem State.satBy_upd (k n : Nat) (s : State) : (s.satBy k n).upd = s.upd := rfl

/-! ### sat -/

@[simp] theorem State.sat_pending (k : Nat) (s : State) : (s.sat k).pending = s.pending := rfl
@[simp] theorem State.sat_clk (k : Nat) (s : State) : (s.sat k).clk = s.clk := rfl
@[simp] theorem State.sat_dev (k : Nat) (s : State) : (s.sat k).dev = s.dev := rfl
@[simp] theorem State.sat_acq (k : Nat) (s : State) : (s.sat k).acq = s.acq := rfl
@[simp] theorem State.sat_seq (k : Nat) (s : State) : (s.sat k).seq = s.seq := rfl
@[simp] theorem State.sat_shown (k : Nat) (s : State) : (s.sat k).shown = s.shown := rfl
@[simp] theorem State.sat_ctr (k : Nat) (s : State) : (s.sat k).ctr = s.ctr := rfl
@[simp] theorem State.sat_free (k : Nat) (s : State) : (s.sat k).free = s.free := rfl
@[simp] theorem State.sat_fault (k : Nat) (s : State) : (s.sat k).fault = s.fault := rfl
@[simp] theorem State.sat_trace (k : Nat) (s : State) : (s.sat k).trace = s.trace := rfl
@[simp] theorem State.sat_net (k : Nat) (s : State) : (s.sat k).net = s.net := rfl
@[simp] theorem State.sat_chans (k : Nat) (s : State) : (s.sat k).chans = s.chans := rfl
@[simp] theorem State.sat_quads (k : Nat) (s : State) : (s.sat k).quads = s.quads := rfl
@[simp] theorem State.sat_origin (k : Nat) (s : State) : (s.sat k).origin = s.origin := rfl
@[simp] theorem State.sat_sluice (k : Nat) (s : State) : (s.sat k).sluice = s.sluice := rfl
@[simp] theorem State.sat_plans (k : Nat) (s : State) : (s.sat k).plans = s.plans := rfl
@[simp] theorem State.sat_dir (k : Nat) (s : State) : (s.sat k).dir = s.dir := rfl
@[simp] theorem State.sat_pond (k : Nat) (s : State) : (s.sat k).pond = s.pond := rfl
@[simp] theorem State.sat_fan (k : Nat) (s : State) : (s.sat k).fan = s.fan := rfl
@[simp] theorem State.sat_dress (k : Nat) (s : State) : (s.sat k).dress = s.dress := rfl
@[simp] theorem State.sat_gov (k : Nat) (s : State) : (s.sat k).gov = s.gov := rfl
@[simp] theorem State.sat_pins (k : Nat) (s : State) : (s.sat k).pins = s.pins := rfl
@[simp] theorem State.sat_farm (k : Nat) (s : State) : (s.sat k).farm = s.farm := rfl
@[simp] theorem State.sat_layer (k : Nat) (s : State) : (s.sat k).layer = s.layer := rfl
@[simp] theorem State.sat_timer (k : Nat) (s : State) : (s.sat k).timer = s.timer := rfl
@[simp] theorem State.sat_mon (k : Nat) (s : State) : (s.sat k).mon = s.mon := rfl
@[simp] theorem State.sat_tail (k : Nat) (s : State) : (s.sat k).tail = s.tail := rfl
@[simp] theorem State.sat_upd (k : Nat) (s : State) : (s.sat k).upd = s.upd := rfl

/-! ### adv -/

@[simp] theorem State.adv_pending (s : State) : (s.adv).pending = s.pending := rfl
@[simp] theorem State.adv_clk (s : State) : (s.adv).clk = s.clk := rfl
@[simp] theorem State.adv_dev (s : State) : (s.adv).dev = s.dev := rfl
@[simp] theorem State.adv_acq (s : State) : (s.adv).acq = s.acq := rfl
@[simp] theorem State.adv_seq (s : State) : (s.adv).seq = s.seq := rfl
@[simp] theorem State.adv_shown (s : State) : (s.adv).shown = s.shown := rfl
@[simp] theorem State.adv_od (s : State) : (s.adv).od = s.od := rfl
@[simp] theorem State.adv_ctr (s : State) : (s.adv).ctr = s.ctr := rfl
@[simp] theorem State.adv_fault (s : State) : (s.adv).fault = s.fault := rfl
@[simp] theorem State.adv_trace (s : State) : (s.adv).trace = s.trace := rfl
@[simp] theorem State.adv_net (s : State) : (s.adv).net = s.net := rfl
@[simp] theorem State.adv_chans (s : State) : (s.adv).chans = s.chans := rfl
@[simp] theorem State.adv_quads (s : State) : (s.adv).quads = s.quads := rfl
@[simp] theorem State.adv_origin (s : State) : (s.adv).origin = s.origin := rfl
@[simp] theorem State.adv_sluice (s : State) : (s.adv).sluice = s.sluice := rfl
@[simp] theorem State.adv_plans (s : State) : (s.adv).plans = s.plans := rfl
@[simp] theorem State.adv_dir (s : State) : (s.adv).dir = s.dir := rfl
@[simp] theorem State.adv_pond (s : State) : (s.adv).pond = s.pond := rfl
@[simp] theorem State.adv_fan (s : State) : (s.adv).fan = s.fan := rfl
@[simp] theorem State.adv_dress (s : State) : (s.adv).dress = s.dress := rfl
@[simp] theorem State.adv_gov (s : State) : (s.adv).gov = s.gov := rfl
@[simp] theorem State.adv_pins (s : State) : (s.adv).pins = s.pins := rfl
@[simp] theorem State.adv_farm (s : State) : (s.adv).farm = s.farm := rfl
@[simp] theorem State.adv_layer (s : State) : (s.adv).layer = s.layer := rfl
@[simp] theorem State.adv_timer (s : State) : (s.adv).timer = s.timer := rfl
@[simp] theorem State.adv_mon (s : State) : (s.adv).mon = s.mon := rfl
@[simp] theorem State.adv_tail (s : State) : (s.adv).tail = s.tail := rfl
@[simp] theorem State.adv_upd (s : State) : (s.adv).upd = s.upd := rfl

/-! ### setChan -/

@[simp] theorem State.setChan_pending (c : Nat) (x : Chan) (s : State) : (s.setChan c x).pending = s.pending := rfl
@[simp] theorem State.setChan_clk (c : Nat) (x : Chan) (s : State) : (s.setChan c x).clk = s.clk := rfl
@[simp] theorem State.setChan_dev (c : Nat) (x : Chan) (s : State) : (s.setChan c x).dev = s.dev := rfl
@[simp] theorem State.setChan_acq (c : Nat) (x : Chan) (s : State) : (s.setChan c x).acq = s.acq := rfl
@[simp] theorem State.setChan_seq (c : Nat) (x : Chan) (s : State) : (s.setChan c x).seq = s.seq := rfl
@[simp] theorem State.setChan_shown (c : Nat) (x : Chan) (s : State) : (s.setChan c x).shown = s.shown := rfl
@[simp] theorem State.setChan_od (c : Nat) (x : Chan) (s : State) : (s.setChan c x).od = s.od := rfl
@[simp] theorem State.setChan_ctr (c : Nat) (x : Chan) (s : State) : (s.setChan c x).ctr = s.ctr := rfl
@[simp] theorem State.setChan_free (c : Nat) (x : Chan) (s : State) : (s.setChan c x).free = s.free := rfl
@[simp] theorem State.setChan_fault (c : Nat) (x : Chan) (s : State) : (s.setChan c x).fault = s.fault := rfl
@[simp] theorem State.setChan_trace (c : Nat) (x : Chan) (s : State) : (s.setChan c x).trace = s.trace := rfl
@[simp] theorem State.setChan_net (c : Nat) (x : Chan) (s : State) : (s.setChan c x).net = s.net := rfl
@[simp] theorem State.setChan_quads (c : Nat) (x : Chan) (s : State) : (s.setChan c x).quads = s.quads := rfl
@[simp] theorem State.setChan_origin (c : Nat) (x : Chan) (s : State) : (s.setChan c x).origin = s.origin := rfl
@[simp] theorem State.setChan_sluice (c : Nat) (x : Chan) (s : State) : (s.setChan c x).sluice = s.sluice := rfl
@[simp] theorem State.setChan_plans (c : Nat) (x : Chan) (s : State) : (s.setChan c x).plans = s.plans := rfl
@[simp] theorem State.setChan_dir (c : Nat) (x : Chan) (s : State) : (s.setChan c x).dir = s.dir := rfl
@[simp] theorem State.setChan_pond (c : Nat) (x : Chan) (s : State) : (s.setChan c x).pond = s.pond := rfl
@[simp] theorem State.setChan_fan (c : Nat) (x : Chan) (s : State) : (s.setChan c x).fan = s.fan := rfl
@[simp] theorem State.setChan_dress (c : Nat) (x : Chan) (s : State) : (s.setChan c x).dress = s.dress := rfl
@[simp] theorem State.setChan_gov (c : Nat) (x : Chan) (s : State) : (s.setChan c x).gov = s.gov := rfl
@[simp] theorem State.setChan_pins (c : Nat) (x : Chan) (s : State) : (s.setChan c x).pins = s.pins := rfl
@[simp] theorem State.setChan_farm (c : Nat) (x : Chan) (s : State) : (s.setChan c x).farm = s.farm := rfl
@[simp] theorem State.setChan_layer (c : Nat) (x : Chan) (s : State) : (s.setChan c x).layer = s.layer := rfl
@[simp] theorem State.setChan_timer (c : Nat) (x : Chan) (s : State) : (s.setChan c x).timer = s.timer := rfl
@[simp] theorem State.setChan_mon (c : Nat) (x : Chan) (s : State) : (s.setChan c x).mon = s.mon := rfl
@[simp] theorem State.setChan_tail (c : Nat) (x : Chan) (s : State) : (s.setChan c x).tail = s.tail := rfl
@[simp] theorem State.setChan_upd (c : Nat) (x : Chan) (s : State) : (s.setChan c x).upd = s.upd := rfl

/-! ### modChan -/

@[simp] theorem State.modChan_pending (c : Nat) (f : Chan → Chan) (s : State) : (s.modChan c f).pending = s.pending := rfl
@[simp] theorem State.modChan_clk (c : Nat) (f : Chan → Chan) (s : State) : (s.modChan c f).clk = s.clk := rfl
@[simp] theorem State.modChan_dev (c : Nat) (f : Chan → Chan) (s : State) : (s.modChan c f).dev = s.dev := rfl
@[simp] theorem State.modChan_acq (c : Nat) (f : Chan → Chan) (s : State) : (s.modChan c f).acq = s.acq := rfl
@[simp] theorem State.modChan_seq (c : Nat) (f : Chan → Chan) (s : State) : (s.modChan c f).seq = s.seq := rfl
@[simp] theorem State.modChan_shown (c : Nat) (f : Chan → Chan) (s : State) : (s.modChan c f).shown = s.shown := rfl
@[simp] theorem State.modChan_od (c : Nat) (f : Chan → Chan) (s : State) : (s.modChan c f).od = s.od := rfl
@[simp] theorem State.modChan_ctr (c : Nat) (f : Chan → Chan) (s : State) : (s.modChan c f).ctr = s.ctr := rfl
@[simp] theorem State.modChan_free (c : Nat) (f : Chan → Chan) (s : State) : (s.modChan c f).free = s.free := rfl
@[simp] theorem State.modChan_fault (c : Nat) (f : Chan → Chan) (s : State) : (s.modChan c f).fault = s.fault := rfl
@[simp] theorem State.modChan_trace (c : Nat) (f : Chan → Chan) (s : State) : (s.modChan c f).trace = s.trace := rfl
@[simp] theorem State.modChan_net (c : Nat) (f : Chan → Chan) (s : State) : (s.modChan c f).net = s.net := rfl
@[simp] theorem State.modChan_quads (c : Nat) (f : Chan → Chan) (s : State) : (s.modChan c f).quads = s.quads := rfl
@[simp] theorem State.modChan_origin (c : Nat) (f : Chan → Chan) (s : State) : (s.modChan c f).origin = s.origin := rfl
@[simp] theorem State.modChan_sluice (c : Nat) (f : Chan → Chan) (s : State) : (s.modChan c f).sluice = s.sluice := rfl
@[simp] theorem State.modChan_plans (c : Nat) (f : Chan → Chan) (s : State) : (s.modChan c f).plans = s.plans := rfl
@[simp] theorem State.modChan_dir (c : Nat) (f : Chan → Chan) (s : State) : (s.modChan c f).dir = s.dir := rfl
@[simp] theorem State.modChan_pond (c : Nat) (f : Chan → Chan) (s : State) : (s.modChan c f).pond = s.pond := rfl
@[simp] theorem State.modChan_fan (c : Nat) (f : Chan → Chan) (s : State) : (s.modChan c f).fan = s.fan := rfl
@[simp] theorem State.modChan_dress (c : Nat) (f : Chan → Chan) (s : State) : (s.modChan c f).dress = s.dress := rfl
@[simp] theorem State.modChan_gov (c : Nat) (f : Chan → Chan) (s : State) : (s.modChan c f).gov = s.gov := rfl
@[simp] theorem State.modChan_pins (c : Nat) (f : Chan → Chan) (s : State) : (s.modChan c f).pins = s.pins := rfl
@[simp] theorem State.modChan_farm (c : Nat) (f : Chan → Chan) (s : State) : (s.modChan c f).farm = s.farm := rfl
@[simp] theorem State.modChan_layer (c : Nat) (f : Chan → Chan) (s : State) : (s.modChan c f).layer = s.layer := rfl
@[simp] theorem State.modChan_timer (c : Nat) (f : Chan → Chan) (s : State) : (s.modChan c f).timer = s.timer := rfl
@[simp] theorem State.modChan_mon (c : Nat) (f : Chan → Chan) (s : State) : (s.modChan c f).mon = s.mon := rfl
@[simp] theorem State.modChan_tail (c : Nat) (f : Chan → Chan) (s : State) : (s.modChan c f).tail = s.tail := rfl
@[simp] theorem State.modChan_upd (c : Nat) (f : Chan → Chan) (s : State) : (s.modChan c f).upd = s.upd := rfl

/-! ### setQuad -/

@[simp] theorem State.setQuad_pending (u : Nat) (x : Quad) (s : State) : (s.setQuad u x).pending = s.pending := rfl
@[simp] theorem State.setQuad_clk (u : Nat) (x : Quad) (s : State) : (s.setQuad u x).clk = s.clk := rfl
@[simp] theorem State.setQuad_dev (u : Nat) (x : Quad) (s : State) : (s.setQuad u x).dev = s.dev := rfl
@[simp] theorem State.setQuad_acq (u : Nat) (x : Quad) (s : State) : (s.setQuad u x).acq = s.acq := rfl
@[simp] theorem State.setQuad_seq (u : Nat) (x : Quad) (s : State) : (s.setQuad u x).seq = s.seq := rfl
@[simp] theorem State.setQuad_shown (u : Nat) (x : Quad) (s : State) : (s.setQuad u x).shown = s.shown := rfl
@[simp] theorem State.setQuad_od (u : Nat) (x : Quad) (s : State) : (s.setQuad u x).od = s.od := rfl
@[simp] theorem State.setQuad_ctr (u : Nat) (x : Quad) (s : State) : (s.setQuad u x).ctr = s.ctr := rfl
@[simp] theorem State.setQuad_free (u : Nat) (x : Quad) (s : State) : (s.setQuad u x).free = s.free := rfl
@[simp] theorem State.setQuad_fault (u : Nat) (x : Quad) (s : State) : (s.setQuad u x).fault = s.fault := rfl
@[simp] theorem State.setQuad_trace (u : Nat) (x : Quad) (s : State) : (s.setQuad u x).trace = s.trace := rfl
@[simp] theorem State.setQuad_net (u : Nat) (x : Quad) (s : State) : (s.setQuad u x).net = s.net := rfl
@[simp] theorem State.setQuad_chans (u : Nat) (x : Quad) (s : State) : (s.setQuad u x).chans = s.chans := rfl
@[simp] theorem State.setQuad_origin (u : Nat) (x : Quad) (s : State) : (s.setQuad u x).origin = s.origin := rfl
@[simp] theorem State.setQuad_sluice (u : Nat) (x : Quad) (s : State) : (s.setQuad u x).sluice = s.sluice := rfl
@[simp] theorem State.setQuad_plans (u : Nat) (x : Quad) (s : State) : (s.setQuad u x).plans = s.plans := rfl
@[simp] theorem State.setQuad_dir (u : Nat) (x : Quad) (s : State) : (s.setQuad u x).dir = s.dir := rfl
@[simp] theorem State.setQuad_pond (u : Nat) (x : Quad) (s : State) : (s.setQuad u x).pond = s.pond := rfl
@[simp] theorem State.setQuad_fan (u : Nat) (x : Quad) (s : State) : (s.setQuad u x).fan = s.fan := rfl
@[simp] theorem State.setQuad_dress (u : Nat) (x : Quad) (s : State) : (s.setQuad u x).dress = s.dress := rfl
@[simp] theorem State.setQuad_gov (u : Nat) (x : Quad) (s : State) : (s.setQuad u x).gov = s.gov := rfl
@[simp] theorem State.setQuad_pins (u : Nat) (x : Quad) (s : State) : (s.setQuad u x).pins = s.pins := rfl
@[simp] theorem State.setQuad_farm (u : Nat) (x : Quad) (s : State) : (s.setQuad u x).farm = s.farm := rfl
@[simp] theorem State.setQuad_layer (u : Nat) (x : Quad) (s : State) : (s.setQuad u x).layer = s.layer := rfl
@[simp] theorem State.setQuad_timer (u : Nat) (x : Quad) (s : State) : (s.setQuad u x).timer = s.timer := rfl
@[simp] theorem State.setQuad_mon (u : Nat) (x : Quad) (s : State) : (s.setQuad u x).mon = s.mon := rfl
@[simp] theorem State.setQuad_tail (u : Nat) (x : Quad) (s : State) : (s.setQuad u x).tail = s.tail := rfl
@[simp] theorem State.setQuad_upd (u : Nat) (x : Quad) (s : State) : (s.setQuad u x).upd = s.upd := rfl

/-! ### setSlot -/

@[simp] theorem State.setSlot_pending (n : Nat) (x : Slot) (s : State) : (s.setSlot n x).pending = s.pending := rfl
@[simp] theorem State.setSlot_clk (n : Nat) (x : Slot) (s : State) : (s.setSlot n x).clk = s.clk := rfl
@[simp] theorem State.setSlot_dev (n : Nat) (x : Slot) (s : State) : (s.setSlot n x).dev = s.dev := rfl
@[simp] theorem State.setSlot_acq (n : Nat) (x : Slot) (s : State) : (s.setSlot n x).acq = s.acq := rfl
@[simp] theorem State.setSlot_seq (n : Nat) (x : Slot) (s : State) : (s.setSlot n x).seq = s.seq := rfl
@[simp] theorem State.setSlot_shown (n : Nat) (x : Slot) (s : State) : (s.setSlot n x).shown = s.shown := rfl
@[simp] theorem State.setSlot_od (n : Nat) (x : Slot) (s : State) : (s.setSlot n x).od = s.od := rfl
@[simp] theorem State.setSlot_ctr (n : Nat) (x : Slot) (s : State) : (s.setSlot n x).ctr = s.ctr := rfl
@[simp] theorem State.setSlot_free (n : Nat) (x : Slot) (s : State) : (s.setSlot n x).free = s.free := rfl
@[simp] theorem State.setSlot_fault (n : Nat) (x : Slot) (s : State) : (s.setSlot n x).fault = s.fault := rfl
@[simp] theorem State.setSlot_trace (n : Nat) (x : Slot) (s : State) : (s.setSlot n x).trace = s.trace := rfl
@[simp] theorem State.setSlot_net (n : Nat) (x : Slot) (s : State) : (s.setSlot n x).net = s.net := rfl
@[simp] theorem State.setSlot_chans (n : Nat) (x : Slot) (s : State) : (s.setSlot n x).chans = s.chans := rfl
@[simp] theorem State.setSlot_quads (n : Nat) (x : Slot) (s : State) : (s.setSlot n x).quads = s.quads := rfl
@[simp] theorem State.setSlot_origin (n : Nat) (x : Slot) (s : State) : (s.setSlot n x).origin = s.origin := rfl
@[simp] theorem State.setSlot_plans (n : Nat) (x : Slot) (s : State) : (s.setSlot n x).plans = s.plans := rfl
@[simp] theorem State.setSlot_dir (n : Nat) (x : Slot) (s : State) : (s.setSlot n x).dir = s.dir := rfl
@[simp] theorem State.setSlot_pond (n : Nat) (x : Slot) (s : State) : (s.setSlot n x).pond = s.pond := rfl
@[simp] theorem State.setSlot_fan (n : Nat) (x : Slot) (s : State) : (s.setSlot n x).fan = s.fan := rfl
@[simp] theorem State.setSlot_dress (n : Nat) (x : Slot) (s : State) : (s.setSlot n x).dress = s.dress := rfl
@[simp] theorem State.setSlot_gov (n : Nat) (x : Slot) (s : State) : (s.setSlot n x).gov = s.gov := rfl
@[simp] theorem State.setSlot_pins (n : Nat) (x : Slot) (s : State) : (s.setSlot n x).pins = s.pins := rfl
@[simp] theorem State.setSlot_farm (n : Nat) (x : Slot) (s : State) : (s.setSlot n x).farm = s.farm := rfl
@[simp] theorem State.setSlot_layer (n : Nat) (x : Slot) (s : State) : (s.setSlot n x).layer = s.layer := rfl
@[simp] theorem State.setSlot_timer (n : Nat) (x : Slot) (s : State) : (s.setSlot n x).timer = s.timer := rfl
@[simp] theorem State.setSlot_mon (n : Nat) (x : Slot) (s : State) : (s.setSlot n x).mon = s.mon := rfl
@[simp] theorem State.setSlot_tail (n : Nat) (x : Slot) (s : State) : (s.setSlot n x).tail = s.tail := rfl
@[simp] theorem State.setSlot_upd (n : Nat) (x : Slot) (s : State) : (s.setSlot n x).upd = s.upd := rfl

/-! ### setPlan -/

@[simp] theorem State.setPlan_pending (q : Nat) (x : Plan) (s : State) : (s.setPlan q x).pending = s.pending := rfl
@[simp] theorem State.setPlan_clk (q : Nat) (x : Plan) (s : State) : (s.setPlan q x).clk = s.clk := rfl
@[simp] theorem State.setPlan_dev (q : Nat) (x : Plan) (s : State) : (s.setPlan q x).dev = s.dev := rfl
@[simp] theorem State.setPlan_acq (q : Nat) (x : Plan) (s : State) : (s.setPlan q x).acq = s.acq := rfl
@[simp] theorem State.setPlan_seq (q : Nat) (x : Plan) (s : State) : (s.setPlan q x).seq = s.seq := rfl
@[simp] theorem State.setPlan_shown (q : Nat) (x : Plan) (s : State) : (s.setPlan q x).shown = s.shown := rfl
@[simp] theorem State.setPlan_od (q : Nat) (x : Plan) (s : State) : (s.setPlan q x).od = s.od := rfl
@[simp] theorem State.setPlan_ctr (q : Nat) (x : Plan) (s : State) : (s.setPlan q x).ctr = s.ctr := rfl
@[simp] theorem State.setPlan_free (q : Nat) (x : Plan) (s : State) : (s.setPlan q x).free = s.free := rfl
@[simp] theorem State.setPlan_fault (q : Nat) (x : Plan) (s : State) : (s.setPlan q x).fault = s.fault := rfl
@[simp] theorem State.setPlan_trace (q : Nat) (x : Plan) (s : State) : (s.setPlan q x).trace = s.trace := rfl
@[simp] theorem State.setPlan_net (q : Nat) (x : Plan) (s : State) : (s.setPlan q x).net = s.net := rfl
@[simp] theorem State.setPlan_chans (q : Nat) (x : Plan) (s : State) : (s.setPlan q x).chans = s.chans := rfl
@[simp] theorem State.setPlan_quads (q : Nat) (x : Plan) (s : State) : (s.setPlan q x).quads = s.quads := rfl
@[simp] theorem State.setPlan_origin (q : Nat) (x : Plan) (s : State) : (s.setPlan q x).origin = s.origin := rfl
@[simp] theorem State.setPlan_sluice (q : Nat) (x : Plan) (s : State) : (s.setPlan q x).sluice = s.sluice := rfl
@[simp] theorem State.setPlan_dir (q : Nat) (x : Plan) (s : State) : (s.setPlan q x).dir = s.dir := rfl
@[simp] theorem State.setPlan_pond (q : Nat) (x : Plan) (s : State) : (s.setPlan q x).pond = s.pond := rfl
@[simp] theorem State.setPlan_fan (q : Nat) (x : Plan) (s : State) : (s.setPlan q x).fan = s.fan := rfl
@[simp] theorem State.setPlan_dress (q : Nat) (x : Plan) (s : State) : (s.setPlan q x).dress = s.dress := rfl
@[simp] theorem State.setPlan_gov (q : Nat) (x : Plan) (s : State) : (s.setPlan q x).gov = s.gov := rfl
@[simp] theorem State.setPlan_pins (q : Nat) (x : Plan) (s : State) : (s.setPlan q x).pins = s.pins := rfl
@[simp] theorem State.setPlan_farm (q : Nat) (x : Plan) (s : State) : (s.setPlan q x).farm = s.farm := rfl
@[simp] theorem State.setPlan_layer (q : Nat) (x : Plan) (s : State) : (s.setPlan q x).layer = s.layer := rfl
@[simp] theorem State.setPlan_timer (q : Nat) (x : Plan) (s : State) : (s.setPlan q x).timer = s.timer := rfl
@[simp] theorem State.setPlan_mon (q : Nat) (x : Plan) (s : State) : (s.setPlan q x).mon = s.mon := rfl
@[simp] theorem State.setPlan_tail (q : Nat) (x : Plan) (s : State) : (s.setPlan q x).tail = s.tail := rfl
@[simp] theorem State.setPlan_upd (q : Nat) (x : Plan) (s : State) : (s.setPlan q x).upd = s.upd := rfl

/-! ### setLoop -/

@[simp] theorem State.setLoop_pending (l : Nat) (x : Loop) (s : State) : (s.setLoop l x).pending = s.pending := rfl
@[simp] theorem State.setLoop_clk (l : Nat) (x : Loop) (s : State) : (s.setLoop l x).clk = s.clk := rfl
@[simp] theorem State.setLoop_dev (l : Nat) (x : Loop) (s : State) : (s.setLoop l x).dev = s.dev := rfl
@[simp] theorem State.setLoop_acq (l : Nat) (x : Loop) (s : State) : (s.setLoop l x).acq = s.acq := rfl
@[simp] theorem State.setLoop_seq (l : Nat) (x : Loop) (s : State) : (s.setLoop l x).seq = s.seq := rfl
@[simp] theorem State.setLoop_shown (l : Nat) (x : Loop) (s : State) : (s.setLoop l x).shown = s.shown := rfl
@[simp] theorem State.setLoop_od (l : Nat) (x : Loop) (s : State) : (s.setLoop l x).od = s.od := rfl
@[simp] theorem State.setLoop_ctr (l : Nat) (x : Loop) (s : State) : (s.setLoop l x).ctr = s.ctr := rfl
@[simp] theorem State.setLoop_free (l : Nat) (x : Loop) (s : State) : (s.setLoop l x).free = s.free := rfl
@[simp] theorem State.setLoop_fault (l : Nat) (x : Loop) (s : State) : (s.setLoop l x).fault = s.fault := rfl
@[simp] theorem State.setLoop_trace (l : Nat) (x : Loop) (s : State) : (s.setLoop l x).trace = s.trace := rfl
@[simp] theorem State.setLoop_net (l : Nat) (x : Loop) (s : State) : (s.setLoop l x).net = s.net := rfl
@[simp] theorem State.setLoop_chans (l : Nat) (x : Loop) (s : State) : (s.setLoop l x).chans = s.chans := rfl
@[simp] theorem State.setLoop_quads (l : Nat) (x : Loop) (s : State) : (s.setLoop l x).quads = s.quads := rfl
@[simp] theorem State.setLoop_origin (l : Nat) (x : Loop) (s : State) : (s.setLoop l x).origin = s.origin := rfl
@[simp] theorem State.setLoop_sluice (l : Nat) (x : Loop) (s : State) : (s.setLoop l x).sluice = s.sluice := rfl
@[simp] theorem State.setLoop_plans (l : Nat) (x : Loop) (s : State) : (s.setLoop l x).plans = s.plans := rfl
@[simp] theorem State.setLoop_dir (l : Nat) (x : Loop) (s : State) : (s.setLoop l x).dir = s.dir := rfl
@[simp] theorem State.setLoop_pond (l : Nat) (x : Loop) (s : State) : (s.setLoop l x).pond = s.pond := rfl
@[simp] theorem State.setLoop_dress (l : Nat) (x : Loop) (s : State) : (s.setLoop l x).dress = s.dress := rfl
@[simp] theorem State.setLoop_gov (l : Nat) (x : Loop) (s : State) : (s.setLoop l x).gov = s.gov := rfl
@[simp] theorem State.setLoop_pins (l : Nat) (x : Loop) (s : State) : (s.setLoop l x).pins = s.pins := rfl
@[simp] theorem State.setLoop_farm (l : Nat) (x : Loop) (s : State) : (s.setLoop l x).farm = s.farm := rfl
@[simp] theorem State.setLoop_layer (l : Nat) (x : Loop) (s : State) : (s.setLoop l x).layer = s.layer := rfl
@[simp] theorem State.setLoop_timer (l : Nat) (x : Loop) (s : State) : (s.setLoop l x).timer = s.timer := rfl
@[simp] theorem State.setLoop_mon (l : Nat) (x : Loop) (s : State) : (s.setLoop l x).mon = s.mon := rfl
@[simp] theorem State.setLoop_tail (l : Nat) (x : Loop) (s : State) : (s.setLoop l x).tail = s.tail := rfl
@[simp] theorem State.setLoop_upd (l : Nat) (x : Loop) (s : State) : (s.setLoop l x).upd = s.upd := rfl

/-! ### setLane -/

@[simp] theorem State.setLane_pending (l : Nat) (x : Lane) (s : State) : (s.setLane l x).pending = s.pending := rfl
@[simp] theorem State.setLane_clk (l : Nat) (x : Lane) (s : State) : (s.setLane l x).clk = s.clk := rfl
@[simp] theorem State.setLane_dev (l : Nat) (x : Lane) (s : State) : (s.setLane l x).dev = s.dev := rfl
@[simp] theorem State.setLane_acq (l : Nat) (x : Lane) (s : State) : (s.setLane l x).acq = s.acq := rfl
@[simp] theorem State.setLane_seq (l : Nat) (x : Lane) (s : State) : (s.setLane l x).seq = s.seq := rfl
@[simp] theorem State.setLane_shown (l : Nat) (x : Lane) (s : State) : (s.setLane l x).shown = s.shown := rfl
@[simp] theorem State.setLane_od (l : Nat) (x : Lane) (s : State) : (s.setLane l x).od = s.od := rfl
@[simp] theorem State.setLane_ctr (l : Nat) (x : Lane) (s : State) : (s.setLane l x).ctr = s.ctr := rfl
@[simp] theorem State.setLane_free (l : Nat) (x : Lane) (s : State) : (s.setLane l x).free = s.free := rfl
@[simp] theorem State.setLane_fault (l : Nat) (x : Lane) (s : State) : (s.setLane l x).fault = s.fault := rfl
@[simp] theorem State.setLane_trace (l : Nat) (x : Lane) (s : State) : (s.setLane l x).trace = s.trace := rfl
@[simp] theorem State.setLane_net (l : Nat) (x : Lane) (s : State) : (s.setLane l x).net = s.net := rfl
@[simp] theorem State.setLane_chans (l : Nat) (x : Lane) (s : State) : (s.setLane l x).chans = s.chans := rfl
@[simp] theorem State.setLane_quads (l : Nat) (x : Lane) (s : State) : (s.setLane l x).quads = s.quads := rfl
@[simp] theorem State.setLane_origin (l : Nat) (x : Lane) (s : State) : (s.setLane l x).origin = s.origin := rfl
@[simp] theorem State.setLane_sluice (l : Nat) (x : Lane) (s : State) : (s.setLane l x).sluice = s.sluice := rfl
@[simp] theorem State.setLane_plans (l : Nat) (x : Lane) (s : State) : (s.setLane l x).plans = s.plans := rfl
@[simp] theorem State.setLane_dir (l : Nat) (x : Lane) (s : State) : (s.setLane l x).dir = s.dir := rfl
@[simp] theorem State.setLane_pond (l : Nat) (x : Lane) (s : State) : (s.setLane l x).pond = s.pond := rfl
@[simp] theorem State.setLane_fan (l : Nat) (x : Lane) (s : State) : (s.setLane l x).fan = s.fan := rfl
@[simp] theorem State.setLane_dress (l : Nat) (x : Lane) (s : State) : (s.setLane l x).dress = s.dress := rfl
@[simp] theorem State.setLane_gov (l : Nat) (x : Lane) (s : State) : (s.setLane l x).gov = s.gov := rfl
@[simp] theorem State.setLane_pins (l : Nat) (x : Lane) (s : State) : (s.setLane l x).pins = s.pins := rfl
@[simp] theorem State.setLane_farm (l : Nat) (x : Lane) (s : State) : (s.setLane l x).farm = s.farm := rfl
@[simp] theorem State.setLane_layer (l : Nat) (x : Lane) (s : State) : (s.setLane l x).layer = s.layer := rfl
@[simp] theorem State.setLane_timer (l : Nat) (x : Lane) (s : State) : (s.setLane l x).timer = s.timer := rfl
@[simp] theorem State.setLane_mon (l : Nat) (x : Lane) (s : State) : (s.setLane l x).mon = s.mon := rfl
@[simp] theorem State.setLane_upd (l : Nat) (x : Lane) (s : State) : (s.setLane l x).upd = s.upd := rfl

/-! ### unitFailed -/

@[simp] theorem State.unitFailed_pending (u : Nat) (s : State) : (s.unitFailed u).pending = s.pending := rfl
@[simp] theorem State.unitFailed_clk (u : Nat) (s : State) : (s.unitFailed u).clk = s.clk := rfl
@[simp] theorem State.unitFailed_dev (u : Nat) (s : State) : (s.unitFailed u).dev = s.dev := rfl
@[simp] theorem State.unitFailed_acq (u : Nat) (s : State) : (s.unitFailed u).acq = s.acq := rfl
@[simp] theorem State.unitFailed_seq (u : Nat) (s : State) : (s.unitFailed u).seq = s.seq := rfl
@[simp] theorem State.unitFailed_shown (u : Nat) (s : State) : (s.unitFailed u).shown = s.shown := rfl
@[simp] theorem State.unitFailed_od (u : Nat) (s : State) : (s.unitFailed u).od = s.od := rfl
@[simp] theorem State.unitFailed_ctr (u : Nat) (s : State) : (s.unitFailed u).ctr = s.ctr := rfl
@[simp] theorem State.unitFailed_free (u : Nat) (s : State) : (s.unitFailed u).free = s.free := rfl
@[simp] theorem State.unitFailed_trace (u : Nat) (s : State) : (s.unitFailed u).trace = s.trace := rfl
@[simp] theorem State.unitFailed_net (u : Nat) (s : State) : (s.unitFailed u).net = s.net := rfl
@[simp] theorem State.unitFailed_chans (u : Nat) (s : State) : (s.unitFailed u).chans = s.chans := rfl
@[simp] theorem State.unitFailed_quads (u : Nat) (s : State) : (s.unitFailed u).quads = s.quads := rfl
@[simp] theorem State.unitFailed_origin (u : Nat) (s : State) : (s.unitFailed u).origin = s.origin := rfl
@[simp] theorem State.unitFailed_sluice (u : Nat) (s : State) : (s.unitFailed u).sluice = s.sluice := rfl
@[simp] theorem State.unitFailed_plans (u : Nat) (s : State) : (s.unitFailed u).plans = s.plans := rfl
@[simp] theorem State.unitFailed_dir (u : Nat) (s : State) : (s.unitFailed u).dir = s.dir := rfl
@[simp] theorem State.unitFailed_pond (u : Nat) (s : State) : (s.unitFailed u).pond = s.pond := rfl
@[simp] theorem State.unitFailed_fan (u : Nat) (s : State) : (s.unitFailed u).fan = s.fan := rfl
@[simp] theorem State.unitFailed_dress (u : Nat) (s : State) : (s.unitFailed u).dress = s.dress := rfl
@[simp] theorem State.unitFailed_gov (u : Nat) (s : State) : (s.unitFailed u).gov = s.gov := rfl
@[simp] theorem State.unitFailed_pins (u : Nat) (s : State) : (s.unitFailed u).pins = s.pins := rfl
@[simp] theorem State.unitFailed_farm (u : Nat) (s : State) : (s.unitFailed u).farm = s.farm := rfl
@[simp] theorem State.unitFailed_layer (u : Nat) (s : State) : (s.unitFailed u).layer = s.layer := rfl
@[simp] theorem State.unitFailed_timer (u : Nat) (s : State) : (s.unitFailed u).timer = s.timer := rfl
@[simp] theorem State.unitFailed_mon (u : Nat) (s : State) : (s.unitFailed u).mon = s.mon := rfl
@[simp] theorem State.unitFailed_tail (u : Nat) (s : State) : (s.unitFailed u).tail = s.tail := rfl
@[simp] theorem State.unitFailed_upd (u : Nat) (s : State) : (s.unitFailed u).upd = s.upd := rfl

/-! ### unitDegraded -/

@[simp] theorem State.unitDegraded_pending (u : Nat) (b : Bool) (s : State) : (s.unitDegraded u b).pending = s.pending := rfl
@[simp] theorem State.unitDegraded_clk (u : Nat) (b : Bool) (s : State) : (s.unitDegraded u b).clk = s.clk := rfl
@[simp] theorem State.unitDegraded_dev (u : Nat) (b : Bool) (s : State) : (s.unitDegraded u b).dev = s.dev := rfl
@[simp] theorem State.unitDegraded_acq (u : Nat) (b : Bool) (s : State) : (s.unitDegraded u b).acq = s.acq := rfl
@[simp] theorem State.unitDegraded_seq (u : Nat) (b : Bool) (s : State) : (s.unitDegraded u b).seq = s.seq := rfl
@[simp] theorem State.unitDegraded_shown (u : Nat) (b : Bool) (s : State) : (s.unitDegraded u b).shown = s.shown := rfl
@[simp] theorem State.unitDegraded_od (u : Nat) (b : Bool) (s : State) : (s.unitDegraded u b).od = s.od := rfl
@[simp] theorem State.unitDegraded_ctr (u : Nat) (b : Bool) (s : State) : (s.unitDegraded u b).ctr = s.ctr := rfl
@[simp] theorem State.unitDegraded_free (u : Nat) (b : Bool) (s : State) : (s.unitDegraded u b).free = s.free := rfl
@[simp] theorem State.unitDegraded_trace (u : Nat) (b : Bool) (s : State) : (s.unitDegraded u b).trace = s.trace := rfl
@[simp] theorem State.unitDegraded_net (u : Nat) (b : Bool) (s : State) : (s.unitDegraded u b).net = s.net := rfl
@[simp] theorem State.unitDegraded_chans (u : Nat) (b : Bool) (s : State) : (s.unitDegraded u b).chans = s.chans := rfl
@[simp] theorem State.unitDegraded_quads (u : Nat) (b : Bool) (s : State) : (s.unitDegraded u b).quads = s.quads := rfl
@[simp] theorem State.unitDegraded_origin (u : Nat) (b : Bool) (s : State) : (s.unitDegraded u b).origin = s.origin := rfl
@[simp] theorem State.unitDegraded_sluice (u : Nat) (b : Bool) (s : State) : (s.unitDegraded u b).sluice = s.sluice := rfl
@[simp] theorem State.unitDegraded_plans (u : Nat) (b : Bool) (s : State) : (s.unitDegraded u b).plans = s.plans := rfl
@[simp] theorem State.unitDegraded_dir (u : Nat) (b : Bool) (s : State) : (s.unitDegraded u b).dir = s.dir := rfl
@[simp] theorem State.unitDegraded_pond (u : Nat) (b : Bool) (s : State) : (s.unitDegraded u b).pond = s.pond := rfl
@[simp] theorem State.unitDegraded_fan (u : Nat) (b : Bool) (s : State) : (s.unitDegraded u b).fan = s.fan := rfl
@[simp] theorem State.unitDegraded_dress (u : Nat) (b : Bool) (s : State) : (s.unitDegraded u b).dress = s.dress := rfl
@[simp] theorem State.unitDegraded_gov (u : Nat) (b : Bool) (s : State) : (s.unitDegraded u b).gov = s.gov := rfl
@[simp] theorem State.unitDegraded_pins (u : Nat) (b : Bool) (s : State) : (s.unitDegraded u b).pins = s.pins := rfl
@[simp] theorem State.unitDegraded_farm (u : Nat) (b : Bool) (s : State) : (s.unitDegraded u b).farm = s.farm := rfl
@[simp] theorem State.unitDegraded_layer (u : Nat) (b : Bool) (s : State) : (s.unitDegraded u b).layer = s.layer := rfl
@[simp] theorem State.unitDegraded_timer (u : Nat) (b : Bool) (s : State) : (s.unitDegraded u b).timer = s.timer := rfl
@[simp] theorem State.unitDegraded_mon (u : Nat) (b : Bool) (s : State) : (s.unitDegraded u b).mon = s.mon := rfl
@[simp] theorem State.unitDegraded_tail (u : Nat) (b : Bool) (s : State) : (s.unitDegraded u b).tail = s.tail := rfl
@[simp] theorem State.unitDegraded_upd (u : Nat) (b : Bool) (s : State) : (s.unitDegraded u b).upd = s.upd := rfl

/-! ### unitNoSpare -/

@[simp] theorem State.unitNoSpare_pending (u : Nat) (b : Bool) (s : State) : (s.unitNoSpare u b).pending = s.pending := rfl
@[simp] theorem State.unitNoSpare_clk (u : Nat) (b : Bool) (s : State) : (s.unitNoSpare u b).clk = s.clk := rfl
@[simp] theorem State.unitNoSpare_dev (u : Nat) (b : Bool) (s : State) : (s.unitNoSpare u b).dev = s.dev := rfl
@[simp] theorem State.unitNoSpare_acq (u : Nat) (b : Bool) (s : State) : (s.unitNoSpare u b).acq = s.acq := rfl
@[simp] theorem State.unitNoSpare_seq (u : Nat) (b : Bool) (s : State) : (s.unitNoSpare u b).seq = s.seq := rfl
@[simp] theorem State.unitNoSpare_shown (u : Nat) (b : Bool) (s : State) : (s.unitNoSpare u b).shown = s.shown := rfl
@[simp] theorem State.unitNoSpare_od (u : Nat) (b : Bool) (s : State) : (s.unitNoSpare u b).od = s.od := rfl
@[simp] theorem State.unitNoSpare_ctr (u : Nat) (b : Bool) (s : State) : (s.unitNoSpare u b).ctr = s.ctr := rfl
@[simp] theorem State.unitNoSpare_free (u : Nat) (b : Bool) (s : State) : (s.unitNoSpare u b).free = s.free := rfl
@[simp] theorem State.unitNoSpare_trace (u : Nat) (b : Bool) (s : State) : (s.unitNoSpare u b).trace = s.trace := rfl
@[simp] theorem State.unitNoSpare_net (u : Nat) (b : Bool) (s : State) : (s.unitNoSpare u b).net = s.net := rfl
@[simp] theorem State.unitNoSpare_chans (u : Nat) (b : Bool) (s : State) : (s.unitNoSpare u b).chans = s.chans := rfl
@[simp] theorem State.unitNoSpare_quads (u : Nat) (b : Bool) (s : State) : (s.unitNoSpare u b).quads = s.quads := rfl
@[simp] theorem State.unitNoSpare_origin (u : Nat) (b : Bool) (s : State) : (s.unitNoSpare u b).origin = s.origin := rfl
@[simp] theorem State.unitNoSpare_sluice (u : Nat) (b : Bool) (s : State) : (s.unitNoSpare u b).sluice = s.sluice := rfl
@[simp] theorem State.unitNoSpare_plans (u : Nat) (b : Bool) (s : State) : (s.unitNoSpare u b).plans = s.plans := rfl
@[simp] theorem State.unitNoSpare_dir (u : Nat) (b : Bool) (s : State) : (s.unitNoSpare u b).dir = s.dir := rfl
@[simp] theorem State.unitNoSpare_pond (u : Nat) (b : Bool) (s : State) : (s.unitNoSpare u b).pond = s.pond := rfl
@[simp] theorem State.unitNoSpare_fan (u : Nat) (b : Bool) (s : State) : (s.unitNoSpare u b).fan = s.fan := rfl
@[simp] theorem State.unitNoSpare_dress (u : Nat) (b : Bool) (s : State) : (s.unitNoSpare u b).dress = s.dress := rfl
@[simp] theorem State.unitNoSpare_gov (u : Nat) (b : Bool) (s : State) : (s.unitNoSpare u b).gov = s.gov := rfl
@[simp] theorem State.unitNoSpare_pins (u : Nat) (b : Bool) (s : State) : (s.unitNoSpare u b).pins = s.pins := rfl
@[simp] theorem State.unitNoSpare_farm (u : Nat) (b : Bool) (s : State) : (s.unitNoSpare u b).farm = s.farm := rfl
@[simp] theorem State.unitNoSpare_layer (u : Nat) (b : Bool) (s : State) : (s.unitNoSpare u b).layer = s.layer := rfl
@[simp] theorem State.unitNoSpare_timer (u : Nat) (b : Bool) (s : State) : (s.unitNoSpare u b).timer = s.timer := rfl
@[simp] theorem State.unitNoSpare_mon (u : Nat) (b : Bool) (s : State) : (s.unitNoSpare u b).mon = s.mon := rfl
@[simp] theorem State.unitNoSpare_tail (u : Nat) (b : Bool) (s : State) : (s.unitNoSpare u b).tail = s.tail := rfl
@[simp] theorem State.unitNoSpare_upd (u : Nat) (b : Bool) (s : State) : (s.unitNoSpare u b).upd = s.upd := rfl

/-! ### wearEvent -/

@[simp] theorem State.wearEvent_pending (u sl w r p : Nat) (s : State) : (s.wearEvent u sl w r p).pending = s.pending := rfl
@[simp] theorem State.wearEvent_clk (u sl w r p : Nat) (s : State) : (s.wearEvent u sl w r p).clk = s.clk := rfl
@[simp] theorem State.wearEvent_dev (u sl w r p : Nat) (s : State) : (s.wearEvent u sl w r p).dev = s.dev := rfl
@[simp] theorem State.wearEvent_acq (u sl w r p : Nat) (s : State) : (s.wearEvent u sl w r p).acq = s.acq := rfl
@[simp] theorem State.wearEvent_seq (u sl w r p : Nat) (s : State) : (s.wearEvent u sl w r p).seq = s.seq := rfl
@[simp] theorem State.wearEvent_shown (u sl w r p : Nat) (s : State) : (s.wearEvent u sl w r p).shown = s.shown := rfl
@[simp] theorem State.wearEvent_od (u sl w r p : Nat) (s : State) : (s.wearEvent u sl w r p).od = s.od := rfl
@[simp] theorem State.wearEvent_ctr (u sl w r p : Nat) (s : State) : (s.wearEvent u sl w r p).ctr = s.ctr := rfl
@[simp] theorem State.wearEvent_free (u sl w r p : Nat) (s : State) : (s.wearEvent u sl w r p).free = s.free := rfl
@[simp] theorem State.wearEvent_fault (u sl w r p : Nat) (s : State) : (s.wearEvent u sl w r p).fault = s.fault := rfl
@[simp] theorem State.wearEvent_trace (u sl w r p : Nat) (s : State) : (s.wearEvent u sl w r p).trace = s.trace := rfl
@[simp] theorem State.wearEvent_net (u sl w r p : Nat) (s : State) : (s.wearEvent u sl w r p).net = s.net := rfl
@[simp] theorem State.wearEvent_chans (u sl w r p : Nat) (s : State) : (s.wearEvent u sl w r p).chans = s.chans := rfl
@[simp] theorem State.wearEvent_quads (u sl w r p : Nat) (s : State) : (s.wearEvent u sl w r p).quads = s.quads := rfl
@[simp] theorem State.wearEvent_origin (u sl w r p : Nat) (s : State) : (s.wearEvent u sl w r p).origin = s.origin := rfl
@[simp] theorem State.wearEvent_sluice (u sl w r p : Nat) (s : State) : (s.wearEvent u sl w r p).sluice = s.sluice := rfl
@[simp] theorem State.wearEvent_plans (u sl w r p : Nat) (s : State) : (s.wearEvent u sl w r p).plans = s.plans := rfl
@[simp] theorem State.wearEvent_dir (u sl w r p : Nat) (s : State) : (s.wearEvent u sl w r p).dir = s.dir := rfl
@[simp] theorem State.wearEvent_pond (u sl w r p : Nat) (s : State) : (s.wearEvent u sl w r p).pond = s.pond := rfl
@[simp] theorem State.wearEvent_fan (u sl w r p : Nat) (s : State) : (s.wearEvent u sl w r p).fan = s.fan := rfl
@[simp] theorem State.wearEvent_dress (u sl w r p : Nat) (s : State) : (s.wearEvent u sl w r p).dress = s.dress := rfl
@[simp] theorem State.wearEvent_gov (u sl w r p : Nat) (s : State) : (s.wearEvent u sl w r p).gov = s.gov := rfl
@[simp] theorem State.wearEvent_pins (u sl w r p : Nat) (s : State) : (s.wearEvent u sl w r p).pins = s.pins := rfl
@[simp] theorem State.wearEvent_farm (u sl w r p : Nat) (s : State) : (s.wearEvent u sl w r p).farm = s.farm := rfl
@[simp] theorem State.wearEvent_timer (u sl w r p : Nat) (s : State) : (s.wearEvent u sl w r p).timer = s.timer := rfl
@[simp] theorem State.wearEvent_mon (u sl w r p : Nat) (s : State) : (s.wearEvent u sl w r p).mon = s.mon := rfl
@[simp] theorem State.wearEvent_tail (u sl w r p : Nat) (s : State) : (s.wearEvent u sl w r p).tail = s.tail := rfl
@[simp] theorem State.wearEvent_upd (u sl w r p : Nat) (s : State) : (s.wearEvent u sl w r p).upd = s.upd := rfl

/-! ### withAcq -/

@[simp] theorem State.withAcq_pending (s : State) : (s.withAcq).pending = s.pending := rfl
@[simp] theorem State.withAcq_clk (s : State) : (s.withAcq).clk = s.clk := rfl
@[simp] theorem State.withAcq_dev (s : State) : (s.withAcq).dev = s.dev := rfl
@[simp] theorem State.withAcq_seq (s : State) : (s.withAcq).seq = s.seq := rfl
@[simp] theorem State.withAcq_shown (s : State) : (s.withAcq).shown = s.shown := rfl
@[simp] theorem State.withAcq_od (s : State) : (s.withAcq).od = s.od := rfl
@[simp] theorem State.withAcq_ctr (s : State) : (s.withAcq).ctr = s.ctr := rfl
@[simp] theorem State.withAcq_free (s : State) : (s.withAcq).free = s.free := rfl
@[simp] theorem State.withAcq_fault (s : State) : (s.withAcq).fault = s.fault := rfl
@[simp] theorem State.withAcq_trace (s : State) : (s.withAcq).trace = s.trace := rfl
@[simp] theorem State.withAcq_net (s : State) : (s.withAcq).net = s.net := rfl
@[simp] theorem State.withAcq_chans (s : State) : (s.withAcq).chans = s.chans := rfl
@[simp] theorem State.withAcq_quads (s : State) : (s.withAcq).quads = s.quads := rfl
@[simp] theorem State.withAcq_origin (s : State) : (s.withAcq).origin = s.origin := rfl
@[simp] theorem State.withAcq_sluice (s : State) : (s.withAcq).sluice = s.sluice := rfl
@[simp] theorem State.withAcq_plans (s : State) : (s.withAcq).plans = s.plans := rfl
@[simp] theorem State.withAcq_dir (s : State) : (s.withAcq).dir = s.dir := rfl
@[simp] theorem State.withAcq_pond (s : State) : (s.withAcq).pond = s.pond := rfl
@[simp] theorem State.withAcq_fan (s : State) : (s.withAcq).fan = s.fan := rfl
@[simp] theorem State.withAcq_dress (s : State) : (s.withAcq).dress = s.dress := rfl
@[simp] theorem State.withAcq_gov (s : State) : (s.withAcq).gov = s.gov := rfl
@[simp] theorem State.withAcq_pins (s : State) : (s.withAcq).pins = s.pins := rfl
@[simp] theorem State.withAcq_farm (s : State) : (s.withAcq).farm = s.farm := rfl
@[simp] theorem State.withAcq_layer (s : State) : (s.withAcq).layer = s.layer := rfl
@[simp] theorem State.withAcq_timer (s : State) : (s.withAcq).timer = s.timer := rfl
@[simp] theorem State.withAcq_mon (s : State) : (s.withAcq).mon = s.mon := rfl
@[simp] theorem State.withAcq_tail (s : State) : (s.withAcq).tail = s.tail := rfl
@[simp] theorem State.withAcq_upd (s : State) : (s.withAcq).upd = s.upd := rfl

/-! ### withShown -/

@[simp] theorem State.withShown_pending (s : State) : (s.withShown).pending = s.pending := rfl
@[simp] theorem State.withShown_clk (s : State) : (s.withShown).clk = s.clk := rfl
@[simp] theorem State.withShown_dev (s : State) : (s.withShown).dev = s.dev := rfl
@[simp] theorem State.withShown_acq (s : State) : (s.withShown).acq = s.acq := rfl
@[simp] theorem State.withShown_seq (s : State) : (s.withShown).seq = s.seq := rfl
@[simp] theorem State.withShown_od (s : State) : (s.withShown).od = s.od := rfl
@[simp] theorem State.withShown_ctr (s : State) : (s.withShown).ctr = s.ctr := rfl
@[simp] theorem State.withShown_free (s : State) : (s.withShown).free = s.free := rfl
@[simp] theorem State.withShown_fault (s : State) : (s.withShown).fault = s.fault := rfl
@[simp] theorem State.withShown_trace (s : State) : (s.withShown).trace = s.trace := rfl
@[simp] theorem State.withShown_net (s : State) : (s.withShown).net = s.net := rfl
@[simp] theorem State.withShown_chans (s : State) : (s.withShown).chans = s.chans := rfl
@[simp] theorem State.withShown_quads (s : State) : (s.withShown).quads = s.quads := rfl
@[simp] theorem State.withShown_origin (s : State) : (s.withShown).origin = s.origin := rfl
@[simp] theorem State.withShown_sluice (s : State) : (s.withShown).sluice = s.sluice := rfl
@[simp] theorem State.withShown_plans (s : State) : (s.withShown).plans = s.plans := rfl
@[simp] theorem State.withShown_dir (s : State) : (s.withShown).dir = s.dir := rfl
@[simp] theorem State.withShown_pond (s : State) : (s.withShown).pond = s.pond := rfl
@[simp] theorem State.withShown_fan (s : State) : (s.withShown).fan = s.fan := rfl
@[simp] theorem State.withShown_dress (s : State) : (s.withShown).dress = s.dress := rfl
@[simp] theorem State.withShown_gov (s : State) : (s.withShown).gov = s.gov := rfl
@[simp] theorem State.withShown_pins (s : State) : (s.withShown).pins = s.pins := rfl
@[simp] theorem State.withShown_farm (s : State) : (s.withShown).farm = s.farm := rfl
@[simp] theorem State.withShown_layer (s : State) : (s.withShown).layer = s.layer := rfl
@[simp] theorem State.withShown_timer (s : State) : (s.withShown).timer = s.timer := rfl
@[simp] theorem State.withShown_mon (s : State) : (s.withShown).mon = s.mon := rfl
@[simp] theorem State.withShown_tail (s : State) : (s.withShown).tail = s.tail := rfl
@[simp] theorem State.withShown_upd (s : State) : (s.withShown).upd = s.upd := rfl

/-! ### withSeq -/

@[simp] theorem State.withSeq_pending (s : State) : (s.withSeq).pending = s.pending := rfl
@[simp] theorem State.withSeq_clk (s : State) : (s.withSeq).clk = s.clk := rfl
@[simp] theorem State.withSeq_dev (s : State) : (s.withSeq).dev = s.dev := rfl
@[simp] theorem State.withSeq_acq (s : State) : (s.withSeq).acq = s.acq := rfl
@[simp] theorem State.withSeq_shown (s : State) : (s.withSeq).shown = s.shown := rfl
@[simp] theorem State.withSeq_od (s : State) : (s.withSeq).od = s.od := rfl
@[simp] theorem State.withSeq_ctr (s : State) : (s.withSeq).ctr = s.ctr := rfl
@[simp] theorem State.withSeq_free (s : State) : (s.withSeq).free = s.free := rfl
@[simp] theorem State.withSeq_fault (s : State) : (s.withSeq).fault = s.fault := rfl
@[simp] theorem State.withSeq_trace (s : State) : (s.withSeq).trace = s.trace := rfl
@[simp] theorem State.withSeq_net (s : State) : (s.withSeq).net = s.net := rfl
@[simp] theorem State.withSeq_chans (s : State) : (s.withSeq).chans = s.chans := rfl
@[simp] theorem State.withSeq_quads (s : State) : (s.withSeq).quads = s.quads := rfl
@[simp] theorem State.withSeq_origin (s : State) : (s.withSeq).origin = s.origin := rfl
@[simp] theorem State.withSeq_sluice (s : State) : (s.withSeq).sluice = s.sluice := rfl
@[simp] theorem State.withSeq_plans (s : State) : (s.withSeq).plans = s.plans := rfl
@[simp] theorem State.withSeq_dir (s : State) : (s.withSeq).dir = s.dir := rfl
@[simp] theorem State.withSeq_pond (s : State) : (s.withSeq).pond = s.pond := rfl
@[simp] theorem State.withSeq_fan (s : State) : (s.withSeq).fan = s.fan := rfl
@[simp] theorem State.withSeq_dress (s : State) : (s.withSeq).dress = s.dress := rfl
@[simp] theorem State.withSeq_gov (s : State) : (s.withSeq).gov = s.gov := rfl
@[simp] theorem State.withSeq_pins (s : State) : (s.withSeq).pins = s.pins := rfl
@[simp] theorem State.withSeq_farm (s : State) : (s.withSeq).farm = s.farm := rfl
@[simp] theorem State.withSeq_layer (s : State) : (s.withSeq).layer = s.layer := rfl
@[simp] theorem State.withSeq_timer (s : State) : (s.withSeq).timer = s.timer := rfl
@[simp] theorem State.withSeq_mon (s : State) : (s.withSeq).mon = s.mon := rfl
@[simp] theorem State.withSeq_tail (s : State) : (s.withSeq).tail = s.tail := rfl
@[simp] theorem State.withSeq_upd (s : State) : (s.withSeq).upd = s.upd := rfl

/-! ### setUnitWear -/

@[simp] theorem State.setUnitWear_pending (u : Nat) (x : UnitWear) (s : State) : (s.setUnitWear u x).pending = s.pending := rfl
@[simp] theorem State.setUnitWear_clk (u : Nat) (x : UnitWear) (s : State) : (s.setUnitWear u x).clk = s.clk := rfl
@[simp] theorem State.setUnitWear_dev (u : Nat) (x : UnitWear) (s : State) : (s.setUnitWear u x).dev = s.dev := rfl
@[simp] theorem State.setUnitWear_acq (u : Nat) (x : UnitWear) (s : State) : (s.setUnitWear u x).acq = s.acq := rfl
@[simp] theorem State.setUnitWear_seq (u : Nat) (x : UnitWear) (s : State) : (s.setUnitWear u x).seq = s.seq := rfl
@[simp] theorem State.setUnitWear_shown (u : Nat) (x : UnitWear) (s : State) : (s.setUnitWear u x).shown = s.shown := rfl
@[simp] theorem State.setUnitWear_od (u : Nat) (x : UnitWear) (s : State) : (s.setUnitWear u x).od = s.od := rfl
@[simp] theorem State.setUnitWear_ctr (u : Nat) (x : UnitWear) (s : State) : (s.setUnitWear u x).ctr = s.ctr := rfl
@[simp] theorem State.setUnitWear_free (u : Nat) (x : UnitWear) (s : State) : (s.setUnitWear u x).free = s.free := rfl
@[simp] theorem State.setUnitWear_fault (u : Nat) (x : UnitWear) (s : State) : (s.setUnitWear u x).fault = s.fault := rfl
@[simp] theorem State.setUnitWear_trace (u : Nat) (x : UnitWear) (s : State) : (s.setUnitWear u x).trace = s.trace := rfl
@[simp] theorem State.setUnitWear_net (u : Nat) (x : UnitWear) (s : State) : (s.setUnitWear u x).net = s.net := rfl
@[simp] theorem State.setUnitWear_chans (u : Nat) (x : UnitWear) (s : State) : (s.setUnitWear u x).chans = s.chans := rfl
@[simp] theorem State.setUnitWear_quads (u : Nat) (x : UnitWear) (s : State) : (s.setUnitWear u x).quads = s.quads := rfl
@[simp] theorem State.setUnitWear_origin (u : Nat) (x : UnitWear) (s : State) : (s.setUnitWear u x).origin = s.origin := rfl
@[simp] theorem State.setUnitWear_sluice (u : Nat) (x : UnitWear) (s : State) : (s.setUnitWear u x).sluice = s.sluice := rfl
@[simp] theorem State.setUnitWear_plans (u : Nat) (x : UnitWear) (s : State) : (s.setUnitWear u x).plans = s.plans := rfl
@[simp] theorem State.setUnitWear_dir (u : Nat) (x : UnitWear) (s : State) : (s.setUnitWear u x).dir = s.dir := rfl
@[simp] theorem State.setUnitWear_pond (u : Nat) (x : UnitWear) (s : State) : (s.setUnitWear u x).pond = s.pond := rfl
@[simp] theorem State.setUnitWear_fan (u : Nat) (x : UnitWear) (s : State) : (s.setUnitWear u x).fan = s.fan := rfl
@[simp] theorem State.setUnitWear_dress (u : Nat) (x : UnitWear) (s : State) : (s.setUnitWear u x).dress = s.dress := rfl
@[simp] theorem State.setUnitWear_gov (u : Nat) (x : UnitWear) (s : State) : (s.setUnitWear u x).gov = s.gov := rfl
@[simp] theorem State.setUnitWear_pins (u : Nat) (x : UnitWear) (s : State) : (s.setUnitWear u x).pins = s.pins := rfl
@[simp] theorem State.setUnitWear_farm (u : Nat) (x : UnitWear) (s : State) : (s.setUnitWear u x).farm = s.farm := rfl
@[simp] theorem State.setUnitWear_timer (u : Nat) (x : UnitWear) (s : State) : (s.setUnitWear u x).timer = s.timer := rfl
@[simp] theorem State.setUnitWear_mon (u : Nat) (x : UnitWear) (s : State) : (s.setUnitWear u x).mon = s.mon := rfl
@[simp] theorem State.setUnitWear_tail (u : Nat) (x : UnitWear) (s : State) : (s.setUnitWear u x).tail = s.tail := rfl
@[simp] theorem State.setUnitWear_upd (u : Nat) (x : UnitWear) (s : State) : (s.setUnitWear u x).upd = s.upd := rfl

end Sys2Proof.Machine
end

