-- ==== Sys2Proof/Laws/Tbl.lean ====
section
/-!
SUPPORT. Tables: reading after writing, and the canonical form.
-/

namespace Sys2Proof.Machine

theorem tfind_tset_same {α : Type} (k : Nat) (v : α) (t : Tbl α) : tfind (tset k v t) k = some v := by
  induction t with
  | nil => simp [tset, tfind]
  | cons e r ih =>
    obtain ⟨j, w⟩ := e
    simp only [tset]
    split
    · simp [tfind]
    · split
      · simp [tfind]
      · rename_i h1 h2
        simp [tfind, ih, Ne.symm h2]

theorem tfind_tset_other {α : Type} {k l : Nat} (h : l ≠ k) (v : α) (t : Tbl α) : tfind (tset k v t) l = tfind t l := by
  induction t with
  | nil => simp [tset, tfind, h.symm]
  | cons e r ih =>
    obtain ⟨j, w⟩ := e
    simp only [tset]
    split
    · simp [tfind, h.symm]
    · split
      · rename_i h2; subst h2; simp [tfind, h.symm]
      · simp only [tfind, ih]

@[simp] theorem tget_tset_same {α : Type} (d : Nat → α) (k : Nat) (v : α) (t : Tbl α) : tget d (tset k v t) k = v := by
  simp [tget, tfind_tset_same]

@[simp] theorem tget_tset_other {α : Type} (d : Nat → α) {k l : Nat} (h : l ≠ k) (v : α) (t : Tbl α) :
    tget d (tset k v t) l = tget d t l := by
  simp [tget, tfind_tset_other h]

end Sys2Proof.Machine
end

