-- ==== Sys2Proof/Laws/Ops.lean ====
section
/-!
SUPPORT. What the shared operations of Ops and Operands can do: trace entries, EMCY messages, fault records, the end of every step,
answers and refusals.
-/

namespace Sys2Proof.Machine

/-! ### Objects and counters -/

@[simp] theorem State.rd_wr_same (k : Nat) (v : Int) (s : State) : (s.wr k v).rd k = v := by simp [State.rd, State.wr]

@[simp] theorem State.rd_wr_other {k l : Nat} (h : l ≠ k) (v : Int) (s : State) : (s.wr k v).rd l = s.rd l := by
  simp [State.rd, State.wr, h]

theorem State.rd_wr (k l : Nat) (v : Int) (s : State) : (s.wr k v).rd l = if l = k then v else s.rd l := by
  split
  · rename_i h; subst h; simp
  · rename_i h; simp [h]

/-- The value of an object depends on the object store alone. -/
theorem State.rd_of_od {s t : State} (h : t.od = s.od) (k : Nat) : t.rd k = s.rd k := by simp [State.rd, h]

theorem State.place_of_ctr {s t : State} (h : t.ctr = s.ctr) (n : Nat) : t.place n = s.place n := by simp [State.place, h]

@[simp] theorem State.place_bumpBy_same (n k : Nat) (s : State) : (s.bumpBy n k).place n = (s.place n + k) % 2 ^ 64 := by
  simp [State.place, State.bumpBy]

@[simp] theorem State.place_bumpBy_other {n m : Nat} (h : m ≠ n) (k : Nat) (s : State) : (s.bumpBy n k).place m = s.place m := by
  simp [State.place, State.bumpBy, h]

@[simp] theorem State.place_bump_same (n : Nat) (s : State) : (s.bump n).place n = (s.place n + 1) % 2 ^ 64 := by
  simp [State.bump]

@[simp] theorem State.place_bump_other {n m : Nat} (h : m ≠ n) (s : State) : (s.bump n).place m = s.place m := by
  simp [State.bump, h]

/-! ### Trace entries -/

@[simp] theorem State.traceAs_pending (i : Int) (fl ev u sl d : Nat) (s : State) : (s.traceAs i fl ev u sl d).pending = s.pending := by
  unfold State.traceAs; split <;> rfl
@[simp] theorem State.traceAs_clk (i : Int) (fl ev u sl d : Nat) (s : State) : (s.traceAs i fl ev u sl d).clk = s.clk := by
  unfold State.traceAs; split <;> rfl
@[simp] theorem State.traceAs_dev (i : Int) (fl ev u sl d : Nat) (s : State) : (s.traceAs i fl ev u sl d).dev = s.dev := by
  unfold State.traceAs; split <;> rfl
@[simp] theorem State.traceAs_acq (i : Int) (fl ev u sl d : Nat) (s : State) : (s.traceAs i fl ev u sl d).acq = s.acq := by
  unfold State.traceAs; split <;> rfl
@[simp] theorem State.traceAs_seq (i : Int) (fl ev u sl d : Nat) (s : State) : (s.traceAs i fl ev u sl d).seq = s.seq := by
  unfold State.traceAs; split <;> rfl
@[simp] theorem State.traceAs_shown (i : Int) (fl ev u sl d : Nat) (s : State) : (s.traceAs i fl ev u sl d).shown = s.shown := by
  unfold State.traceAs; split <;> rfl
@[simp] theorem State.traceAs_od (i : Int) (fl ev u sl d : Nat) (s : State) : (s.traceAs i fl ev u sl d).od = s.od := by
  unfold State.traceAs; split <;> rfl
@[simp] theorem State.traceAs_free (i : Int) (fl ev u sl d : Nat) (s : State) : (s.traceAs i fl ev u sl d).free = s.free := by
  unfold State.traceAs; split <;> rfl
@[simp] theorem State.traceAs_fault (i : Int) (fl ev u sl d : Nat) (s : State) : (s.traceAs i fl ev u sl d).fault = s.fault := by
  unfold State.traceAs; split <;> rfl
@[simp] theorem State.traceAs_net (i : Int) (fl ev u sl d : Nat) (s : State) : (s.traceAs i fl ev u sl d).net = s.net := by
  unfold State.traceAs; split <;> rfl
@[simp] theorem State.traceAs_chans (i : Int) (fl ev u sl d : Nat) (s : State) : (s.traceAs i fl ev u sl d).chans = s.chans := by
  unfold State.traceAs; split <;> rfl
@[simp] theorem State.traceAs_quads (i : Int) (fl ev u sl d : Nat) (s : State) : (s.traceAs i fl ev u sl d).quads = s.quads := by
  unfold State.traceAs; split <;> rfl
@[simp] theorem State.traceAs_origin (i : Int) (fl ev u sl d : Nat) (s : State) : (s.traceAs i fl ev u sl d).origin = s.origin := by
  unfold State.traceAs; split <;> rfl
@[simp] theorem State.traceAs_sluice (i : Int) (fl ev u sl d : Nat) (s : State) : (s.traceAs i fl ev u sl d).sluice = s.sluice := by
  unfold State.traceAs; split <;> rfl
@[simp] theorem State.traceAs_plans (i : Int) (fl ev u sl d : Nat) (s : State) : (s.traceAs i fl ev u sl d).plans = s.plans := by
  unfold State.traceAs; split <;> rfl
@[simp] theorem State.traceAs_dir (i : Int) (fl ev u sl d : Nat) (s : State) : (s.traceAs i fl ev u sl d).dir = s.dir := by
  unfold State.traceAs; split <;> rfl
@[simp] theorem State.traceAs_pond (i : Int) (fl ev u sl d : Nat) (s : State) : (s.traceAs i fl ev u sl d).pond = s.pond := by
  unfold State.traceAs; split <;> rfl
@[simp] theorem State.traceAs_fan (i : Int) (fl ev u sl d : Nat) (s : State) : (s.traceAs i fl ev u sl d).fan = s.fan := by
  unfold State.traceAs; split <;> rfl
@[simp] theorem State.traceAs_dress (i : Int) (fl ev u sl d : Nat) (s : State) : (s.traceAs i fl ev u sl d).dress = s.dress := by
  unfold State.traceAs; split <;> rfl
@[simp] theorem State.traceAs_gov (i : Int) (fl ev u sl d : Nat) (s : State) : (s.traceAs i fl ev u sl d).gov = s.gov := by
  unfold State.traceAs; split <;> rfl
@[simp] theorem State.traceAs_pins (i : Int) (fl ev u sl d : Nat) (s : State) : (s.traceAs i fl ev u sl d).pins = s.pins := by
  unfold State.traceAs; split <;> rfl
@[simp] theorem State.traceAs_farm (i : Int) (fl ev u sl d : Nat) (s : State) : (s.traceAs i fl ev u sl d).farm = s.farm := by
  unfold State.traceAs; split <;> rfl
@[simp] theorem State.traceAs_layer (i : Int) (fl ev u sl d : Nat) (s : State) : (s.traceAs i fl ev u sl d).layer = s.layer := by
  unfold State.traceAs; split <;> rfl
@[simp] theorem State.traceAs_timer (i : Int) (fl ev u sl d : Nat) (s : State) : (s.traceAs i fl ev u sl d).timer = s.timer := by
  unfold State.traceAs; split <;> rfl
@[simp] theorem State.traceAs_mon (i : Int) (fl ev u sl d : Nat) (s : State) : (s.traceAs i fl ev u sl d).mon = s.mon := by
  unfold State.traceAs; split <;> rfl
@[simp] theorem State.traceAs_tail (i : Int) (fl ev u sl d : Nat) (s : State) : (s.traceAs i fl ev u sl d).tail = s.tail := by
  unfold State.traceAs; split <;> rfl
@[simp] theorem State.traceAs_upd (i : Int) (fl ev u sl d : Nat) (s : State) : (s.traceAs i fl ev u sl d).upd = s.upd := by
  unfold State.traceAs; split <;> rfl

@[simp] theorem State.traceEv_pending (ev u sl d : Nat) (s : State) : (s.trace_ ev u sl d).pending = s.pending := by
  unfold State.trace_; simp
@[simp] theorem State.traceEv_clk (ev u sl d : Nat) (s : State) : (s.trace_ ev u sl d).clk = s.clk := by
  unfold State.trace_; simp
@[simp] theorem State.traceEv_dev (ev u sl d : Nat) (s : State) : (s.trace_ ev u sl d).dev = s.dev := by
  unfold State.trace_; simp
@[simp] theorem State.traceEv_acq (ev u sl d : Nat) (s : State) : (s.trace_ ev u sl d).acq = s.acq := by
  unfold State.trace_; simp
@[simp] theorem State.traceEv_seq (ev u sl d : Nat) (s : State) : (s.trace_ ev u sl d).seq = s.seq := by
  unfold State.trace_; simp
@[simp] theorem State.traceEv_shown (ev u sl d : Nat) (s : State) : (s.trace_ ev u sl d).shown = s.shown := by
  unfold State.trace_; simp
@[simp] theorem State.traceEv_od (ev u sl d : Nat) (s : State) : (s.trace_ ev u sl d).od = s.od := by
  unfold State.trace_; simp
@[simp] theorem State.traceEv_free (ev u sl d : Nat) (s : State) : (s.trace_ ev u sl d).free = s.free := by
  unfold State.trace_; simp
@[simp] theorem State.traceEv_fault (ev u sl d : Nat) (s : State) : (s.trace_ ev u sl d).fault = s.fault := by
  unfold State.trace_; simp
@[simp] theorem State.traceEv_net (ev u sl d : Nat) (s : State) : (s.trace_ ev u sl d).net = s.net := by
  unfold State.trace_; simp
@[simp] theorem State.traceEv_chans (ev u sl d : Nat) (s : State) : (s.trace_ ev u sl d).chans = s.chans := by
  unfold State.trace_; simp
@[simp] theorem State.traceEv_quads (ev u sl d : Nat) (s : State) : (s.trace_ ev u sl d).quads = s.quads := by
  unfold State.trace_; simp
@[simp] theorem State.traceEv_origin (ev u sl d : Nat) (s : State) : (s.trace_ ev u sl d).origin = s.origin := by
  unfold State.trace_; simp
@[simp] theorem State.traceEv_sluice (ev u sl d : Nat) (s : State) : (s.trace_ ev u sl d).sluice = s.sluice := by
  unfold State.trace_; simp
@[simp] theorem State.traceEv_plans (ev u sl d : Nat) (s : State) : (s.trace_ ev u sl d).plans = s.plans := by
  unfold State.trace_; simp
@[simp] theorem State.traceEv_dir (ev u sl d : Nat) (s : State) : (s.trace_ ev u sl d).dir = s.dir := by
  unfold State.trace_; simp
@[simp] theorem State.traceEv_pond (ev u sl d : Nat) (s : State) : (s.trace_ ev u sl d).pond = s.pond := by
  unfold State.trace_; simp
@[simp] theorem State.traceEv_fan (ev u sl d : Nat) (s : State) : (s.trace_ ev u sl d).fan = s.fan := by
  unfold State.trace_; simp
@[simp] theorem State.traceEv_dress (ev u sl d : Nat) (s : State) : (s.trace_ ev u sl d).dress = s.dress := by
  unfold State.trace_; simp
@[simp] theorem State.traceEv_gov (ev u sl d : Nat) (s : State) : (s.trace_ ev u sl d).gov = s.gov := by
  unfold State.trace_; simp
@[simp] theorem State.traceEv_pins (ev u sl d : Nat) (s : State) : (s.trace_ ev u sl d).pins = s.pins := by
  unfold State.trace_; simp
@[simp] theorem State.traceEv_farm (ev u sl d : Nat) (s : State) : (s.trace_ ev u sl d).farm = s.farm := by
  unfold State.trace_; simp
@[simp] theorem State.traceEv_layer (ev u sl d : Nat) (s : State) : (s.trace_ ev u sl d).layer = s.layer := by
  unfold State.trace_; simp
@[simp] theorem State.traceEv_timer (ev u sl d : Nat) (s : State) : (s.trace_ ev u sl d).timer = s.timer := by
  unfold State.trace_; simp
@[simp] theorem State.traceEv_mon (ev u sl d : Nat) (s : State) : (s.trace_ ev u sl d).mon = s.mon := by
  unfold State.trace_; simp
@[simp] theorem State.traceEv_tail (ev u sl d : Nat) (s : State) : (s.trace_ ev u sl d).tail = s.tail := by
  unfold State.trace_; simp
@[simp] theorem State.traceEv_upd (ev u sl d : Nat) (s : State) : (s.trace_ ev u sl d).upd = s.upd := by
  unfold State.trace_; simp

@[simp] theorem State.traceAt_pending (i : Int) (ev u sl d : Nat) (s : State) : (s.traceAt i ev u sl d).pending = s.pending := by
  unfold State.traceAt; simp
@[simp] theorem State.traceAt_clk (i : Int) (ev u sl d : Nat) (s : State) : (s.traceAt i ev u sl d).clk = s.clk := by
  unfold State.traceAt; simp
@[simp] theorem State.traceAt_dev (i : Int) (ev u sl d : Nat) (s : State) : (s.traceAt i ev u sl d).dev = s.dev := by
  unfold State.traceAt; simp
@[simp] theorem State.traceAt_acq (i : Int) (ev u sl d : Nat) (s : State) : (s.traceAt i ev u sl d).acq = s.acq := by
  unfold State.traceAt; simp
@[simp] theorem State.traceAt_seq (i : Int) (ev u sl d : Nat) (s : State) : (s.traceAt i ev u sl d).seq = s.seq := by
  unfold State.traceAt; simp
@[simp] theorem State.traceAt_shown (i : Int) (ev u sl d : Nat) (s : State) : (s.traceAt i ev u sl d).shown = s.shown := by
  unfold State.traceAt; simp
@[simp] theorem State.traceAt_od (i : Int) (ev u sl d : Nat) (s : State) : (s.traceAt i ev u sl d).od = s.od := by
  unfold State.traceAt; simp
@[simp] theorem State.traceAt_free (i : Int) (ev u sl d : Nat) (s : State) : (s.traceAt i ev u sl d).free = s.free := by
  unfold State.traceAt; simp
@[simp] theorem State.traceAt_fault (i : Int) (ev u sl d : Nat) (s : State) : (s.traceAt i ev u sl d).fault = s.fault := by
  unfold State.traceAt; simp
@[simp] theorem State.traceAt_net (i : Int) (ev u sl d : Nat) (s : State) : (s.traceAt i ev u sl d).net = s.net := by
  unfold State.traceAt; simp
@[simp] theorem State.traceAt_chans (i : Int) (ev u sl d : Nat) (s : State) : (s.traceAt i ev u sl d).chans = s.chans := by
  unfold State.traceAt; simp
@[simp] theorem State.traceAt_quads (i : Int) (ev u sl d : Nat) (s : State) : (s.traceAt i ev u sl d).quads = s.quads := by
  unfold State.traceAt; simp
@[simp] theorem State.traceAt_origin (i : Int) (ev u sl d : Nat) (s : State) : (s.traceAt i ev u sl d).origin = s.origin := by
  unfold State.traceAt; simp
@[simp] theorem State.traceAt_sluice (i : Int) (ev u sl d : Nat) (s : State) : (s.traceAt i ev u sl d).sluice = s.sluice := by
  unfold State.traceAt; simp
@[simp] theorem State.traceAt_plans (i : Int) (ev u sl d : Nat) (s : State) : (s.traceAt i ev u sl d).plans = s.plans := by
  unfold State.traceAt; simp
@[simp] theorem State.traceAt_dir (i : Int) (ev u sl d : Nat) (s : State) : (s.traceAt i ev u sl d).dir = s.dir := by
  unfold State.traceAt; simp
@[simp] theorem State.traceAt_pond (i : Int) (ev u sl d : Nat) (s : State) : (s.traceAt i ev u sl d).pond = s.pond := by
  unfold State.traceAt; simp
@[simp] theorem State.traceAt_fan (i : Int) (ev u sl d : Nat) (s : State) : (s.traceAt i ev u sl d).fan = s.fan := by
  unfold State.traceAt; simp
@[simp] theorem State.traceAt_dress (i : Int) (ev u sl d : Nat) (s : State) : (s.traceAt i ev u sl d).dress = s.dress := by
  unfold State.traceAt; simp
@[simp] theorem State.traceAt_gov (i : Int) (ev u sl d : Nat) (s : State) : (s.traceAt i ev u sl d).gov = s.gov := by
  unfold State.traceAt; simp
@[simp] theorem State.traceAt_pins (i : Int) (ev u sl d : Nat) (s : State) : (s.traceAt i ev u sl d).pins = s.pins := by
  unfold State.traceAt; simp
@[simp] theorem State.traceAt_farm (i : Int) (ev u sl d : Nat) (s : State) : (s.traceAt i ev u sl d).farm = s.farm := by
  unfold State.traceAt; simp
@[simp] theorem State.traceAt_layer (i : Int) (ev u sl d : Nat) (s : State) : (s.traceAt i ev u sl d).layer = s.layer := by
  unfold State.traceAt; simp
@[simp] theorem State.traceAt_timer (i : Int) (ev u sl d : Nat) (s : State) : (s.traceAt i ev u sl d).timer = s.timer := by
  unfold State.traceAt; simp
@[simp] theorem State.traceAt_mon (i : Int) (ev u sl d : Nat) (s : State) : (s.traceAt i ev u sl d).mon = s.mon := by
  unfold State.traceAt; simp
@[simp] theorem State.traceAt_tail (i : Int) (ev u sl d : Nat) (s : State) : (s.traceAt i ev u sl d).tail = s.tail := by
  unfold State.traceAt; simp
@[simp] theorem State.traceAt_upd (i : Int) (ev u sl d : Nat) (s : State) : (s.traceAt i ev u sl d).upd = s.upd := by
  unfold State.traceAt; simp

/-! ### EMCY messages -/

@[simp] theorem State.emcy_pending (m : Emcy) (s : State) : (s.emcy m).pending = s.pending := by
  unfold State.emcy; split <;> rfl
@[simp] theorem State.emcy_clk (m : Emcy) (s : State) : (s.emcy m).clk = s.clk := by
  unfold State.emcy; split <;> rfl
@[simp] theorem State.emcy_dev (m : Emcy) (s : State) : (s.emcy m).dev = s.dev := by
  unfold State.emcy; split <;> rfl
@[simp] theorem State.emcy_acq (m : Emcy) (s : State) : (s.emcy m).acq = s.acq := by
  unfold State.emcy; split <;> rfl
@[simp] theorem State.emcy_seq (m : Emcy) (s : State) : (s.emcy m).seq = s.seq := by
  unfold State.emcy; split <;> rfl
@[simp] theorem State.emcy_shown (m : Emcy) (s : State) : (s.emcy m).shown = s.shown := by
  unfold State.emcy; split <;> rfl
@[simp] theorem State.emcy_free (m : Emcy) (s : State) : (s.emcy m).free = s.free := by
  unfold State.emcy; split <;> rfl
@[simp] theorem State.emcy_trace (m : Emcy) (s : State) : (s.emcy m).trace = s.trace := by
  unfold State.emcy; split <;> rfl
@[simp] theorem State.emcy_net (m : Emcy) (s : State) : (s.emcy m).net = s.net := by
  unfold State.emcy; split <;> rfl
@[simp] theorem State.emcy_chans (m : Emcy) (s : State) : (s.emcy m).chans = s.chans := by
  unfold State.emcy; split <;> rfl
@[simp] theorem State.emcy_quads (m : Emcy) (s : State) : (s.emcy m).quads = s.quads := by
  unfold State.emcy; split <;> rfl
@[simp] theorem State.emcy_origin (m : Emcy) (s : State) : (s.emcy m).origin = s.origin := by
  unfold State.emcy; split <;> rfl
@[simp] theorem State.emcy_sluice (m : Emcy) (s : State) : (s.emcy m).sluice = s.sluice := by
  unfold State.emcy; split <;> rfl
@[simp] theorem State.emcy_plans (m : Emcy) (s : State) : (s.emcy m).plans = s.plans := by
  unfold State.emcy; split <;> rfl
@[simp] theorem State.emcy_dir (m : Emcy) (s : State) : (s.emcy m).dir = s.dir := by
  unfold State.emcy; split <;> rfl
@[simp] theorem State.emcy_pond (m : Emcy) (s : State) : (s.emcy m).pond = s.pond := by
  unfold State.emcy; split <;> rfl
@[simp] theorem State.emcy_fan (m : Emcy) (s : State) : (s.emcy m).fan = s.fan := by
  unfold State.emcy; split <;> rfl
@[simp] theorem State.emcy_dress (m : Emcy) (s : State) : (s.emcy m).dress = s.dress := by
  unfold State.emcy; split <;> rfl
@[simp] theorem State.emcy_gov (m : Emcy) (s : State) : (s.emcy m).gov = s.gov := by
  unfold State.emcy; split <;> rfl
@[simp] theorem State.emcy_pins (m : Emcy) (s : State) : (s.emcy m).pins = s.pins := by
  unfold State.emcy; split <;> rfl
@[simp] theorem State.emcy_farm (m : Emcy) (s : State) : (s.emcy m).farm = s.farm := by
  unfold State.emcy; split <;> rfl
@[simp] theorem State.emcy_layer (m : Emcy) (s : State) : (s.emcy m).layer = s.layer := by
  unfold State.emcy; split <;> rfl
@[simp] theorem State.emcy_timer (m : Emcy) (s : State) : (s.emcy m).timer = s.timer := by
  unfold State.emcy; split <;> rfl
@[simp] theorem State.emcy_mon (m : Emcy) (s : State) : (s.emcy m).mon = s.mon := by
  unfold State.emcy; split <;> rfl
@[simp] theorem State.emcy_tail (m : Emcy) (s : State) : (s.emcy m).tail = s.tail := by
  unfold State.emcy; split <;> rfl
@[simp] theorem State.emcy_upd (m : Emcy) (s : State) : (s.emcy m).upd = s.upd := by
  unfold State.emcy; split <;> rfl

@[simp] theorem State.emcyCode_pending (c : Nat) (s : State) : (s.emcyCode c).pending = s.pending := by
  unfold State.emcyCode; simp
@[simp] theorem State.emcyCode_clk (c : Nat) (s : State) : (s.emcyCode c).clk = s.clk := by
  unfold State.emcyCode; simp
@[simp] theorem State.emcyCode_dev (c : Nat) (s : State) : (s.emcyCode c).dev = s.dev := by
  unfold State.emcyCode; simp
@[simp] theorem State.emcyCode_acq (c : Nat) (s : State) : (s.emcyCode c).acq = s.acq := by
  unfold State.emcyCode; simp
@[simp] theorem State.emcyCode_seq (c : Nat) (s : State) : (s.emcyCode c).seq = s.seq := by
  unfold State.emcyCode; simp
@[simp] theorem State.emcyCode_shown (c : Nat) (s : State) : (s.emcyCode c).shown = s.shown := by
  unfold State.emcyCode; simp
@[simp] theorem State.emcyCode_free (c : Nat) (s : State) : (s.emcyCode c).free = s.free := by
  unfold State.emcyCode; simp
@[simp] theorem State.emcyCode_trace (c : Nat) (s : State) : (s.emcyCode c).trace = s.trace := by
  unfold State.emcyCode; simp
@[simp] theorem State.emcyCode_net (c : Nat) (s : State) : (s.emcyCode c).net = s.net := by
  unfold State.emcyCode; simp
@[simp] theorem State.emcyCode_chans (c : Nat) (s : State) : (s.emcyCode c).chans = s.chans := by
  unfold State.emcyCode; simp
@[simp] theorem State.emcyCode_quads (c : Nat) (s : State) : (s.emcyCode c).quads = s.quads := by
  unfold State.emcyCode; simp
@[simp] theorem State.emcyCode_origin (c : Nat) (s : State) : (s.emcyCode c).origin = s.origin := by
  unfold State.emcyCode; simp
@[simp] theorem State.emcyCode_sluice (c : Nat) (s : State) : (s.emcyCode c).sluice = s.sluice := by
  unfold State.emcyCode; simp
@[simp] theorem State.emcyCode_plans (c : Nat) (s : State) : (s.emcyCode c).plans = s.plans := by
  unfold State.emcyCode; simp
@[simp] theorem State.emcyCode_dir (c : Nat) (s : State) : (s.emcyCode c).dir = s.dir := by
  unfold State.emcyCode; simp
@[simp] theorem State.emcyCode_pond (c : Nat) (s : State) : (s.emcyCode c).pond = s.pond := by
  unfold State.emcyCode; simp
@[simp] theorem State.emcyCode_fan (c : Nat) (s : State) : (s.emcyCode c).fan = s.fan := by
  unfold State.emcyCode; simp
@[simp] theorem State.emcyCode_dress (c : Nat) (s : State) : (s.emcyCode c).dress = s.dress := by
  unfold State.emcyCode; simp
@[simp] theorem State.emcyCode_gov (c : Nat) (s : State) : (s.emcyCode c).gov = s.gov := by
  unfold State.emcyCode; simp
@[simp] theorem State.emcyCode_pins (c : Nat) (s : State) : (s.emcyCode c).pins = s.pins := by
  unfold State.emcyCode; simp
@[simp] theorem State.emcyCode_farm (c : Nat) (s : State) : (s.emcyCode c).farm = s.farm := by
  unfold State.emcyCode; simp
@[simp] theorem State.emcyCode_layer (c : Nat) (s : State) : (s.emcyCode c).layer = s.layer := by
  unfold State.emcyCode; simp
@[simp] theorem State.emcyCode_timer (c : Nat) (s : State) : (s.emcyCode c).timer = s.timer := by
  unfold State.emcyCode; simp
@[simp] theorem State.emcyCode_mon (c : Nat) (s : State) : (s.emcyCode c).mon = s.mon := by
  unfold State.emcyCode; simp
@[simp] theorem State.emcyCode_tail (c : Nat) (s : State) : (s.emcyCode c).tail = s.tail := by
  unfold State.emcyCode; simp
@[simp] theorem State.emcyCode_upd (c : Nat) (s : State) : (s.emcyCode c).upd = s.upd := by
  unfold State.emcyCode; simp

/-! ### Fault records -/

@[simp] theorem State.recordAs_pending (fl kd u sl oc d intr : Nat) (i : Int) (unc send : Bool) (s : State) : (s.recordAs fl kd u sl oc d intr i unc send).pending = s.pending := by
  unfold State.recordAs; simp only []; repeat' split
  all_goals simp
@[simp] theorem State.recordAs_clk (fl kd u sl oc d intr : Nat) (i : Int) (unc send : Bool) (s : State) : (s.recordAs fl kd u sl oc d intr i unc send).clk = s.clk := by
  unfold State.recordAs; simp only []; repeat' split
  all_goals simp
@[simp] theorem State.recordAs_dev (fl kd u sl oc d intr : Nat) (i : Int) (unc send : Bool) (s : State) : (s.recordAs fl kd u sl oc d intr i unc send).dev = s.dev := by
  unfold State.recordAs; simp only []; repeat' split
  all_goals simp
@[simp] theorem State.recordAs_acq (fl kd u sl oc d intr : Nat) (i : Int) (unc send : Bool) (s : State) : (s.recordAs fl kd u sl oc d intr i unc send).acq = s.acq := by
  unfold State.recordAs; simp only []; repeat' split
  all_goals simp
@[simp] theorem State.recordAs_seq (fl kd u sl oc d intr : Nat) (i : Int) (unc send : Bool) (s : State) : (s.recordAs fl kd u sl oc d intr i unc send).seq = s.seq := by
  unfold State.recordAs; simp only []; repeat' split
  all_goals simp
@[simp] theorem State.recordAs_shown (fl kd u sl oc d intr : Nat) (i : Int) (unc send : Bool) (s : State) : (s.recordAs fl kd u sl oc d intr i unc send).shown = s.shown := by
  unfold State.recordAs; simp only []; repeat' split
  all_goals simp
@[simp] theorem State.recordAs_free (fl kd u sl oc d intr : Nat) (i : Int) (unc send : Bool) (s : State) : (s.recordAs fl kd u sl oc d intr i unc send).free = s.free := by
  unfold State.recordAs; simp only []; repeat' split
  all_goals simp
@[simp] theorem State.recordAs_net (fl kd u sl oc d intr : Nat) (i : Int) (unc send : Bool) (s : State) : (s.recordAs fl kd u sl oc d intr i unc send).net = s.net := by
  unfold State.recordAs; simp only []; repeat' split
  all_goals simp
@[simp] theorem State.recordAs_chans (fl kd u sl oc d intr : Nat) (i : Int) (unc send : Bool) (s : State) : (s.recordAs fl kd u sl oc d intr i unc send).chans = s.chans := by
  unfold State.recordAs; simp only []; repeat' split
  all_goals simp
@[simp] theorem State.recordAs_quads (fl kd u sl oc d intr : Nat) (i : Int) (unc send : Bool) (s : State) : (s.recordAs fl kd u sl oc d intr i unc send).quads = s.quads := by
  unfold State.recordAs; simp only []; repeat' split
  all_goals simp
@[simp] theorem State.recordAs_origin (fl kd u sl oc d intr : Nat) (i : Int) (unc send : Bool) (s : State) : (s.recordAs fl kd u sl oc d intr i unc send).origin = s.origin := by
  unfold State.recordAs; simp only []; repeat' split
  all_goals simp
@[simp] theorem State.recordAs_sluice (fl kd u sl oc d intr : Nat) (i : Int) (unc send : Bool) (s : State) : (s.recordAs fl kd u sl oc d intr i unc send).sluice = s.sluice := by
  unfold State.recordAs; simp only []; repeat' split
  all_goals simp
@[simp] theorem State.recordAs_plans (fl kd u sl oc d intr : Nat) (i : Int) (unc send : Bool) (s : State) : (s.recordAs fl kd u sl oc d intr i unc send).plans = s.plans := by
  unfold State.recordAs; simp only []; repeat' split
  all_goals simp
@[simp] theorem State.recordAs_dir (fl kd u sl oc d intr : Nat) (i : Int) (unc send : Bool) (s : State) : (s.recordAs fl kd u sl oc d intr i unc send).dir = s.dir := by
  unfold State.recordAs; simp only []; repeat' split
  all_goals simp
@[simp] theorem State.recordAs_pond (fl kd u sl oc d intr : Nat) (i : Int) (unc send : Bool) (s : State) : (s.recordAs fl kd u sl oc d intr i unc send).pond = s.pond := by
  unfold State.recordAs; simp only []; repeat' split
  all_goals simp
@[simp] theorem State.recordAs_fan (fl kd u sl oc d intr : Nat) (i : Int) (unc send : Bool) (s : State) : (s.recordAs fl kd u sl oc d intr i unc send).fan = s.fan := by
  unfold State.recordAs; simp only []; repeat' split
  all_goals simp
@[simp] theorem State.recordAs_dress (fl kd u sl oc d intr : Nat) (i : Int) (unc send : Bool) (s : State) : (s.recordAs fl kd u sl oc d intr i unc send).dress = s.dress := by
  unfold State.recordAs; simp only []; repeat' split
  all_goals simp
@[simp] theorem State.recordAs_gov (fl kd u sl oc d intr : Nat) (i : Int) (unc send : Bool) (s : State) : (s.recordAs fl kd u sl oc d intr i unc send).gov = s.gov := by
  unfold State.recordAs; simp only []; repeat' split
  all_goals simp
@[simp] theorem State.recordAs_pins (fl kd u sl oc d intr : Nat) (i : Int) (unc send : Bool) (s : State) : (s.recordAs fl kd u sl oc d intr i unc send).pins = s.pins := by
  unfold State.recordAs; simp only []; repeat' split
  all_goals simp
@[simp] theorem State.recordAs_farm (fl kd u sl oc d intr : Nat) (i : Int) (unc send : Bool) (s : State) : (s.recordAs fl kd u sl oc d intr i unc send).farm = s.farm := by
  unfold State.recordAs; simp only []; repeat' split
  all_goals simp
@[simp] theorem State.recordAs_layer (fl kd u sl oc d intr : Nat) (i : Int) (unc send : Bool) (s : State) : (s.recordAs fl kd u sl oc d intr i unc send).layer = s.layer := by
  unfold State.recordAs; simp only []; repeat' split
  all_goals simp
@[simp] theorem State.recordAs_timer (fl kd u sl oc d intr : Nat) (i : Int) (unc send : Bool) (s : State) : (s.recordAs fl kd u sl oc d intr i unc send).timer = s.timer := by
  unfold State.recordAs; simp only []; repeat' split
  all_goals simp
@[simp] theorem State.recordAs_mon (fl kd u sl oc d intr : Nat) (i : Int) (unc send : Bool) (s : State) : (s.recordAs fl kd u sl oc d intr i unc send).mon = s.mon := by
  unfold State.recordAs; simp only []; repeat' split
  all_goals simp
@[simp] theorem State.recordAs_tail (fl kd u sl oc d intr : Nat) (i : Int) (unc send : Bool) (s : State) : (s.recordAs fl kd u sl oc d intr i unc send).tail = s.tail := by
  unfold State.recordAs; simp only []; repeat' split
  all_goals simp
@[simp] theorem State.recordAs_upd (fl kd u sl oc d intr : Nat) (i : Int) (unc send : Bool) (s : State) : (s.recordAs fl kd u sl oc d intr i unc send).upd = s.upd := by
  unfold State.recordAs; simp only []; repeat' split
  all_goals simp

@[simp] theorem State.record_pending (kd u sl oc d intr : Nat) (i : Int) (unc send : Bool) (s : State) : (s.record kd u sl oc d intr i unc send).pending = s.pending := by
  unfold State.record; simp
@[simp] theorem State.record_clk (kd u sl oc d intr : Nat) (i : Int) (unc send : Bool) (s : State) : (s.record kd u sl oc d intr i unc send).clk = s.clk := by
  unfold State.record; simp
@[simp] theorem State.record_dev (kd u sl oc d intr : Nat) (i : Int) (unc send : Bool) (s : State) : (s.record kd u sl oc d intr i unc send).dev = s.dev := by
  unfold State.record; simp
@[simp] theorem State.record_acq (kd u sl oc d intr : Nat) (i : Int) (unc send : Bool) (s : State) : (s.record kd u sl oc d intr i unc send).acq = s.acq := by
  unfold State.record; simp
@[simp] theorem State.record_seq (kd u sl oc d intr : Nat) (i : Int) (unc send : Bool) (s : State) : (s.record kd u sl oc d intr i unc send).seq = s.seq := by
  unfold State.record; simp
@[simp] theorem State.record_shown (kd u sl oc d intr : Nat) (i : Int) (unc send : Bool) (s : State) : (s.record kd u sl oc d intr i unc send).shown = s.shown := by
  unfold State.record; simp
@[simp] theorem State.record_free (kd u sl oc d intr : Nat) (i : Int) (unc send : Bool) (s : State) : (s.record kd u sl oc d intr i unc send).free = s.free := by
  unfold State.record; simp
@[simp] theorem State.record_net (kd u sl oc d intr : Nat) (i : Int) (unc send : Bool) (s : State) : (s.record kd u sl oc d intr i unc send).net = s.net := by
  unfold State.record; simp
@[simp] theorem State.record_chans (kd u sl oc d intr : Nat) (i : Int) (unc send : Bool) (s : State) : (s.record kd u sl oc d intr i unc send).chans = s.chans := by
  unfold State.record; simp
@[simp] theorem State.record_quads (kd u sl oc d intr : Nat) (i : Int) (unc send : Bool) (s : State) : (s.record kd u sl oc d intr i unc send).quads = s.quads := by
  unfold State.record; simp
@[simp] theorem State.record_origin (kd u sl oc d intr : Nat) (i : Int) (unc send : Bool) (s : State) : (s.record kd u sl oc d intr i unc send).origin = s.origin := by
  unfold State.record; simp
@[simp] theorem State.record_sluice (kd u sl oc d intr : Nat) (i : Int) (unc send : Bool) (s : State) : (s.record kd u sl oc d intr i unc send).sluice = s.sluice := by
  unfold State.record; simp
@[simp] theorem State.record_plans (kd u sl oc d intr : Nat) (i : Int) (unc send : Bool) (s : State) : (s.record kd u sl oc d intr i unc send).plans = s.plans := by
  unfold State.record; simp
@[simp] theorem State.record_dir (kd u sl oc d intr : Nat) (i : Int) (unc send : Bool) (s : State) : (s.record kd u sl oc d intr i unc send).dir = s.dir := by
  unfold State.record; simp
@[simp] theorem State.record_pond (kd u sl oc d intr : Nat) (i : Int) (unc send : Bool) (s : State) : (s.record kd u sl oc d intr i unc send).pond = s.pond := by
  unfold State.record; simp
@[simp] theorem State.record_fan (kd u sl oc d intr : Nat) (i : Int) (unc send : Bool) (s : State) : (s.record kd u sl oc d intr i unc send).fan = s.fan := by
  unfold State.record; simp
@[simp] theorem State.record_dress (kd u sl oc d intr : Nat) (i : Int) (unc send : Bool) (s : State) : (s.record kd u sl oc d intr i unc send).dress = s.dress := by
  unfold State.record; simp
@[simp] theorem State.record_gov (kd u sl oc d intr : Nat) (i : Int) (unc send : Bool) (s : State) : (s.record kd u sl oc d intr i unc send).gov = s.gov := by
  unfold State.record; simp
@[simp] theorem State.record_pins (kd u sl oc d intr : Nat) (i : Int) (unc send : Bool) (s : State) : (s.record kd u sl oc d intr i unc send).pins = s.pins := by
  unfold State.record; simp
@[simp] theorem State.record_farm (kd u sl oc d intr : Nat) (i : Int) (unc send : Bool) (s : State) : (s.record kd u sl oc d intr i unc send).farm = s.farm := by
  unfold State.record; simp
@[simp] theorem State.record_layer (kd u sl oc d intr : Nat) (i : Int) (unc send : Bool) (s : State) : (s.record kd u sl oc d intr i unc send).layer = s.layer := by
  unfold State.record; simp
@[simp] theorem State.record_timer (kd u sl oc d intr : Nat) (i : Int) (unc send : Bool) (s : State) : (s.record kd u sl oc d intr i unc send).timer = s.timer := by
  unfold State.record; simp
@[simp] theorem State.record_mon (kd u sl oc d intr : Nat) (i : Int) (unc send : Bool) (s : State) : (s.record kd u sl oc d intr i unc send).mon = s.mon := by
  unfold State.record; simp
@[simp] theorem State.record_tail (kd u sl oc d intr : Nat) (i : Int) (unc send : Bool) (s : State) : (s.record kd u sl oc d intr i unc send).tail = s.tail := by
  unfold State.record; simp
@[simp] theorem State.record_upd (kd u sl oc d intr : Nat) (i : Int) (unc send : Bool) (s : State) : (s.record kd u sl oc d intr i unc send).upd = s.upd := by
  unfold State.record; simp

@[simp] theorem State.covered_pending (kd u sl oc d intr : Nat) (s : State) : (s.covered kd u sl oc d intr).pending = s.pending := by
  unfold State.covered; simp
@[simp] theorem State.covered_clk (kd u sl oc d intr : Nat) (s : State) : (s.covered kd u sl oc d intr).clk = s.clk := by
  unfold State.covered; simp
@[simp] theorem State.covered_dev (kd u sl oc d intr : Nat) (s : State) : (s.covered kd u sl oc d intr).dev = s.dev := by
  unfold State.covered; simp
@[simp] theorem State.covered_acq (kd u sl oc d intr : Nat) (s : State) : (s.covered kd u sl oc d intr).acq = s.acq := by
  unfold State.covered; simp
@[simp] theorem State.covered_seq (kd u sl oc d intr : Nat) (s : State) : (s.covered kd u sl oc d intr).seq = s.seq := by
  unfold State.covered; simp
@[simp] theorem State.covered_shown (kd u sl oc d intr : Nat) (s : State) : (s.covered kd u sl oc d intr).shown = s.shown := by
  unfold State.covered; simp
@[simp] theorem State.covered_free (kd u sl oc d intr : Nat) (s : State) : (s.covered kd u sl oc d intr).free = s.free := by
  unfold State.covered; simp
@[simp] theorem State.covered_net (kd u sl oc d intr : Nat) (s : State) : (s.covered kd u sl oc d intr).net = s.net := by
  unfold State.covered; simp
@[simp] theorem State.covered_chans (kd u sl oc d intr : Nat) (s : State) : (s.covered kd u sl oc d intr).chans = s.chans := by
  unfold State.covered; simp
@[simp] theorem State.covered_quads (kd u sl oc d intr : Nat) (s : State) : (s.covered kd u sl oc d intr).quads = s.quads := by
  unfold State.covered; simp
@[simp] theorem State.covered_origin (kd u sl oc d intr : Nat) (s : State) : (s.covered kd u sl oc d intr).origin = s.origin := by
  unfold State.covered; simp
@[simp] theorem State.covered_sluice (kd u sl oc d intr : Nat) (s : State) : (s.covered kd u sl oc d intr).sluice = s.sluice := by
  unfold State.covered; simp
@[simp] theorem State.covered_plans (kd u sl oc d intr : Nat) (s : State) : (s.covered kd u sl oc d intr).plans = s.plans := by
  unfold State.covered; simp
@[simp] theorem State.covered_dir (kd u sl oc d intr : Nat) (s : State) : (s.covered kd u sl oc d intr).dir = s.dir := by
  unfold State.covered; simp
@[simp] theorem State.covered_pond (kd u sl oc d intr : Nat) (s : State) : (s.covered kd u sl oc d intr).pond = s.pond := by
  unfold State.covered; simp
@[simp] theorem State.covered_fan (kd u sl oc d intr : Nat) (s : State) : (s.covered kd u sl oc d intr).fan = s.fan := by
  unfold State.covered; simp
@[simp] theorem State.covered_dress (kd u sl oc d intr : Nat) (s : State) : (s.covered kd u sl oc d intr).dress = s.dress := by
  unfold State.covered; simp
@[simp] theorem State.covered_gov (kd u sl oc d intr : Nat) (s : State) : (s.covered kd u sl oc d intr).gov = s.gov := by
  unfold State.covered; simp
@[simp] theorem State.covered_pins (kd u sl oc d intr : Nat) (s : State) : (s.covered kd u sl oc d intr).pins = s.pins := by
  unfold State.covered; simp
@[simp] theorem State.covered_farm (kd u sl oc d intr : Nat) (s : State) : (s.covered kd u sl oc d intr).farm = s.farm := by
  unfold State.covered; simp
@[simp] theorem State.covered_layer (kd u sl oc d intr : Nat) (s : State) : (s.covered kd u sl oc d intr).layer = s.layer := by
  unfold State.covered; simp
@[simp] theorem State.covered_timer (kd u sl oc d intr : Nat) (s : State) : (s.covered kd u sl oc d intr).timer = s.timer := by
  unfold State.covered; simp
@[simp] theorem State.covered_mon (kd u sl oc d intr : Nat) (s : State) : (s.covered kd u sl oc d intr).mon = s.mon := by
  unfold State.covered; simp
@[simp] theorem State.covered_tail (kd u sl oc d intr : Nat) (s : State) : (s.covered kd u sl oc d intr).tail = s.tail := by
  unfold State.covered; simp
@[simp] theorem State.covered_upd (kd u sl oc d intr : Nat) (s : State) : (s.covered kd u sl oc d intr).upd = s.upd := by
  unfold State.covered; simp

@[simp] theorem State.traceStates_pending (s : State) : (s.traceStates).pending = s.pending := by
  unfold State.traceStates; simp
@[simp] theorem State.traceStates_clk (s : State) : (s.traceStates).clk = s.clk := by
  unfold State.traceStates; simp
@[simp] theorem State.traceStates_dev (s : State) : (s.traceStates).dev = s.dev := by
  unfold State.traceStates; simp
@[simp] theorem State.traceStates_acq (s : State) : (s.traceStates).acq = s.acq := by
  unfold State.traceStates; simp
@[simp] theorem State.traceStates_seq (s : State) : (s.traceStates).seq = s.seq := by
  unfold State.traceStates; simp
@[simp] theorem State.traceStates_shown (s : State) : (s.traceStates).shown = s.shown := by
  unfold State.traceStates; simp
@[simp] theorem State.traceStates_od (s : State) : (s.traceStates).od = s.od := by
  unfold State.traceStates; simp
@[simp] theorem State.traceStates_free (s : State) : (s.traceStates).free = s.free := by
  unfold State.traceStates; simp
@[simp] theorem State.traceStates_fault (s : State) : (s.traceStates).fault = s.fault := by
  unfold State.traceStates; simp
@[simp] theorem State.traceStates_net (s : State) : (s.traceStates).net = s.net := by
  unfold State.traceStates; simp
@[simp] theorem State.traceStates_chans (s : State) : (s.traceStates).chans = s.chans := by
  unfold State.traceStates; simp
@[simp] theorem State.traceStates_quads (s : State) : (s.traceStates).quads = s.quads := by
  unfold State.traceStates; simp
@[simp] theorem State.traceStates_origin (s : State) : (s.traceStates).origin = s.origin := by
  unfold State.traceStates; simp
@[simp] theorem State.traceStates_sluice (s : State) : (s.traceStates).sluice = s.sluice := by
  unfold State.traceStates; simp
@[simp] theorem State.traceStates_plans (s : State) : (s.traceStates).plans = s.plans := by
  unfold State.traceStates; simp
@[simp] theorem State.traceStates_dir (s : State) : (s.traceStates).dir = s.dir := by
  unfold State.traceStates; simp
@[simp] theorem State.traceStates_pond (s : State) : (s.traceStates).pond = s.pond := by
  unfold State.traceStates; simp
@[simp] theorem State.traceStates_fan (s : State) : (s.traceStates).fan = s.fan := by
  unfold State.traceStates; simp
@[simp] theorem State.traceStates_dress (s : State) : (s.traceStates).dress = s.dress := by
  unfold State.traceStates; simp
@[simp] theorem State.traceStates_gov (s : State) : (s.traceStates).gov = s.gov := by
  unfold State.traceStates; simp
@[simp] theorem State.traceStates_pins (s : State) : (s.traceStates).pins = s.pins := by
  unfold State.traceStates; simp
@[simp] theorem State.traceStates_farm (s : State) : (s.traceStates).farm = s.farm := by
  unfold State.traceStates; simp
@[simp] theorem State.traceStates_layer (s : State) : (s.traceStates).layer = s.layer := by
  unfold State.traceStates; simp
@[simp] theorem State.traceStates_timer (s : State) : (s.traceStates).timer = s.timer := by
  unfold State.traceStates; simp
@[simp] theorem State.traceStates_mon (s : State) : (s.traceStates).mon = s.mon := by
  unfold State.traceStates; simp
@[simp] theorem State.traceStates_tail (s : State) : (s.traceStates).tail = s.tail := by
  unfold State.traceStates; simp
@[simp] theorem State.traceStates_upd (s : State) : (s.traceStates).upd = s.upd := by
  unfold State.traceStates; simp

@[simp] theorem State.noteStates_pending (s : State) : (s.noteStates).pending = s.pending := by
  unfold State.noteStates; repeat' split
  all_goals simp
@[simp] theorem State.noteStates_clk (s : State) : (s.noteStates).clk = s.clk := by
  unfold State.noteStates; repeat' split
  all_goals simp
@[simp] theorem State.noteStates_dev (s : State) : (s.noteStates).dev = s.dev := by
  unfold State.noteStates; repeat' split
  all_goals simp
@[simp] theorem State.noteStates_od (s : State) : (s.noteStates).od = s.od := by
  unfold State.noteStates; repeat' split
  all_goals simp
@[simp] theorem State.noteStates_free (s : State) : (s.noteStates).free = s.free := by
  unfold State.noteStates; repeat' split
  all_goals simp
@[simp] theorem State.noteStates_fault (s : State) : (s.noteStates).fault = s.fault := by
  unfold State.noteStates; repeat' split
  all_goals simp
@[simp] theorem State.noteStates_net (s : State) : (s.noteStates).net = s.net := by
  unfold State.noteStates; repeat' split
  all_goals simp
@[simp] theorem State.noteStates_chans (s : State) : (s.noteStates).chans = s.chans := by
  unfold State.noteStates; repeat' split
  all_goals simp
@[simp] theorem State.noteStates_quads (s : State) : (s.noteStates).quads = s.quads := by
  unfold State.noteStates; repeat' split
  all_goals simp
@[simp] theorem State.noteStates_origin (s : State) : (s.noteStates).origin = s.origin := by
  unfold State.noteStates; repeat' split
  all_goals simp
@[simp] theorem State.noteStates_sluice (s : State) : (s.noteStates).sluice = s.sluice := by
  unfold State.noteStates; repeat' split
  all_goals simp
@[simp] theorem State.noteStates_plans (s : State) : (s.noteStates).plans = s.plans := by
  unfold State.noteStates; repeat' split
  all_goals simp
@[simp] theorem State.noteStates_dir (s : State) : (s.noteStates).dir = s.dir := by
  unfold State.noteStates; repeat' split
  all_goals simp
@[simp] theorem State.noteStates_pond (s : State) : (s.noteStates).pond = s.pond := by
  unfold State.noteStates; repeat' split
  all_goals simp
@[simp] theorem State.noteStates_fan (s : State) : (s.noteStates).fan = s.fan := by
  unfold State.noteStates; repeat' split
  all_goals simp
@[simp] theorem State.noteStates_dress (s : State) : (s.noteStates).dress = s.dress := by
  unfold State.noteStates; repeat' split
  all_goals simp
@[simp] theorem State.noteStates_gov (s : State) : (s.noteStates).gov = s.gov := by
  unfold State.noteStates; repeat' split
  all_goals simp
@[simp] theorem State.noteStates_pins (s : State) : (s.noteStates).pins = s.pins := by
  unfold State.noteStates; repeat' split
  all_goals simp
@[simp] theorem State.noteStates_farm (s : State) : (s.noteStates).farm = s.farm := by
  unfold State.noteStates; repeat' split
  all_goals simp
@[simp] theorem State.noteStates_layer (s : State) : (s.noteStates).layer = s.layer := by
  unfold State.noteStates; repeat' split
  all_goals simp
@[simp] theorem State.noteStates_timer (s : State) : (s.noteStates).timer = s.timer := by
  unfold State.noteStates; repeat' split
  all_goals simp
@[simp] theorem State.noteStates_mon (s : State) : (s.noteStates).mon = s.mon := by
  unfold State.noteStates; repeat' split
  all_goals simp
@[simp] theorem State.noteStates_tail (s : State) : (s.noteStates).tail = s.tail := by
  unfold State.noteStates; repeat' split
  all_goals simp
@[simp] theorem State.noteStates_upd (s : State) : (s.noteStates).upd = s.upd := by
  unfold State.noteStates; repeat' split
  all_goals simp

/-! ### The end of every step -/

@[simp] theorem State.tell_pending (s0 : State) (s : State) : (s0.tell s).pending = s.pending := by
  unfold State.tell; split <;> simp
@[simp] theorem State.tell_clk (s0 : State) (s : State) : (s0.tell s).clk = s.clk := by
  unfold State.tell; split <;> simp
@[simp] theorem State.tell_dev (s0 : State) (s : State) : (s0.tell s).dev = s.dev := by
  unfold State.tell; split <;> simp
@[simp] theorem State.tell_od (s0 : State) (s : State) : (s0.tell s).od = s.od := by
  unfold State.tell; split <;> simp
@[simp] theorem State.tell_free (s0 : State) (s : State) : (s0.tell s).free = s.free := by
  unfold State.tell; split <;> simp
@[simp] theorem State.tell_fault (s0 : State) (s : State) : (s0.tell s).fault = s.fault := by
  unfold State.tell; split <;> simp
@[simp] theorem State.tell_net (s0 : State) (s : State) : (s0.tell s).net = s.net := by
  unfold State.tell; split <;> simp
@[simp] theorem State.tell_chans (s0 : State) (s : State) : (s0.tell s).chans = s.chans := by
  unfold State.tell; split <;> simp
@[simp] theorem State.tell_quads (s0 : State) (s : State) : (s0.tell s).quads = s.quads := by
  unfold State.tell; split <;> simp
@[simp] theorem State.tell_origin (s0 : State) (s : State) : (s0.tell s).origin = s.origin := by
  unfold State.tell; split <;> simp
@[simp] theorem State.tell_sluice (s0 : State) (s : State) : (s0.tell s).sluice = s.sluice := by
  unfold State.tell; split <;> simp
@[simp] theorem State.tell_plans (s0 : State) (s : State) : (s0.tell s).plans = s.plans := by
  unfold State.tell; split <;> simp
@[simp] theorem State.tell_dir (s0 : State) (s : State) : (s0.tell s).dir = s.dir := by
  unfold State.tell; split <;> simp
@[simp] theorem State.tell_pond (s0 : State) (s : State) : (s0.tell s).pond = s.pond := by
  unfold State.tell; split <;> simp
@[simp] theorem State.tell_fan (s0 : State) (s : State) : (s0.tell s).fan = s.fan := by
  unfold State.tell; split <;> simp
@[simp] theorem State.tell_dress (s0 : State) (s : State) : (s0.tell s).dress = s.dress := by
  unfold State.tell; split <;> simp
@[simp] theorem State.tell_gov (s0 : State) (s : State) : (s0.tell s).gov = s.gov := by
  unfold State.tell; split <;> simp
@[simp] theorem State.tell_pins (s0 : State) (s : State) : (s0.tell s).pins = s.pins := by
  unfold State.tell; split <;> simp
@[simp] theorem State.tell_farm (s0 : State) (s : State) : (s0.tell s).farm = s.farm := by
  unfold State.tell; split <;> simp
@[simp] theorem State.tell_layer (s0 : State) (s : State) : (s0.tell s).layer = s.layer := by
  unfold State.tell; split <;> simp
@[simp] theorem State.tell_timer (s0 : State) (s : State) : (s0.tell s).timer = s.timer := by
  unfold State.tell; split <;> simp
@[simp] theorem State.tell_mon (s0 : State) (s : State) : (s0.tell s).mon = s.mon := by
  unfold State.tell; split <;> simp
@[simp] theorem State.tell_tail (s0 : State) (s : State) : (s0.tell s).tail = s.tail := by
  unfold State.tell; split <;> simp
@[simp] theorem State.tell_upd (s0 : State) (s : State) : (s0.tell s).upd = s.upd := by
  unfold State.tell; split <;> simp

@[simp] theorem State.watch_pending (s : State) : (s.watch).pending = s.pending := by
  unfold State.watch; simp only []; split <;> simp
@[simp] theorem State.watch_clk (s : State) : (s.watch).clk = s.clk := by
  unfold State.watch; simp only []; split <;> simp
@[simp] theorem State.watch_dev (s : State) : (s.watch).dev = s.dev := by
  unfold State.watch; simp only []; split <;> simp
@[simp] theorem State.watch_acq (s : State) : (s.watch).acq = s.acq := by
  unfold State.watch; simp only []; split <;> simp
@[simp] theorem State.watch_seq (s : State) : (s.watch).seq = s.seq := by
  unfold State.watch; simp only []; split <;> simp
@[simp] theorem State.watch_shown (s : State) : (s.watch).shown = s.shown := by
  unfold State.watch; simp only []; split <;> simp
@[simp] theorem State.watch_free (s : State) : (s.watch).free = s.free := by
  unfold State.watch; simp only []; split <;> simp
@[simp] theorem State.watch_trace (s : State) : (s.watch).trace = s.trace := by
  unfold State.watch; simp only []; split <;> simp
@[simp] theorem State.watch_net (s : State) : (s.watch).net = s.net := by
  unfold State.watch; simp only []; split <;> simp
@[simp] theorem State.watch_chans (s : State) : (s.watch).chans = s.chans := by
  unfold State.watch; simp only []; split <;> simp
@[simp] theorem State.watch_quads (s : State) : (s.watch).quads = s.quads := by
  unfold State.watch; simp only []; split <;> simp
@[simp] theorem State.watch_origin (s : State) : (s.watch).origin = s.origin := by
  unfold State.watch; simp only []; split <;> simp
@[simp] theorem State.watch_sluice (s : State) : (s.watch).sluice = s.sluice := by
  unfold State.watch; simp only []; split <;> simp
@[simp] theorem State.watch_plans (s : State) : (s.watch).plans = s.plans := by
  unfold State.watch; simp only []; split <;> simp
@[simp] theorem State.watch_dir (s : State) : (s.watch).dir = s.dir := by
  unfold State.watch; simp only []; split <;> simp
@[simp] theorem State.watch_pond (s : State) : (s.watch).pond = s.pond := by
  unfold State.watch; simp only []; split <;> simp
@[simp] theorem State.watch_fan (s : State) : (s.watch).fan = s.fan := by
  unfold State.watch; simp only []; split <;> simp
@[simp] theorem State.watch_dress (s : State) : (s.watch).dress = s.dress := by
  unfold State.watch; simp only []; split <;> simp
@[simp] theorem State.watch_gov (s : State) : (s.watch).gov = s.gov := by
  unfold State.watch; simp only []; split <;> simp
@[simp] theorem State.watch_pins (s : State) : (s.watch).pins = s.pins := by
  unfold State.watch; simp only []; split <;> simp
@[simp] theorem State.watch_farm (s : State) : (s.watch).farm = s.farm := by
  unfold State.watch; simp only []; split <;> simp
@[simp] theorem State.watch_layer (s : State) : (s.watch).layer = s.layer := by
  unfold State.watch; simp only []; split <;> simp
@[simp] theorem State.watch_timer (s : State) : (s.watch).timer = s.timer := by
  unfold State.watch; simp only []; split <;> simp
@[simp] theorem State.watch_mon (s : State) : (s.watch).mon = s.mon := by
  unfold State.watch; simp only []; split <;> simp
@[simp] theorem State.watch_tail (s : State) : (s.watch).tail = s.tail := by
  unfold State.watch; simp only []; split <;> simp
@[simp] theorem State.watch_upd (s : State) : (s.watch).upd = s.upd := by
  unfold State.watch; simp only []; split <;> simp

@[simp] theorem State.settle_pending (s0 : State) (s : State) : (s0.settle s).pending = s.pending := by
  unfold State.settle; simp
@[simp] theorem State.settle_clk (s0 : State) (s : State) : (s0.settle s).clk = s.clk := by
  unfold State.settle; simp
@[simp] theorem State.settle_dev (s0 : State) (s : State) : (s0.settle s).dev = s.dev := by
  unfold State.settle; simp
@[simp] theorem State.settle_free (s0 : State) (s : State) : (s0.settle s).free = s.free := by
  unfold State.settle; simp
@[simp] theorem State.settle_net (s0 : State) (s : State) : (s0.settle s).net = s.net := by
  unfold State.settle; simp
@[simp] theorem State.settle_chans (s0 : State) (s : State) : (s0.settle s).chans = s.chans := by
  unfold State.settle; simp
@[simp] theorem State.settle_quads (s0 : State) (s : State) : (s0.settle s).quads = s.quads := by
  unfold State.settle; simp
@[simp] theorem State.settle_origin (s0 : State) (s : State) : (s0.settle s).origin = s.origin := by
  unfold State.settle; simp
@[simp] theorem State.settle_sluice (s0 : State) (s : State) : (s0.settle s).sluice = s.sluice := by
  unfold State.settle; simp
@[simp] theorem State.settle_plans (s0 : State) (s : State) : (s0.settle s).plans = s.plans := by
  unfold State.settle; simp
@[simp] theorem State.settle_dir (s0 : State) (s : State) : (s0.settle s).dir = s.dir := by
  unfold State.settle; simp
@[simp] theorem State.settle_pond (s0 : State) (s : State) : (s0.settle s).pond = s.pond := by
  unfold State.settle; simp
@[simp] theorem State.settle_fan (s0 : State) (s : State) : (s0.settle s).fan = s.fan := by
  unfold State.settle; simp
@[simp] theorem State.settle_dress (s0 : State) (s : State) : (s0.settle s).dress = s.dress := by
  unfold State.settle; simp
@[simp] theorem State.settle_gov (s0 : State) (s : State) : (s0.settle s).gov = s.gov := by
  unfold State.settle; simp
@[simp] theorem State.settle_pins (s0 : State) (s : State) : (s0.settle s).pins = s.pins := by
  unfold State.settle; simp
@[simp] theorem State.settle_farm (s0 : State) (s : State) : (s0.settle s).farm = s.farm := by
  unfold State.settle; simp
@[simp] theorem State.settle_layer (s0 : State) (s : State) : (s0.settle s).layer = s.layer := by
  unfold State.settle; simp
@[simp] theorem State.settle_timer (s0 : State) (s : State) : (s0.settle s).timer = s.timer := by
  unfold State.settle; simp
@[simp] theorem State.settle_mon (s0 : State) (s : State) : (s0.settle s).mon = s.mon := by
  unfold State.settle; simp
@[simp] theorem State.settle_tail (s0 : State) (s : State) : (s0.settle s).tail = s.tail := by
  unfold State.settle; simp
@[simp] theorem State.settle_upd (s0 : State) (s : State) : (s0.settle s).upd = s.upd := by
  unfold State.settle; simp

/-! ### Answers -/

@[simp] theorem State.respond_pending (a : Acc) (q : Time) (v : Int) (ab re : Nat) (s : State) : (s.respond a q v ab re).pending = s.pending := by
  unfold State.respond; simp only []; split <;> simp [State.bump, State.bumpBy, State.adv]
@[simp] theorem State.respond_clk (a : Acc) (q : Time) (v : Int) (ab re : Nat) (s : State) : (s.respond a q v ab re).clk = s.clk := by
  unfold State.respond; simp only []; split <;> simp [State.bump, State.bumpBy, State.adv]
@[simp] theorem State.respond_dev (a : Acc) (q : Time) (v : Int) (ab re : Nat) (s : State) : (s.respond a q v ab re).dev = s.dev := by
  unfold State.respond; simp only []; split <;> simp [State.bump, State.bumpBy, State.adv]
@[simp] theorem State.respond_acq (a : Acc) (q : Time) (v : Int) (ab re : Nat) (s : State) : (s.respond a q v ab re).acq = s.acq := by
  unfold State.respond; simp only []; split <;> simp [State.bump, State.bumpBy, State.adv]
@[simp] theorem State.respond_seq (a : Acc) (q : Time) (v : Int) (ab re : Nat) (s : State) : (s.respond a q v ab re).seq = s.seq := by
  unfold State.respond; simp only []; split <;> simp [State.bump, State.bumpBy, State.adv]
@[simp] theorem State.respond_shown (a : Acc) (q : Time) (v : Int) (ab re : Nat) (s : State) : (s.respond a q v ab re).shown = s.shown := by
  unfold State.respond; simp only []; split <;> simp [State.bump, State.bumpBy, State.adv]
@[simp] theorem State.respond_od (a : Acc) (q : Time) (v : Int) (ab re : Nat) (s : State) : (s.respond a q v ab re).od = s.od := by
  unfold State.respond; simp only []; split <;> simp [State.bump, State.bumpBy, State.adv]
@[simp] theorem State.respond_fault (a : Acc) (q : Time) (v : Int) (ab re : Nat) (s : State) : (s.respond a q v ab re).fault = s.fault := by
  unfold State.respond; simp only []; split <;> simp [State.bump, State.bumpBy, State.adv]
@[simp] theorem State.respond_trace (a : Acc) (q : Time) (v : Int) (ab re : Nat) (s : State) : (s.respond a q v ab re).trace = s.trace := by
  unfold State.respond; simp only []; split <;> simp [State.bump, State.bumpBy, State.adv]
@[simp] theorem State.respond_chans (a : Acc) (q : Time) (v : Int) (ab re : Nat) (s : State) : (s.respond a q v ab re).chans = s.chans := by
  unfold State.respond; simp only []; split <;> simp [State.bump, State.bumpBy, State.adv]
@[simp] theorem State.respond_quads (a : Acc) (q : Time) (v : Int) (ab re : Nat) (s : State) : (s.respond a q v ab re).quads = s.quads := by
  unfold State.respond; simp only []; split <;> simp [State.bump, State.bumpBy, State.adv]
@[simp] theorem State.respond_origin (a : Acc) (q : Time) (v : Int) (ab re : Nat) (s : State) : (s.respond a q v ab re).origin = s.origin := by
  unfold State.respond; simp only []; split <;> simp [State.bump, State.bumpBy, State.adv]
@[simp] theorem State.respond_sluice (a : Acc) (q : Time) (v : Int) (ab re : Nat) (s : State) : (s.respond a q v ab re).sluice = s.sluice := by
  unfold State.respond; simp only []; split <;> simp [State.bump, State.bumpBy, State.adv]
@[simp] theorem State.respond_plans (a : Acc) (q : Time) (v : Int) (ab re : Nat) (s : State) : (s.respond a q v ab re).plans = s.plans := by
  unfold State.respond; simp only []; split <;> simp [State.bump, State.bumpBy, State.adv]
@[simp] theorem State.respond_dir (a : Acc) (q : Time) (v : Int) (ab re : Nat) (s : State) : (s.respond a q v ab re).dir = s.dir := by
  unfold State.respond; simp only []; split <;> simp [State.bump, State.bumpBy, State.adv]
@[simp] theorem State.respond_pond (a : Acc) (q : Time) (v : Int) (ab re : Nat) (s : State) : (s.respond a q v ab re).pond = s.pond := by
  unfold State.respond; simp only []; split <;> simp [State.bump, State.bumpBy, State.adv]
@[simp] theorem State.respond_fan (a : Acc) (q : Time) (v : Int) (ab re : Nat) (s : State) : (s.respond a q v ab re).fan = s.fan := by
  unfold State.respond; simp only []; split <;> simp [State.bump, State.bumpBy, State.adv]
@[simp] theorem State.respond_dress (a : Acc) (q : Time) (v : Int) (ab re : Nat) (s : State) : (s.respond a q v ab re).dress = s.dress := by
  unfold State.respond; simp only []; split <;> simp [State.bump, State.bumpBy, State.adv]
@[simp] theorem State.respond_gov (a : Acc) (q : Time) (v : Int) (ab re : Nat) (s : State) : (s.respond a q v ab re).gov = s.gov := by
  unfold State.respond; simp only []; split <;> simp [State.bump, State.bumpBy, State.adv]
@[simp] theorem State.respond_pins (a : Acc) (q : Time) (v : Int) (ab re : Nat) (s : State) : (s.respond a q v ab re).pins = s.pins := by
  unfold State.respond; simp only []; split <;> simp [State.bump, State.bumpBy, State.adv]
@[simp] theorem State.respond_farm (a : Acc) (q : Time) (v : Int) (ab re : Nat) (s : State) : (s.respond a q v ab re).farm = s.farm := by
  unfold State.respond; simp only []; split <;> simp [State.bump, State.bumpBy, State.adv]
@[simp] theorem State.respond_layer (a : Acc) (q : Time) (v : Int) (ab re : Nat) (s : State) : (s.respond a q v ab re).layer = s.layer := by
  unfold State.respond; simp only []; split <;> simp [State.bump, State.bumpBy, State.adv]
@[simp] theorem State.respond_timer (a : Acc) (q : Time) (v : Int) (ab re : Nat) (s : State) : (s.respond a q v ab re).timer = s.timer := by
  unfold State.respond; simp only []; split <;> simp [State.bump, State.bumpBy, State.adv]
@[simp] theorem State.respond_mon (a : Acc) (q : Time) (v : Int) (ab re : Nat) (s : State) : (s.respond a q v ab re).mon = s.mon := by
  unfold State.respond; simp only []; split <;> simp [State.bump, State.bumpBy, State.adv]
@[simp] theorem State.respond_tail (a : Acc) (q : Time) (v : Int) (ab re : Nat) (s : State) : (s.respond a q v ab re).tail = s.tail := by
  unfold State.respond; simp only []; split <;> simp [State.bump, State.bumpBy, State.adv]
@[simp] theorem State.respond_upd (a : Acc) (q : Time) (v : Int) (ab re : Nat) (s : State) : (s.respond a q v ab re).upd = s.upd := by
  unfold State.respond; simp only []; split <;> simp [State.bump, State.bumpBy, State.adv]

@[simp] theorem State.refuse_pending (a : Acc) (c : Nat) (r : Rej) (s : State) : (s.refuse a c r).pending = s.pending := by
  unfold State.refuse; simp only []; split <;> simp [State.bump, State.bumpBy]
@[simp] theorem State.refuse_clk (a : Acc) (c : Nat) (r : Rej) (s : State) : (s.refuse a c r).clk = s.clk := by
  unfold State.refuse; simp only []; split <;> simp [State.bump, State.bumpBy]
@[simp] theorem State.refuse_dev (a : Acc) (c : Nat) (r : Rej) (s : State) : (s.refuse a c r).dev = s.dev := by
  unfold State.refuse; simp only []; split <;> simp [State.bump, State.bumpBy]
@[simp] theorem State.refuse_acq (a : Acc) (c : Nat) (r : Rej) (s : State) : (s.refuse a c r).acq = s.acq := by
  unfold State.refuse; simp only []; split <;> simp [State.bump, State.bumpBy]
@[simp] theorem State.refuse_seq (a : Acc) (c : Nat) (r : Rej) (s : State) : (s.refuse a c r).seq = s.seq := by
  unfold State.refuse; simp only []; split <;> simp [State.bump, State.bumpBy]
@[simp] theorem State.refuse_shown (a : Acc) (c : Nat) (r : Rej) (s : State) : (s.refuse a c r).shown = s.shown := by
  unfold State.refuse; simp only []; split <;> simp [State.bump, State.bumpBy]
@[simp] theorem State.refuse_free (a : Acc) (c : Nat) (r : Rej) (s : State) : (s.refuse a c r).free = s.free := by
  unfold State.refuse; simp only []; split <;> simp [State.bump, State.bumpBy]
@[simp] theorem State.refuse_fault (a : Acc) (c : Nat) (r : Rej) (s : State) : (s.refuse a c r).fault = s.fault := by
  unfold State.refuse; simp only []; split <;> simp [State.bump, State.bumpBy]
@[simp] theorem State.refuse_trace (a : Acc) (c : Nat) (r : Rej) (s : State) : (s.refuse a c r).trace = s.trace := by
  unfold State.refuse; simp only []; split <;> simp [State.bump, State.bumpBy]
@[simp] theorem State.refuse_chans (a : Acc) (c : Nat) (r : Rej) (s : State) : (s.refuse a c r).chans = s.chans := by
  unfold State.refuse; simp only []; split <;> simp [State.bump, State.bumpBy]
@[simp] theorem State.refuse_quads (a : Acc) (c : Nat) (r : Rej) (s : State) : (s.refuse a c r).quads = s.quads := by
  unfold State.refuse; simp only []; split <;> simp [State.bump, State.bumpBy]
@[simp] theorem State.refuse_origin (a : Acc) (c : Nat) (r : Rej) (s : State) : (s.refuse a c r).origin = s.origin := by
  unfold State.refuse; simp only []; split <;> simp [State.bump, State.bumpBy]
@[simp] theorem State.refuse_sluice (a : Acc) (c : Nat) (r : Rej) (s : State) : (s.refuse a c r).sluice = s.sluice := by
  unfold State.refuse; simp only []; split <;> simp [State.bump, State.bumpBy]
@[simp] theorem State.refuse_plans (a : Acc) (c : Nat) (r : Rej) (s : State) : (s.refuse a c r).plans = s.plans := by
  unfold State.refuse; simp only []; split <;> simp [State.bump, State.bumpBy]
@[simp] theorem State.refuse_dir (a : Acc) (c : Nat) (r : Rej) (s : State) : (s.refuse a c r).dir = s.dir := by
  unfold State.refuse; simp only []; split <;> simp [State.bump, State.bumpBy]
@[simp] theorem State.refuse_pond (a : Acc) (c : Nat) (r : Rej) (s : State) : (s.refuse a c r).pond = s.pond := by
  unfold State.refuse; simp only []; split <;> simp [State.bump, State.bumpBy]
@[simp] theorem State.refuse_fan (a : Acc) (c : Nat) (r : Rej) (s : State) : (s.refuse a c r).fan = s.fan := by
  unfold State.refuse; simp only []; split <;> simp [State.bump, State.bumpBy]
@[simp] theorem State.refuse_dress (a : Acc) (c : Nat) (r : Rej) (s : State) : (s.refuse a c r).dress = s.dress := by
  unfold State.refuse; simp only []; split <;> simp [State.bump, State.bumpBy]
@[simp] theorem State.refuse_gov (a : Acc) (c : Nat) (r : Rej) (s : State) : (s.refuse a c r).gov = s.gov := by
  unfold State.refuse; simp only []; split <;> simp [State.bump, State.bumpBy]
@[simp] theorem State.refuse_pins (a : Acc) (c : Nat) (r : Rej) (s : State) : (s.refuse a c r).pins = s.pins := by
  unfold State.refuse; simp only []; split <;> simp [State.bump, State.bumpBy]
@[simp] theorem State.refuse_farm (a : Acc) (c : Nat) (r : Rej) (s : State) : (s.refuse a c r).farm = s.farm := by
  unfold State.refuse; simp only []; split <;> simp [State.bump, State.bumpBy]
@[simp] theorem State.refuse_layer (a : Acc) (c : Nat) (r : Rej) (s : State) : (s.refuse a c r).layer = s.layer := by
  unfold State.refuse; simp only []; split <;> simp [State.bump, State.bumpBy]
@[simp] theorem State.refuse_timer (a : Acc) (c : Nat) (r : Rej) (s : State) : (s.refuse a c r).timer = s.timer := by
  unfold State.refuse; simp only []; split <;> simp [State.bump, State.bumpBy]
@[simp] theorem State.refuse_mon (a : Acc) (c : Nat) (r : Rej) (s : State) : (s.refuse a c r).mon = s.mon := by
  unfold State.refuse; simp only []; split <;> simp [State.bump, State.bumpBy]
@[simp] theorem State.refuse_tail (a : Acc) (c : Nat) (r : Rej) (s : State) : (s.refuse a c r).tail = s.tail := by
  unfold State.refuse; simp only []; split <;> simp [State.bump, State.bumpBy]
@[simp] theorem State.refuse_upd (a : Acc) (c : Nat) (r : Rej) (s : State) : (s.refuse a c r).upd = s.upd := by
  unfold State.refuse; simp only []; split <;> simp [State.bump, State.bumpBy]

@[simp] theorem State.dropXfer_pending (p : Path) (s : State) : (s.dropXfer p).pending = s.pending := by
  unfold State.dropXfer; split <;> rfl
@[simp] theorem State.dropXfer_clk (p : Path) (s : State) : (s.dropXfer p).clk = s.clk := by
  unfold State.dropXfer; split <;> rfl
@[simp] theorem State.dropXfer_dev (p : Path) (s : State) : (s.dropXfer p).dev = s.dev := by
  unfold State.dropXfer; split <;> rfl
@[simp] theorem State.dropXfer_acq (p : Path) (s : State) : (s.dropXfer p).acq = s.acq := by
  unfold State.dropXfer; split <;> rfl
@[simp] theorem State.dropXfer_seq (p : Path) (s : State) : (s.dropXfer p).seq = s.seq := by
  unfold State.dropXfer; split <;> rfl
@[simp] theorem State.dropXfer_shown (p : Path) (s : State) : (s.dropXfer p).shown = s.shown := by
  unfold State.dropXfer; split <;> rfl
@[simp] theorem State.dropXfer_od (p : Path) (s : State) : (s.dropXfer p).od = s.od := by
  unfold State.dropXfer; split <;> rfl
@[simp] theorem State.dropXfer_ctr (p : Path) (s : State) : (s.dropXfer p).ctr = s.ctr := by
  unfold State.dropXfer; split <;> rfl
@[simp] theorem State.dropXfer_free (p : Path) (s : State) : (s.dropXfer p).free = s.free := by
  unfold State.dropXfer; split <;> rfl
@[simp] theorem State.dropXfer_fault (p : Path) (s : State) : (s.dropXfer p).fault = s.fault := by
  unfold State.dropXfer; split <;> rfl
@[simp] theorem State.dropXfer_trace (p : Path) (s : State) : (s.dropXfer p).trace = s.trace := by
  unfold State.dropXfer; split <;> rfl
@[simp] theorem State.dropXfer_chans (p : Path) (s : State) : (s.dropXfer p).chans = s.chans := by
  unfold State.dropXfer; split <;> rfl
@[simp] theorem State.dropXfer_quads (p : Path) (s : State) : (s.dropXfer p).quads = s.quads := by
  unfold State.dropXfer; split <;> rfl
@[simp] theorem State.dropXfer_origin (p : Path) (s : State) : (s.dropXfer p).origin = s.origin := by
  unfold State.dropXfer; split <;> rfl
@[simp] theorem State.dropXfer_sluice (p : Path) (s : State) : (s.dropXfer p).sluice = s.sluice := by
  unfold State.dropXfer; split <;> rfl
@[simp] theorem State.dropXfer_plans (p : Path) (s : State) : (s.dropXfer p).plans = s.plans := by
  unfold State.dropXfer; split <;> rfl
@[simp] theorem State.dropXfer_dir (p : Path) (s : State) : (s.dropXfer p).dir = s.dir := by
  unfold State.dropXfer; split <;> rfl
@[simp] theorem State.dropXfer_pond (p : Path) (s : State) : (s.dropXfer p).pond = s.pond := by
  unfold State.dropXfer; split <;> rfl
@[simp] theorem State.dropXfer_fan (p : Path) (s : State) : (s.dropXfer p).fan = s.fan := by
  unfold State.dropXfer; split <;> rfl
@[simp] theorem State.dropXfer_dress (p : Path) (s : State) : (s.dropXfer p).dress = s.dress := by
  unfold State.dropXfer; split <;> rfl
@[simp] theorem State.dropXfer_gov (p : Path) (s : State) : (s.dropXfer p).gov = s.gov := by
  unfold State.dropXfer; split <;> rfl
@[simp] theorem State.dropXfer_pins (p : Path) (s : State) : (s.dropXfer p).pins = s.pins := by
  unfold State.dropXfer; split <;> rfl
@[simp] theorem State.dropXfer_farm (p : Path) (s : State) : (s.dropXfer p).farm = s.farm := by
  unfold State.dropXfer; split <;> rfl
@[simp] theorem State.dropXfer_layer (p : Path) (s : State) : (s.dropXfer p).layer = s.layer := by
  unfold State.dropXfer; split <;> rfl
@[simp] theorem State.dropXfer_timer (p : Path) (s : State) : (s.dropXfer p).timer = s.timer := by
  unfold State.dropXfer; split <;> rfl
@[simp] theorem State.dropXfer_mon (p : Path) (s : State) : (s.dropXfer p).mon = s.mon := by
  unfold State.dropXfer; split <;> rfl
@[simp] theorem State.dropXfer_tail (p : Path) (s : State) : (s.dropXfer p).tail = s.tail := by
  unfold State.dropXfer; split <;> rfl
@[simp] theorem State.dropXfer_upd (p : Path) (s : State) : (s.dropXfer p).upd = s.upd := by
  unfold State.dropXfer; split <;> rfl

/-! ### A layering counted -/

@[simp] theorem State.countLayering_pending (h : Bool) (k u : Nat) (s : State) : (s.countLayering h k u).pending = s.pending := by
  unfold State.countLayering; simp only []; split <;> simp
@[simp] theorem State.countLayering_clk (h : Bool) (k u : Nat) (s : State) : (s.countLayering h k u).clk = s.clk := by
  unfold State.countLayering; simp only []; split <;> simp
@[simp] theorem State.countLayering_dev (h : Bool) (k u : Nat) (s : State) : (s.countLayering h k u).dev = s.dev := by
  unfold State.countLayering; simp only []; split <;> simp
@[simp] theorem State.countLayering_acq (h : Bool) (k u : Nat) (s : State) : (s.countLayering h k u).acq = s.acq := by
  unfold State.countLayering; simp only []; split <;> simp
@[simp] theorem State.countLayering_seq (h : Bool) (k u : Nat) (s : State) : (s.countLayering h k u).seq = s.seq := by
  unfold State.countLayering; simp only []; split <;> simp
@[simp] theorem State.countLayering_shown (h : Bool) (k u : Nat) (s : State) : (s.countLayering h k u).shown = s.shown := by
  unfold State.countLayering; simp only []; split <;> simp
@[simp] theorem State.countLayering_free (h : Bool) (k u : Nat) (s : State) : (s.countLayering h k u).free = s.free := by
  unfold State.countLayering; simp only []; split <;> simp
@[simp] theorem State.countLayering_fault (h : Bool) (k u : Nat) (s : State) : (s.countLayering h k u).fault = s.fault := by
  unfold State.countLayering; simp only []; split <;> simp
@[simp] theorem State.countLayering_trace (h : Bool) (k u : Nat) (s : State) : (s.countLayering h k u).trace = s.trace := by
  unfold State.countLayering; simp only []; split <;> simp
@[simp] theorem State.countLayering_net (h : Bool) (k u : Nat) (s : State) : (s.countLayering h k u).net = s.net := by
  unfold State.countLayering; simp only []; split <;> simp
@[simp] theorem State.countLayering_chans (h : Bool) (k u : Nat) (s : State) : (s.countLayering h k u).chans = s.chans := by
  unfold State.countLayering; simp only []; split <;> simp
@[simp] theorem State.countLayering_quads (h : Bool) (k u : Nat) (s : State) : (s.countLayering h k u).quads = s.quads := by
  unfold State.countLayering; simp only []; split <;> simp
@[simp] theorem State.countLayering_origin (h : Bool) (k u : Nat) (s : State) : (s.countLayering h k u).origin = s.origin := by
  unfold State.countLayering; simp only []; split <;> simp
@[simp] theorem State.countLayering_sluice (h : Bool) (k u : Nat) (s : State) : (s.countLayering h k u).sluice = s.sluice := by
  unfold State.countLayering; simp only []; split <;> simp
@[simp] theorem State.countLayering_plans (h : Bool) (k u : Nat) (s : State) : (s.countLayering h k u).plans = s.plans := by
  unfold State.countLayering; simp only []; split <;> simp
@[simp] theorem State.countLayering_dir (h : Bool) (k u : Nat) (s : State) : (s.countLayering h k u).dir = s.dir := by
  unfold State.countLayering; simp only []; split <;> simp
@[simp] theorem State.countLayering_pond (h : Bool) (k u : Nat) (s : State) : (s.countLayering h k u).pond = s.pond := by
  unfold State.countLayering; simp only []; split <;> simp
@[simp] theorem State.countLayering_fan (h : Bool) (k u : Nat) (s : State) : (s.countLayering h k u).fan = s.fan := by
  unfold State.countLayering; simp only []; split <;> simp
@[simp] theorem State.countLayering_dress (h : Bool) (k u : Nat) (s : State) : (s.countLayering h k u).dress = s.dress := by
  unfold State.countLayering; simp only []; split <;> simp
@[simp] theorem State.countLayering_gov (h : Bool) (k u : Nat) (s : State) : (s.countLayering h k u).gov = s.gov := by
  unfold State.countLayering; simp only []; split <;> simp
@[simp] theorem State.countLayering_pins (h : Bool) (k u : Nat) (s : State) : (s.countLayering h k u).pins = s.pins := by
  unfold State.countLayering; simp only []; split <;> simp
@[simp] theorem State.countLayering_farm (h : Bool) (k u : Nat) (s : State) : (s.countLayering h k u).farm = s.farm := by
  unfold State.countLayering; simp only []; split <;> simp
@[simp] theorem State.countLayering_timer (h : Bool) (k u : Nat) (s : State) : (s.countLayering h k u).timer = s.timer := by
  unfold State.countLayering; simp only []; split <;> simp
@[simp] theorem State.countLayering_mon (h : Bool) (k u : Nat) (s : State) : (s.countLayering h k u).mon = s.mon := by
  unfold State.countLayering; simp only []; split <;> simp
@[simp] theorem State.countLayering_tail (h : Bool) (k u : Nat) (s : State) : (s.countLayering h k u).tail = s.tail := by
  unfold State.countLayering; simp only []; split <;> simp
@[simp] theorem State.countLayering_upd (h : Bool) (k u : Nat) (s : State) : (s.countLayering h k u).upd = s.upd := by
  unfold State.countLayering; simp only []; split <;> simp

end Sys2Proof.Machine
end

