-- ==== Sys2Proof/Laws/Steps.lean ====
section
/-!
SUPPORT. The end of every step, once: what `State.settle` keeps, and that it leaves the states told.
-/

namespace Sys2Proof.Machine

/-! ### Sameness of parts -/

theorem Part.same_refl (x : Part) (s : State) : x.same s s := by cases x <;> simp [Part.same]

theorem Part.same_trans {x : Part} {s t u : State} (h : x.same s t) (k : x.same t u) : x.same s u := by
  cases x <;> simp only [Part.same] at *
  case od => intro n hn; rw [k n hn, h n hn]
  case ctr => intro n h1 h2; rw [k n h1 h2, h n h1 h2]
  case fault => exact ⟨h.1.trans k.1, k.2.trans h.2⟩
  case trace => exact ⟨h.1.trans k.1, k.2.trans h.2⟩
  all_goals exact k.trans h

theorem KeepsBut.refl (l : List Part) (s : State) : KeepsBut l s s := ⟨rfl, fun x _ => x.same_refl s⟩

theorem KeepsBut.trans {l : List Part} {s t u : State} (h : KeepsBut l s t) (k : KeepsBut l t u) : KeepsBut l s u :=
  ⟨k.1.trans h.1, fun x hx => Part.same_trans (h.2 x hx) (k.2 x hx)⟩

theorem KeepsBut.mono {l m : List Part} {s t : State} (h : KeepsBut l s t) (hl : ∀ x ∈ l, x ∈ m) : KeepsBut m s t :=
  ⟨h.1, fun x hx => h.2 x (fun e => hx (hl x e))⟩

/-! ### Trace entries and messages -/

theorem State.traceAs_same (i : Int) (fl ev u sl d : Nat) (s : State) (x : Part) : x.same s (s.traceAs i fl ev u sl d) := by
  cases x
  case trace =>
    unfold State.traceAs
    split
    · exact ⟨List.prefix_append _ _, rfl⟩
    · exact ⟨List.prefix_refl _, rfl⟩
  case ctr =>
    intro n _ h
    unfold State.traceAs
    split
    · rfl
    · rw [State.place_bump_other h]; rfl
  case od => intro k _; exact State.rd_of_od (by simp) k
  all_goals simp [Part.same]

theorem State.emcy_same (m : Emcy) (s : State) (x : Part) : x.same s (s.emcy m) := by
  cases x
  case fault =>
    unfold State.emcy
    split
    · exact ⟨List.prefix_append _ _, rfl⟩
    · exact ⟨List.prefix_refl _, rfl⟩
  case od =>
    intro k h
    unfold State.emcy
    split
    · rfl
    · rw [State.rd_of_od (State.bump_od _ _)]; exact State.rd_wr_other h _ _
  case ctr =>
    intro n h _
    unfold State.emcy
    split
    · rfl
    · rw [State.place_bump_other h]; exact State.place_of_ctr (State.sat_ctr _ _) n
  all_goals simp [Part.same]

/-! ### The end of every step -/

theorem State.withAcq_same (s : State) (x : Part) : x.same s s.withAcq := by
  cases x <;> simp [Part.same, State.rd, State.place]

theorem State.withShown_same (s : State) (x : Part) : x.same s s.withShown := by
  cases x <;> simp [Part.same, State.rd, State.place]

theorem State.withSeq_same (s : State) (x : Part) : x.same s s.withSeq := by
  cases x <;> simp [Part.same, State.rd, State.place]

theorem State.noteStates_same (s : State) (x : Part) : x.same s s.noteStates := by
  unfold State.noteStates State.traceStates State.trace_
  repeat' split
  · exact x.same_refl s
  · exact s.withAcq_same x
  · exact Part.same_trans (s.withAcq_same x) (State.withShown_same _ x)
  · exact Part.same_trans (Part.same_trans (Part.same_trans (s.withAcq_same x) (State.withShown_same _ x)) (State.withSeq_same _ x))
      (State.traceAs_same _ _ _ _ _ _ _ x)

theorem State.tell_same (s0 s : State) (x : Part) : x.same s (s0.tell s) := by
  unfold State.tell
  split
  · exact Part.same_trans (s.withAcq_same x) (State.withShown_same _ x)
  · exact s.noteStates_same x

theorem State.withReg_same (s : State) (r : Nat) (x : Part) : x.same s { s with fault := { s.fault with lastReg := r } } := by
  cases x <;> simp [Part.same, State.rd, State.place, FaultSt.bare]

theorem State.watch_same (s : State) (x : Part) : x.same s s.watch := by
  unfold State.watch
  simp only []
  split
  · exact Part.same_trans (s.emcy_same _ x) (State.withReg_same _ _ x)
  · exact State.withReg_same _ _ x

/-- What ends a step changes no part but for what `Part.same` allows. -/
theorem State.settle_same (s0 s : State) (x : Part) : x.same s (s0.settle s) :=
  Part.same_trans (s0.tell_same s x) (State.watch_same _ x)

/-- The object store after the end of a step. -/
theorem State.settle_rd (s0 s : State) {k : Nat} (h : k ≠ O.EMCY_LOST) : (s0.settle s).rd k = s.rd k := s0.settle_same s .od k h

theorem State.settle_place (s0 s : State) {n : Nat} (h : n ≠ 465) (h' : n ≠ 467) : (s0.settle s).place n = s.place n :=
  s0.settle_same s .ctr n h h'

theorem State.done_eq (s0 s : State) : s0.done s = .next (s0.after s) := rfl

theorem State.after_same (s0 s : State) (x : Part) : x.same s (s0.after s) := by
  have h := s0.settle_same s x
  cases x <;> exact h

@[simp] theorem State.after_pending (s0 s : State) : (s0.after s).pending = s0.pending := rfl

@[simp] theorem State.after_clk (s0 s : State) : (s0.after s).clk = s.clk := by simp [State.after]
@[simp] theorem State.after_dev (s0 s : State) : (s0.after s).dev = s.dev := by simp [State.after]
@[simp] theorem State.after_free (s0 s : State) : (s0.after s).free = s.free := by simp [State.after]
@[simp] theorem State.after_net (s0 s : State) : (s0.after s).net = s.net := by simp [State.after]
@[simp] theorem State.after_chans (s0 s : State) : (s0.after s).chans = s.chans := by simp [State.after]
@[simp] theorem State.after_quads (s0 s : State) : (s0.after s).quads = s.quads := by simp [State.after]
@[simp] theorem State.after_origin (s0 s : State) : (s0.after s).origin = s.origin := by simp [State.after]
@[simp] theorem State.after_sluice (s0 s : State) : (s0.after s).sluice = s.sluice := by simp [State.after]
@[simp] theorem State.after_plans (s0 s : State) : (s0.after s).plans = s.plans := by simp [State.after]
@[simp] theorem State.after_dir (s0 s : State) : (s0.after s).dir = s.dir := by simp [State.after]
@[simp] theorem State.after_pond (s0 s : State) : (s0.after s).pond = s.pond := by simp [State.after]
@[simp] theorem State.after_fan (s0 s : State) : (s0.after s).fan = s.fan := by simp [State.after]
@[simp] theorem State.after_dress (s0 s : State) : (s0.after s).dress = s.dress := by simp [State.after]
@[simp] theorem State.after_gov (s0 s : State) : (s0.after s).gov = s.gov := by simp [State.after]
@[simp] theorem State.after_pins (s0 s : State) : (s0.after s).pins = s.pins := by simp [State.after]
@[simp] theorem State.after_farm (s0 s : State) : (s0.after s).farm = s.farm := by simp [State.after]
@[simp] theorem State.after_layer (s0 s : State) : (s0.after s).layer = s.layer := by simp [State.after]
@[simp] theorem State.after_timer (s0 s : State) : (s0.after s).timer = s.timer := by simp [State.after]
@[simp] theorem State.after_mon (s0 s : State) : (s0.after s).mon = s.mon := by simp [State.after]
@[simp] theorem State.after_tail (s0 s : State) : (s0.after s).tail = s.tail := by simp [State.after]
@[simp] theorem State.after_upd (s0 s : State) : (s0.after s).upd = s.upd := by simp [State.after]

/-- A command keeps what its meaning keeps. -/
theorem KeepsBut.after {l : List Part} {s u : State} (h : ∀ x, x ∉ l → x.same s u) : KeepsBut l s (s.after u) :=
  ⟨rfl, fun x hx => Part.same_trans (h x hx) (s.after_same u x)⟩

theorem State.after_rd (s0 s : State) {k : Nat} (h : k ≠ O.EMCY_LOST) : (s0.after s).rd k = s.rd k := s0.settle_rd s h

theorem State.after_place (s0 s : State) {n : Nat} (h : n ≠ 465) (h' : n ≠ 467) : (s0.after s).place n = s.place n :=
  s0.settle_place s h h'

/-! ### The states are told -/

theorem State.planStates_congr {s t : State} (h : t.plans = s.plans) : t.planStates = s.planStates := by
  simp [State.planStates, State.plan, h]

theorem State.midCommand_congr {s t : State} (h : t.plans = s.plans) (d : t.dir = s.dir) : t.midCommand = s.midCommand := by
  simp [State.midCommand, State.plan, h, d]

theorem State.allStates_congr {s t : State} (h : t.plans = s.plans) (v : t.dev = s.dev) (d : t.dress = s.dress) (a : t.acq = s.acq) :
    t.allStates = s.allStates := by
  simp [State.allStates, State.devState, v, d, a, State.planStates_congr h]

theorem State.told_congr {s t : State} (h : t.plans = s.plans) (r : t.dir = s.dir) (v : t.dev = s.dev) (d : t.dress = s.dress)
    (a : t.acq = s.acq) (w : t.shown = s.shown) : s.told → t.told := by
  unfold State.told
  rw [State.midCommand_congr h r, State.planStates_congr h, State.allStates_congr h v d a, a, w]
  exact id

theorem State.withShown_told (s : State) : s.withAcq.withShown.told := Or.inr ⟨rfl, rfl⟩

theorem State.noteStates_told (s : State) : s.noteStates.told := by
  by_cases h : s.midCommand = true
  · exact Or.inl (by simp [State.noteStates, h])
  · unfold State.noteStates
    rw [if_neg h]
    split
    · rename_i e; exact Or.inr ⟨rfl, (eq_of_beq e).symm⟩
    · split
      · exact s.withShown_told
      · exact State.told_congr (by simp) (by simp) (by simp) (by simp) (by simp [State.traceStates, State.trace_])
          (by simp [State.traceStates, State.trace_]) s.withShown_told

theorem State.after_told (s0 s : State) : (s0.after s).told := by
  have h : (s0.tell s).told := by
    unfold State.tell
    split
    · exact s.withShown_told
    · exact s.noteStates_told
  have w : (s0.tell s).watch.told :=
    State.told_congr (by simp) (by simp) (by simp) (by simp) (by simp) (by simp) h
  exact State.told_congr (s := (s0.tell s).watch) rfl rfl rfl rfl rfl rfl w

end Sys2Proof.Machine
end

