-- ==== Sys2Proof/Laws/Access.lean ====
section
/-!
SUPPORT. Served accesses, once: what a write that its chapter accepts or refuses comes to, whatever the object.
-/

namespace Sys2Proof.Machine

/-! ### Answers -/

theorem State.respond_same (a : Acc) (q : Time) (v : Int) (ab re : Nat) (s : State) {x : Part} (h : x ∉ accessParts) :
    x.same s (s.respond a q v ab re) := by
  cases x <;> first
    | exact absurd (by decide) h
    | simp [Part.same, State.rd]

theorem State.respond_place (a : Acc) (q : Time) (v : Int) (ab re : Nat) (s : State) {n : Nat} (h : n ≠ 460) (h' : n ≠ 461) :
    (s.respond a q v ab re).place n = s.place n := by
  unfold State.respond
  simp only []
  split
  · exact (State.place_of_ctr (State.adv_ctr _) n).trans (State.place_bump_other h _)
  · exact (State.place_of_ctr (State.adv_ctr _) n).trans (State.place_bump_other h' _)
  · rfl

theorem State.respond_net (a : Acc) (q : Time) (v : Int) (ab re : Nat) (s : State) :
    ∃ m, (s.respond a q v ab re).net =
      { s.net with last := { path := a.path, idx := a.idx, sub := a.sub, value := v, abort := ab, reason := re },
                   sdoMax := if a.path = .sdo then max s.net.sdoMax m else s.net.sdoMax,
                   odMax := if a.path = .od then max s.net.odMax m else s.net.odMax } := by
  refine ⟨min ((s.clk.now - q) / 80000 + s.fv 10001) 10000, ?_⟩
  unfold State.respond
  cases h : a.path <;> simp

theorem State.dropXfer_net (p : Path) (s : State) :
    (s.dropXfer p).net = { s.net with xfer := if p = .sdo then none else s.net.xfer } := by
  unfold State.dropXfer
  cases p <;> simp

theorem State.dropXfer_same (p : Path) (s : State) {x : Part} (h : x ≠ .net) : x.same s (s.dropXfer p) := by
  cases x <;> first
    | exact absurd rfl h
    | simp [Part.same, State.rd, State.place]

/-! ### Writes -/

theorem State.dropXfer_waits (p : Path) (s : State) (idx : Nat) : (s.dropXfer p).waits idx = s.waits idx := by
  simp [State.waits, State.waitsFor, State.stopped, State.loop, State.dropXfer_net]

/-- What is not waited for is served while the CTL domain runs. -/
theorem State.running_of_waits {s : State} {idx : Nat} (h : s.waits idx = false) : s.stopped 4 = false := by
  simp only [State.waits, Bool.or_eq_false_iff] at h
  exact h.1.1

theorem State.access_served {s : State} {a : Acc} (h : s.serves a.path a.idx) (f : State → State) :
    s.access a f = f (s.dropXfer a.path) := by
  obtain ⟨h1, h2, -⟩ := h
  have h3 := State.running_of_waits h2
  simp [State.access, h1, h3, State.dropXfer_waits, h2]

theorem State.write_accepted {s u : State} {p : Path} {k : Nat} {v : Int} {f : State → WRes} (h : Admitted s p k v)
    (e : f (s.dropXfer p) = .ok u) : s.write p k v f = u.respond (accOf p k v) s.clk.now 0 0 0 := by
  obtain ⟨hs, r, hr⟩ := h
  have hd : ((s.dropXfer p).dev == .sleep) = false := by simpa using hs.2.2
  unfold State.write
  rw [State.access_served (a := { path := p, write := true, idx := k / 256 % 65536, sub := k % 256, len := natLen k, v := v }) hs]
  simp only [State.serveWrite, hd, Bool.false_eq_true, if_false, hr, e, State.dropXfer_clk]
  rfl

theorem State.write_refused {s : State} {p : Path} {k : Nat} {v : Int} {f : State → WRes} {r : Rej} (h : Admitted s p k v)
    (e : f (s.dropXfer p) = .error r) :
    s.write p k v f = ((s.dropXfer p).refuse (accOf p k v) 0 r).respond (accOf p k v) s.clk.now 0 r.abort r.reason := by
  obtain ⟨hs, q, hq⟩ := h
  have hd : ((s.dropXfer p).dev == .sleep) = false := by simpa using hs.2.2
  unfold State.write
  rw [State.access_served (a := { path := p, write := true, idx := k / 256 % 65536, sub := k % 256, len := natLen k, v := v }) hs]
  simp only [State.serveWrite, hd, Bool.false_eq_true, if_false, hq, e, State.dropXfer_clk]
  rfl

/-- What a write command that its chapter accepts leaves: the effect `u`, and what every access does beside it. -/
theorem State.write_done {s u : State} {p : Path} {k : Nat} {v : Int} {f : State → WRes} (h : Admitted s p k v)
    (e : f (s.dropXfer p) = .ok u) :
    ∃ t, s.done (s.write p k v f) = .next t ∧ (u.net = (s.dropXfer p).net → Answered p k 0 s t) ∧
      (∀ n, n ∉ [460, 461] → n ≠ 465 → n ≠ 467 → t.place n = u.place n) ∧
      t.pending = s.pending ∧ ∀ x, x ∉ accessParts → x.same u t := by
  refine ⟨s.after (u.respond (accOf p k v) s.clk.now 0 0 0), by rw [State.done_eq, State.write_accepted h e], ?_, ?_, rfl, ?_⟩
  · intro hn
    obtain ⟨m, hm⟩ := u.respond_net (accOf p k v) s.clk.now 0 0 0
    refine ⟨m, ?_⟩
    rw [State.after_net, hm, hn, State.dropXfer_net]
    cases p <;> rfl
  · intro n hn h1 h2
    rw [State.after_place _ _ h1 h2]
    exact State.respond_place _ _ _ _ _ _ (by simp at hn; exact hn.1) (by simp at hn; exact hn.2)
  · intro x hx
    exact Part.same_trans (State.respond_same _ _ _ _ _ _ hx) (State.after_same _ _ x)

/-- Every write of one object goes through `State.write`. -/
theorem exec_asWrite {i : Instr} {p : Path} {k : Nat} {v : Int} (h : asWrite i = some (p, k, v)) (s : State) :
    ∃ f, exec i s = s.done (s.write p k v f) := by
  cases i <;> simp only [asWrite, reduceCtorEq, Option.some.injEq, Prod.mk.injEq] at h <;> first
    | (obtain ⟨rfl, rfl, rfl⟩ := h; exact ⟨_, rfl⟩)
    | (split at h
       · rename_i c
         simp only [Option.some.injEq, Prod.mk.injEq] at h
         obtain ⟨rfl, rfl, rfl⟩ := h
         exact ⟨_, congrArg s.done (if_pos c)⟩
       · exact absurd h (by simp))

/-- What a refused access leaves: the answer and the refusal window, and the counts of both. -/
theorem State.refuse_same (a : Acc) (c : Nat) (r : Rej) (s : State) {x : Part} (h : x ∉ [Part.net, .ctr, .free, .od]) :
    x.same s (s.refuse a c r) := by
  cases x <;> first
    | exact absurd (by decide) h
    | simp [Part.same]

theorem State.refuse_rd (a : Acc) (c : Nat) (r : Rej) (s : State) {k : Nat} (h : k ≠ O.RPDO_REFUSED) : (s.refuse a c r).rd k = s.rd k := by
  unfold State.refuse
  simp only []
  split
  · exact State.rd_wr_other h _ _
  · rfl

theorem State.refuse_place (a : Acc) (c : Nat) (r : Rej) (s : State) {n : Nat} (h : n ≠ 462) : (s.refuse a c r).place n = s.place n := by
  unfold State.refuse
  simp only []
  split
  · exact State.place_bump_other h { s with net := _ }
  · exact State.place_bump_other h { s with net := _ }

theorem State.refuse_refusal (a : Acc) (c : Nat) (r : Rej) (s : State) :
    (s.refuse a c r).net = { s.net with refusal :=
      { reason := r.reason, abort := r.abort, object := a.idx * 65536 + a.sub * 256, command := c, plan := r.plan,
        path := a.path.code, count := (s.net.refusal.count + 1) % 2 ^ 32 } } := by
  unfold State.refuse
  simp only []
  split <;> rfl

/-- An access refused with `r`, from the state that serving began with. -/
theorem State.refused_done {s : State} {a : Acc} (r : Rej) (c : Nat) :
    ∃ t, s.done (((s.dropXfer a.path).refuse a c r).respond a s.clk.now 0 r.abort r.reason) = .next t ∧
      RefusedWith a c r.abort r.reason r.plan s t := by
  obtain ⟨m, hm⟩ := ((s.dropXfer a.path).refuse a c r).respond_net a s.clk.now 0 r.abort r.reason
  refine ⟨s.after _, rfl, ⟨m, ?_⟩, ⟨rfl, ?_⟩, ?_, ?_⟩
  · rw [State.after_net, hm, State.refuse_refusal, State.dropXfer_net]
    rfl
  · intro x hx
    refine Part.same_trans (State.dropXfer_same a.path s (fun e => hx (by simp [e]))) (Part.same_trans (State.refuse_same a c r _ hx) ?_)
    refine Part.same_trans (State.respond_same _ _ _ _ _ _ ?_) (State.after_same _ _ x)
    revert hx; cases x <;> simp [accessParts]
  · intro k hk h
    rw [State.after_rd _ _ h]
    have e1 : (((s.dropXfer a.path).refuse a c r).respond a s.clk.now 0 r.abort r.reason).rd k = ((s.dropXfer a.path).refuse a c r).rd k :=
      State.rd_of_od (by simp) k
    rw [e1, State.refuse_rd _ _ _ _ (by simpa using hk)]
    exact State.rd_of_od (by simp) k
  · intro n hn h1 h2
    simp only [List.mem_cons, List.not_mem_nil, or_false, not_or] at hn
    rw [State.after_place _ _ h1 h2, State.respond_place _ _ _ _ _ _ hn.1 hn.2.1, State.refuse_place _ _ _ _ hn.2.2]
    exact State.place_of_ctr (by simp) n

end Sys2Proof.Machine
end

