-- ==== Sys2Proof/Laws/Command.lean ====
section
/-!
SUPPORT. Command words, once: how the Miller comes to judge one, and what accepting and refusing it does (R389 to R395, R409).
-/

namespace Sys2Proof.Machine

theorem exec_asCommand {i : Instr} {p : Path} {code rsv arg : Nat} (h : asCommand i = some (p, code, rsv, arg)) (s : State) :
    exec i s = s.done (s.command p code rsv arg) := by
  cases i <;> simp only [asCommand, reduceCtorEq, Option.some.injEq, Prod.mk.injEq] at h <;>
    (obtain ⟨rfl, rfl, rfl, rfl⟩ := h; rfl)

theorem asCommand_code {i : Instr} {p : Path} {code rsv arg : Nat} (h : asCommand i = some (p, code, rsv, arg)) :
    code ∈ cmdCodes := by
  cases i <;> simp only [asCommand, reduceCtorEq, Option.some.injEq, Prod.mk.injEq] at h <;>
    (obtain ⟨-, rfl, -, -⟩ := h; decide)

theorem cmdCodes_small {code : Nat} (h : code ∈ cmdCodes) : code < 256 := by
  simp only [cmdCodes, List.mem_cons, List.not_mem_nil, or_false] at h; omega

theorem commandRow : findRow 0x2100 1 =
    some { idx := 0x2100, cnt := 1, step := 1, sub0 := 1, sub1 := 1, ty := .u32, acc := .wo, dflt := 0, lo := 0, hi := 4294967295,
           mask := none, enc := false } := by
  decide +kernel

theorem commandRow_ok (w : Nat) (h : w < 2 ^ 32) : ∃ r, writeCheck 0x2100 1 4 (w : Int) = .ok r := by
  refine ⟨{ idx := 0x2100, cnt := 1, step := 1, sub0 := 1, sub1 := 1, ty := .u32, acc := .wo, dflt := 0, lo := 0, hi := 4294967295,
            mask := none, enc := false }, ?_⟩
  have h1 : (w : Int) < 4294967296 := by omega
  have h2 : (w : Int) ≤ 4294967295 := by omega
  unfold writeCheck
  rw [commandRow]
  simp [Row.lengthOk, Row.valueCheck, Ty.fits, Ty.bytes, Ty.notFinite, h1, h2]

theorem State.cell_dropXfer (p : Path) (s : State) (c : Nat) : (s.dropXfer p).cell c = s.cell c := by
  simp [State.cell, State.matrixCol, State.acqEntering, State.plan]

/-- An access that the Miller takes up at once. -/
theorem State.access_judged {s : State} {a : Acc} (j : s.judges a.path) (h : a.idx = 0x2100) (f : State → State) : s.access a f = f (s.dropXfer a.path) := by
  obtain ⟨h1, h2⟩ := j
  have h3 := State.running_of_waits h2
  simp [State.access, h1, h3, State.dropXfer_waits, h, h2]

theorem performWrite_word (p : Path) {w : Nat} (h : w < 2 ^ 32) (s : State) :
    performWrite (accOfWord p w) s = writeCommand p w s := by
  obtain ⟨r, hr⟩ := commandRow_ok w h
  unfold performWrite
  rw [if_pos (by rfl)]
  have e : writeCheck (accOfWord p w).idx (accOfWord p w).sub (accOfWord p w).len (accOfWord p w).v = .ok r := hr
  rw [e]
  rfl

/-- The Miller judges a command word. -/
theorem State.command_judged {s : State} {p : Path} (j : s.judges p) {code rsv arg : Nat} (hc : code < 256) (hr : rsv < 256)
    (ha : arg < 65536) :
    s.command p code rsv arg = State.answerBoth (accOfWord p (cmdWord code rsv arg)) (cmdWord code rsv arg) s.clk.now
      (writeCommand p (cmdWord code rsv arg) (s.dropXfer p)) := by
  have hw : arg * 65536 + rsv % 256 * 256 + code = cmdWord code rsv arg := by simp [cmdWord, Nat.mod_eq_of_lt hr]
  have hb : cmdWord code rsv arg < 2 ^ 32 := by simp only [cmdWord]; omega
  have hu : wrapU 32 ((cmdWord code rsv arg : Nat) : Int) = cmdWord code rsv arg := by
    simp only [wrapU]; omega
  unfold State.command State.hostAccess
  rw [hw]
  generalize cmdWord code rsv arg = w at hb hu
  change s.access (accOfWord p w) (fun s => s.serveAcc s.clk.now (accOfWord p w)) = _
  rw [State.access_judged (a := accOfWord p w) j rfl]
  show (s.dropXfer p).serveAcc (s.dropXfer p).clk.now (accOfWord p w) = _
  unfold State.serveAcc
  rw [if_pos (by rfl), performWrite_word p hb, if_pos (by rfl), State.dropXfer_clk]
  show State.answerBoth _ (wrapU 32 (w : Int)) _ _ = _
  rw [hu]

/-- A command word refused: what it leaves. -/
theorem State.command_refused {s : State} {p : Path} {w : Nat} (r : Rej) (hp : r.plan = 255) :
    ∃ t, s.done (State.answerBoth (accOfWord p w) w s.clk.now (s.dropXfer p, some r, 0)) = .next t ∧
      CommandRefused p w r.abort r.reason s t := by
  have h := State.refused_done (s := s) (a := accOfWord p w) r w
  rw [hp] at h
  exact h

/-- An accepted command's record. -/
theorem State.noteCommand_same (p : Path) (w : Nat) (s : State) {x : Part} (h : x ∉ accessParts) : x.same s (s.noteCommand p w) := by
  unfold State.noteCommand State.trace_
  refine Part.same_trans ?_ (State.traceAs_same _ _ _ _ _ _ _ x)
  cases x <;> first
    | exact absurd (by decide) h
    | simp [Part.same, State.rd]

/-- A command word accepted, whose effect leads to `u`. -/
theorem State.command_done {s u : State} {p : Path} {w : Nat} :
    ∃ t, s.done (State.answerBoth (accOfWord p w) w s.clk.now (u.noteCommand p w, none, 0)) = .next t ∧
      (u.net = (s.dropXfer p).net → CommandNoted p w s t) ∧ t.net.lastCmd = w ∧ t.net.lastCmdPath = p.code ∧
      t.net.cmds = (u.net.cmds + 1) % 2 ^ 32 ∧
      t.net.last = { path := p, idx := 0x2100, sub := 1 } ∧ t.pending = s.pending ∧ ∀ x, x ∉ accessParts → x.same u t := by
  obtain ⟨m, hm⟩ := (u.noteCommand p w).respond_net (accOfWord p w) s.clk.now 0 0 0
  have hn : (u.noteCommand p w).net = { u.net with lastCmd := w, lastCmdPath := p.code, cmds := (u.net.cmds + 1) % 2 ^ 32 } := by
    simp [State.noteCommand]
  refine ⟨s.after ((u.noteCommand p w).respond (accOfWord p w) s.clk.now 0 0 0), rfl, ?_, ?_, ?_, ?_, ?_, rfl, ?_⟩
  all_goals try rw [State.after_net, hm, hn]
  · intro e
    refine ⟨m, ?_⟩
    rw [State.after_net, hm, hn, e, State.dropXfer_net]
    rfl
  · rfl
  · intro x hx
    exact Part.same_trans (State.noteCommand_same p w u hx) (Part.same_trans (State.respond_same _ _ _ _ _ _ hx) (State.after_same _ _ x))

/-- The fields of a command word. -/
theorem cmdWord_fields {code rsv arg : Nat} (hc : code < 256) (hr : rsv < 256) :
  cmdWord code rsv arg % 256 = code ∧ cmdWord code rsv arg / 256 % 256 = rsv ∧ cmdWord code rsv arg / 65536 = arg := by
  simp only [cmdWord]; omega

/-- A command word that passes the checks of its fields is judged by the legality matrix. -/
theorem exec_command {i : Instr} {p code arg} {s : State} (h : asCommand i = some (p, code, 0, arg)) (ha : arg < 65536) (j : s.judges p)
   (hk : cmdWordCheck code 0 arg = none) : exec i s = s.done (State.answerBoth (accOfWord p (cmdWord code 0 arg)) (cmdWord code 0 arg) s.clk.now
     (match s.cell code with
    | .refuse => (s.dropXfer p, some { abort := Why.badState, reason := Why.DEVICE_STATE }, 0)
    | .noEffect => ((s.dropXfer p).noteCommand p (cmdWord code 0 arg), none, 0)
    | .accept =>
      match cmdEffect p code arg (s.dropXfer p) with
      | (t, none, n) => (t.noteCommand p (cmdWord code 0 arg), none, n)
      | r => r)) := by
  have hm := asCommand_code h
  have hc := cmdCodes_small hm
  obtain ⟨w1, w2, w3⟩ := cmdWord_fields (arg := arg) hc (show 0 < 256 by decide)
  rw [exec_asCommand h, State.command_judged j hc (by decide) ha]
  unfold writeCommand
  simp only [w1, w2, w3, hk, State.cell_dropXfer]
  all_goals (cases s.cell code <;> first | rfl | (rcases cmdEffect p code arg (s.dropXfer p) with ⟨t, (_|_), n⟩ <;> rfl))

/-- A command that the matrix and its own checks accept: what it leaves, given the state `u` that its effect leads to. -/
theorem exec_command_accepted {i : Instr} {p : Path} {code arg n : Nat} {s u : State} (h : asCommand i = some (p, code, 0, arg))
    (ha : arg < 65536) (j : s.judges p) (hk : cmdWordCheck code 0 arg = none) (hc : s.cell code = .accept)
    (he : cmdEffect p code arg (s.dropXfer p) = (u, none, n)) (hn : u.net = (s.dropXfer p).net) :
    ∃ t, exec i s = .next t ∧ CommandNoted p (cmdWord code 0 arg) s t ∧ t.pending = s.pending ∧ ∀ x, x ∉ accessParts → x.same u t := by
  rw [exec_command h ha j hk, hc]
  simp only [he]
  obtain ⟨t, h1, h2, -, -, -, -, h7, h8⟩ := State.command_done (s := s) (u := u) (p := p) (w := cmdWord code 0 arg)
  exact ⟨t, h1, h2 hn, h7, h8⟩

end Sys2Proof.Machine
end

