-- ==== Sys2Proof/Tests/Slice0.lean ====
section
/-!
SUPPORT. Tests, by evaluation in the kernel: commands with operands that no command of the block has, which `Instr.wellFormed` refuses; steps
of single commands on small states, with what the spec says they lead to; and for every obligation with premises, and each clause of one,
a state and operands that meet them all together (`witness_<obligation>_<number>`: the cases of one clause, a group of conjuncts each).
-/

open Sys2Proof Sys2Proof.Machine

namespace Sys2Proof.Tests

set_option Elab.async false

/-! ### Words -/

/-- A write is served and meets its row's checks: the premise of many claims, as a Bool. -/
def admB (s : State) (p : Path) (k : Nat) (v : Int) : Bool :=
  s.admits p && !s.waits (k / 256 % 65536) && decide (s.dev ≠ .sleep) && (writeCheck (k / 256 % 65536) (k % 256) (natLen k) v).toBool

theorem ok_of {α β : Type} {e : Except α β} (h : e.toBool = true) : ∃ x, e = .ok x := by
  cases e with
  | ok x => exact ⟨x, rfl⟩
  | error x => simp [Except.toBool] at h

/-- The value of an outcome, and its error. -/
def okB {α β : Type} [DecidableEq β] (e : Except α β) (y : β) : Bool :=
  match e with
  | .ok x => decide (x = y)
  | .error _ => false
def errB {α β : Type} [DecidableEq α] (e : Except α β) (y : α) : Bool :=
  match e with
  | .ok _ => false
  | .error x => decide (x = y)

theorem ok_eq {α β : Type} [DecidableEq β] {e : Except α β} {y : β} (h : okB e y = true) : e = .ok y := by
  cases e with
  | ok x => simp [okB] at h; rw [h]
  | error x => simp [okB] at h

theorem err_eq {α β : Type} [DecidableEq α] {e : Except α β} {y : α} (h : errB e y = true) : e = .error y := by
  cases e with
  | ok x => simp [errB] at h
  | error x => simp [errB] at h; rw [h]

theorem pairs_of {α : Type} {l : List (Nat × α)} {P : Nat → Prop} (h : ∀ e, e ∈ l → P e.1) : ∀ (n : Nat) (v : α), (n, v) ∈ l → P n :=
  fun n v hv => h (n, v) hv

theorem adm_of {s : State} {p : Path} {k : Nat} {v : Int} (h : admB s p k v = true) : Admitted s p k v := by
  simp only [admB, Bool.and_eq_true, Bool.not_eq_true', decide_eq_true_eq] at h
  exact ⟨⟨h.1.1.1, h.1.1.2, h.1.2⟩, ok_of h.2⟩

theorem jud_of {s : State} {p : Path} (h : s.admits p = true ∧ s.waits 0x2100 = false) : s.judges p := h

theorem ser_of {s : State} {p : Path} {i : Nat} (h : s.admits p = true ∧ s.waits i = false ∧ s.dev ≠ .sleep) : s.serves p i := h

/-- What no lane of the table breaks, and none at rest, no lane breaks. -/
theorem lanes_of {s : State} {Q : Nat → Prop} {P : Lane → Prop} (h : ∀ e, e ∈ s.tail.lanes → Q e.1 → P e.2) (h0 : ∀ m, P (laneRest m)) :
    ∀ m, Q m → P (s.lane m) := by
  intro m hm
  have key : ∀ (l : Tbl Lane), (∀ e, e ∈ l → Q e.1 → P e.2) → P (tget laneRest l m) := by
    intro l hl
    unfold tget
    induction l with
    | nil => exact h0 m
    | cons e l ih =>
      obtain ⟨j, x⟩ := e
      simp only [tfind]
      split
      · next hj => exact hl (j, x) (List.mem_cons_self) (hj ▸ hm)
      · exact ih (fun e he => hl e (List.mem_cons_of_mem _ he))
  exact key _ h

theorem rest_clear (m : Nat) : (laneRest m).lost = none ∧ (laneRest m).repl = none := by
  unfold laneRest
  split
  · exact ⟨rfl, rfl⟩
  · split <;> exact ⟨rfl, rfl⟩

/-- The state after a command. -/
def run (i : Instr) (s : State) : State :=
  match exec i s with
  | .next t => t
  | _ => s
/-- The state as Boot ends, and the same some time later. -/
def r : State := State.reset
def at1 : State := { r with clk := { r.clk with now := 6400000 } }
def at2 : State := { r with clk := { r.clk with now := sec 100 } }

/-! ### Ill-formed operands -/

/-! ### Ill-formed operands -/

theorem test_well_grain :
    Instr.wellFormed (.grainCycle { codes := [List.replicate 64 0, List.replicate 64 0, List.replicate 64 0, List.replicate 64 0], big := [3], fails := [(3, 3, 16)], residue := [(0, 0)], ext := 15, ctb := 15 }) = true := by decide +kernel

theorem test_ill_arm_reserved :
    Instr.wellFormed (.arm .sdo 256 1) = false := by decide +kernel

theorem test_ill_stop_argument :
    Instr.wellFormed (.stop .sdo 0 65536) = false := by decide +kernel

theorem test_ill_object_index :
    Instr.wellFormed (.objectWrite .sdo 65536 0 1 0) = false := by decide +kernel

theorem test_ill_object_sub :
    Instr.wellFormed (.counterClear .sdo 0x4000 256 0) = false := by decide +kernel

theorem test_ill_channel :
    Instr.wellFormed (.rangeOffsetWrite .sdo 4 true 0) = false := by decide +kernel

theorem test_ill_bolter_channel :
    Instr.wellFormed (.bolterConfigWrite .od 4 1 0) = false := by decide +kernel

theorem test_ill_bolter_sub_low :
    Instr.wellFormed (.bolterConfigWrite .od 0 0 0) = false := by decide +kernel

theorem test_ill_bolter_sub_high :
    Instr.wellFormed (.bolterConfigWrite .od 0 6 0) = false := by decide +kernel

theorem test_ill_slot :
    Instr.wellFormed (.slotConfigWrite .sdo 8 1 0) = false := by decide +kernel

theorem test_ill_slot_sub_low :
    Instr.wellFormed (.slotConfigWrite .sdo 0 0 0) = false := by decide +kernel

theorem test_ill_slot_sub_high :
    Instr.wellFormed (.slotConfigWrite .sdo 0 22 0) = false := by decide +kernel

theorem test_ill_holdoff :
    Instr.wellFormed (.holdoffEnd 8) = false := by decide +kernel

theorem test_ill_plan :
    Instr.wellFormed (.planCommandEffect 16) = false := by decide +kernel

theorem test_ill_grain_channels :
    Instr.wellFormed (.grainCycle { codes := [] }) = false := by decide +kernel

theorem test_ill_grain_samples :
    Instr.wellFormed (.grainCycle { codes := [[], [], [], []] }) = false := by decide +kernel

theorem test_ill_grain_code_low :
    Instr.wellFormed (.grainCycle { codes := List.replicate 4 (List.replicate 64 (-513)) }) = false := by decide +kernel

theorem test_ill_grain_code_high :
    Instr.wellFormed (.grainCycle { codes := List.replicate 4 (List.replicate 64 512) }) = false := by decide +kernel

theorem test_ill_grain_big :
    Instr.wellFormed (.grainCycle { codes := [List.replicate 64 0, List.replicate 64 0, List.replicate 64 0, List.replicate 64 0], big := [4] }) = false := by decide +kernel

theorem test_ill_grain_fail_channel :
    Instr.wellFormed (.grainCycle { codes := [List.replicate 64 0, List.replicate 64 0, List.replicate 64 0, List.replicate 64 0], fails := [(4, 0, 0)] }) = false := by decide +kernel

theorem test_ill_grain_fail_quad :
    Instr.wellFormed (.grainCycle { codes := [List.replicate 64 0, List.replicate 64 0, List.replicate 64 0, List.replicate 64 0], fails := [(0, 4, 0)] }) = false := by decide +kernel

theorem test_ill_grain_fail_slice :
    Instr.wellFormed (.grainCycle { codes := [List.replicate 64 0, List.replicate 64 0, List.replicate 64 0, List.replicate 64 0], fails := [(0, 0, 17)] }) = false := by decide +kernel

theorem test_ill_grain_residue :
    Instr.wellFormed (.grainCycle { codes := [List.replicate 64 0, List.replicate 64 0, List.replicate 64 0, List.replicate 64 0], residue := [(4, 0)] }) = false := by decide +kernel

theorem test_ill_grain_ext :
    Instr.wellFormed (.grainCycle { codes := [List.replicate 64 0, List.replicate 64 0, List.replicate 64 0, List.replicate 64 0], ext := 16 }) = false := by decide +kernel

theorem test_ill_grain_ctb :
    Instr.wellFormed (.grainCycle { codes := [List.replicate 64 0, List.replicate 64 0, List.replicate 64 0, List.replicate 64 0], ctb := 16 }) = false := by decide +kernel

theorem test_ill_read_class_low :
    Instr.wellFormed (.storeRead { cls := 2, region := 0, addr := 0 }) = false := by decide +kernel

theorem test_ill_read_class_high :
    Instr.wellFormed (.storeRead { cls := 6, region := 0, addr := 0 }) = false := by decide +kernel

theorem test_ill_read_region :
    Instr.wellFormed (.storeRead { region := 3, addr := 0 }) = false := by decide +kernel

theorem test_ill_read_row :
    Instr.wellFormed (.storeRead { region := 0, addr := 0, row := 16777216 }) = false := by decide +kernel

theorem test_ill_scrub :
    Instr.wellFormed (.scrubBurst { rd := { region := 3, addr := 0 } }) = false := by decide +kernel

theorem test_ill_step_cluster :
    Instr.wellFormed (.instanceStep { inst := 0, cluster := 16 }) = false := by decide +kernel

theorem test_ill_step_runner :
    Instr.wellFormed (.instanceStep { inst := 0, runner := 17 }) = false := by decide +kernel

theorem test_ill_gov_power :
    Instr.wellFormed (.governorEvaluation 65536) = false := by decide +kernel

theorem test_ill_boot_straps :
    Instr.wellFormed (.bootComplete { balls := 128 }) = false := by decide +kernel

theorem test_ill_boot_reference :
    Instr.wellFormed (.bootComplete { ref := 3 }) = false := by decide +kernel

theorem test_ill_boot_codes :
    Instr.wellFormed (.bootComplete { codes := [[], [], []] }) = false := by decide +kernel

theorem test_ill_sdo_read_index :
    Instr.wellFormed (.sdoRequest (.read 65536 0)) = false := by decide +kernel

theorem test_ill_sdo_read_sub :
    Instr.wellFormed (.sdoRequest (.read 0 256)) = false := by decide +kernel

theorem test_ill_sdo_write_index :
    Instr.wellFormed (.sdoRequest (.write 65536 0 1 0)) = false := by decide +kernel

theorem test_ill_sdo_write_sub :
    Instr.wellFormed (.sdoRequest (.write 0 256 1 0)) = false := by decide +kernel

theorem test_ill_sdo_write_length :
    Instr.wellFormed (.sdoRequest (.write 0 0 57 0)) = false := by decide +kernel

theorem test_ill_sdo_begin_index :
    Instr.wellFormed (.sdoRequest (.begin_ 65536 0 8)) = false := by decide +kernel

theorem test_ill_sdo_begin_sub :
    Instr.wellFormed (.sdoRequest (.begin_ 0 256 8)) = false := by decide +kernel

theorem test_ill_sdo_segment :
    Instr.wellFormed (.sdoRequest (.segment 61 0 false)) = false := by decide +kernel

theorem test_ill_pc :
    Instr.wellFormed (.pcHardFailure 60 0) = false := by decide +kernel

theorem test_ill_pc_row :
    Instr.wellFormed (.pcHardFailure 0 16777216) = false := by decide +kernel

theorem test_ill_pc_copy :
    Instr.wellFormed (.pcCopyStart 60) = false := by decide +kernel

theorem test_ill_layering_channel :
    Instr.wellFormed (.sliceWearLayering 4 0) = false := by decide +kernel

theorem test_ill_layering_quad :
    Instr.wellFormed (.sliceWearLayering 0 4) = false := by decide +kernel

theorem test_ill_failure_channel :
    Instr.wellFormed (.sliceHardFailure 4 0 0) = false := by decide +kernel

theorem test_ill_failure_quad :
    Instr.wellFormed (.sliceHardFailure 0 4 0) = false := by decide +kernel

theorem test_ill_failure_slice :
    Instr.wellFormed (.sliceHardFailure 0 0 17) = false := by decide +kernel

theorem test_ill_gate :
    Instr.wellFormed (.resultWriteEvent 65536) = false := by decide +kernel

theorem test_ill_cluster :
    Instr.wellFormed (.spareSelfTest 16 true) = false := by decide +kernel

theorem test_ill_tile_plane :
    Instr.wellFormed (.tileSpill 0 4096 0 []) = false := by decide +kernel

theorem test_ill_tile :
    Instr.wellFormed (.tileSpill 0 0 256 []) = false := by decide +kernel

theorem test_ill_display :
    Instr.wellFormed (.displayJobDone 16) = false := by decide +kernel

theorem test_ill_reference :
    Instr.wellFormed (.refMeasurement 4 false {} 0) = false := by decide +kernel

theorem test_ill_loop :
    Instr.wellFormed (.gateReopen 7) = false := by decide +kernel

theorem test_ill_phase_group :
    Instr.wellFormed (.phaseLayering true 6 0) = false := by decide +kernel

theorem test_ill_phase :
    Instr.wellFormed (.phaseLayering true 0 8) = false := by decide +kernel

theorem test_ill_rail :
    Instr.wellFormed (.railFault 6 0) = false := by decide +kernel

theorem test_ill_supply :
    Instr.wellFormed (.supplyCondition 7 true 0) = false := by decide +kernel

theorem test_ill_sensor :
    Instr.wellFormed (.thermalCondition 12 0) = false := by decide +kernel

theorem test_ill_converter :
    Instr.wellFormed (.monitorTableEntry 2 0) = false := by decide +kernel

theorem test_ill_sequence_converter :
    Instr.wellFormed (.monitorSequenceEnd 2 (List.replicate 16 0)) = false := by decide +kernel

theorem test_ill_sequence_codes :
    Instr.wellFormed (.monitorSequenceEnd 0 []) = false := by decide +kernel

theorem test_ill_rpdo :
    Instr.wellFormed (.rpdoReceived 8 []) = false := by decide +kernel

theorem test_ill_rpdo_bytes :
    Instr.wellFormed (.rpdoReceived 0 [256]) = false := by decide +kernel

theorem test_ill_rpdo_length :
    Instr.wellFormed (.rpdoReceived 0 (List.replicate 65 0)) = false := by decide +kernel

theorem test_ill_tpdo :
    Instr.wellFormed (.tpdoEvent 16) = false := by decide +kernel

theorem test_ill_can_state :
    Instr.wellFormed (.canErrorState 3) = false := by decide +kernel

theorem test_ill_node :
    Instr.wellFormed (.startRemoteNode 128) = false := by decide +kernel

theorem test_ill_reset_node :
    Instr.wellFormed (.resetCommunication 128 0) = false := by decide +kernel

theorem test_ill_reset_balls :
    Instr.wellFormed (.resetCommunication 0 128) = false := by decide +kernel

theorem test_ill_lane :
    Instr.wellFormed (.markerReceived 26 []) = false := by decide +kernel

theorem test_ill_link :
    Instr.wellFormed (.frameReceived 6 []) = false := by decide +kernel

theorem test_ill_frame_bytes :
    Instr.wellFormed (.frameReceived 0 [256]) = false := by decide +kernel

theorem test_ill_replay :
    Instr.wellFormed (.replayTimeout 6) = false := by decide +kernel

theorem test_ill_lane_group :
    Instr.wellFormed (.laneWearLayering 6) = false := by decide +kernel

theorem test_ill_side_low :
    Instr.wellFormed (.hedgeEpochRecord 3) = false := by decide +kernel

theorem test_ill_side_high :
    Instr.wellFormed (.hedgeEpochRecord 6) = false := by decide +kernel

theorem test_ill_stream :
    Instr.wellFormed (.deliveryFrame 18) = false := by decide +kernel

theorem test_ill_forward :
    Instr.wellFormed (.forwardRetry 2) = false := by decide +kernel

theorem test_ill_unit :
    Instr.wellFormed (.passBegin 65536) = false := by decide +kernel

theorem test_ill_gap_item :
    Instr.wellFormed (.gapWindowComplete 261 []) = false := by decide +kernel

theorem test_ill_grain_residue_place :
    Instr.wellFormed (.grainCycle { codes := [List.replicate 64 0, List.replicate 64 0, List.replicate 64 0, List.replicate 64 0], residue := [(0, 64)] }) = false := by decide +kernel

theorem test_ill_read_bursts :
    Instr.wellFormed (.storeRead { region := 1, addr := 0, ecc := [.clean, .clean, .clean] }) = false := by decide +kernel

theorem test_ill_residue_cluster :
    Instr.wellFormed (.runnerResidueError { inst := 0, cluster := 16 } []) = false := by decide +kernel

theorem test_ill_residue_tile :
    Instr.wellFormed (.runnerResidueError { inst := 0 } [(0, 256)]) = false := by decide +kernel

theorem test_ill_retry_plane :
    Instr.wellFormed (.retryWindowExpire 0 [(4096, 0)]) = false := by decide +kernel

theorem test_ill_timeout_runner :
    Instr.wellFormed (.measTimeout { inst := 0, runner := 17 }) = false := by decide +kernel

theorem test_ill_share_sub :
    Instr.wellFormed (.shareWrite .sdo 256 0) = false := by decide +kernel

/-! ### Witnesses: the machine, accesses and commands -/

theorem witness_IdleStep_1 :
    r.pending = [] := by decide +kernel

def stoppedNet : State := { r with net := { r.net with nmt := .stopped } }
def ctlStopped : State := { r with fan := { r.fan with loops := [(4, { gate := false })] } }
def pondStopped : State := { r with fan := { r.fan with loops := [(2, { gate := false })] } }
def goingDown : State := { r with dev := .sleep }
def faulted : State := { r with dev := .faulted }

theorem witness_WriteNotServed_1 :
    ((asWrite (Instr.hostAckSeqWrite Path.sdo 5) = some (Path.sdo, O.HOST_ACK_SEQ, 5)) ∧ (stoppedNet.admits Path.sdo = false ∧
     stoppedNet.recovers (accOf Path.sdo O.HOST_ACK_SEQ 5) = false ∨ Path.sdo ≠ Path.od ∧ stoppedNet.stopped 4 = true)) ∧
    ((asWrite (Instr.hostAckSeqWrite Path.sdo 5) = some (Path.sdo, O.HOST_ACK_SEQ, 5)) ∧ (ctlStopped.admits Path.sdo = false ∧
     ctlStopped.recovers (accOf Path.sdo O.HOST_ACK_SEQ 5) = false ∨ Path.sdo ≠ Path.od ∧ ctlStopped.stopped 4 = true)) :=
  ⟨by decide +kernel, by decide +kernel⟩

theorem witness_WriteNotServed_2 :
    ((asWrite (Instr.hostAckSeqWrite Path.od 5) = some (Path.od, O.HOST_ACK_SEQ, 5)) ∧ ctlStopped.admits Path.od = true ∧
     (Path.od = Path.od ∨ ctlStopped.stopped 4 = false) ∧ ctlStopped.waits (O.HOST_ACK_SEQ / 256 % 65536) = true) ∧
    ((asWrite (Instr.hostAckSeqWrite Path.sdo 5) = some (Path.sdo, O.HOST_ACK_SEQ, 5)) ∧ pondStopped.admits Path.sdo = true ∧
     (Path.sdo = Path.od ∨ pondStopped.stopped 4 = false) ∧ pondStopped.waits (O.HOST_ACK_SEQ / 256 % 65536) = true) :=
  ⟨by decide +kernel, by decide +kernel⟩

theorem witness_WriteNotServed_3 :
    (asWrite (Instr.hostAckSeqWrite Path.od 5) = some (Path.od, O.HOST_ACK_SEQ, 5)) ∧ goingDown.admits Path.od = true ∧
    goingDown.waits (O.HOST_ACK_SEQ / 256 % 65536) = false ∧ goingDown.dev = DevMode.sleep := by decide +kernel

/-- What the row checks answer to a value of the object's own length. -/
def rowRej (k : Nat) (v : Int) : Rej :=
  match writeCheck (k / 256 % 65536) (k % 256) (natLen k) v with
  | .error e => e
  | .ok _ => { abort := 0, reason := 0 }
def rowOf (idx sub : Nat) : Row :=
  (findRow idx sub).getD { ty := .u8, acc := .ro, idx := 0, cnt := 0, step := 0, sub0 := 0, sub1 := 0, dflt := 0, lo := 0, hi := 0, mask := none, enc := false }

theorem witness_RowChecks_1 :
    r.serves Path.sdo (O.CH_ENABLE 0 / 256 % 65536) ∧
    writeCheck (O.CH_ENABLE 0 / 256 % 65536) (O.CH_ENABLE 0 % 256) (natLen (O.CH_ENABLE 0)) 7 = Except.error (rowRej (O.CH_ENABLE 0) 7) ∧
    (asWrite (Instr.chEnableWrite Path.sdo 0 7) = some (Path.sdo, O.CH_ENABLE 0, 7)) :=
  ⟨ser_of (by decide +kernel), err_eq (by decide +kernel), by decide +kernel⟩

theorem witness_RowChecks_2 :
    r.serves Path.sdo 4119 ∧ findRow 4119 0 = some (rowOf 4119 0) ∧ (rowOf 4119 0).acc ≠ Access.ro ∧ (rowOf 4119 0).ty ≠ Ty.dom ∧
    4 ≠ (rowOf 4119 0).ty.bytes :=
  ⟨ser_of (by decide +kernel), by decide +kernel⟩

theorem witness_RowChecks_3 :
    (Admitted r Path.sdo O.HEARTBEAT_TIME 7 ∧ O.HEARTBEAT_TIME ∈ plainObjects) ∧
    (Admitted at1 Path.od O.PAIR_LIMIT 7 ∧ O.PAIR_LIMIT ∈ plainObjects) :=
  ⟨⟨adm_of (by decide +kernel), by decide +kernel⟩, ⟨adm_of (by decide +kernel), by decide +kernel⟩⟩

theorem witness_CommandsRefused_1 :
    (r.judges Path.sdo ∧ (asCommand (Instr.sleep Path.sdo 1 0) = some (Path.sdo, 32, 1, 0)) ∧ 1 < 256 ∧ 0 < 65536 ∧ (1 ≠ 0 ∨ 17 ≤ 32 ∧ 0 ≠ 0)) ∧
    (r.judges Path.sdo ∧ (asCommand (Instr.wake Path.sdo 0 3) = some (Path.sdo, 33, 0, 3)) ∧ 0 < 256 ∧ 3 < 65536 ∧ (0 ≠ 0 ∨ 17 ≤ 33 ∧ 3 ≠ 0)) ∧
    (r.judges Path.sdo ∧ (asCommand (Instr.arm Path.sdo 0 0) = some (Path.sdo, 1, 0, 0)) ∧ 0 < 256 ∧ 0 < 65536 ∧ 0 = 0 ∧ 1 ≤ 5 ∧ 0 = 0) ∧
    (r.judges Path.sdo ∧ (asCommand (Instr.dress Path.sdo 0 3840) = some (Path.sdo, 16, 0, 3840)) ∧ 0 < 256 ∧ 3840 < 65536 ∧ 0 = 0 ∧ 16 = 16 ∧
     unitKnown 3840 = false) :=
  ⟨⟨jud_of (by decide +kernel), by decide +kernel⟩, ⟨jud_of (by decide +kernel), by decide +kernel⟩, ⟨jud_of (by decide +kernel), by decide +kernel⟩, ⟨jud_of (by decide +kernel), by decide +kernel⟩⟩

theorem witness_CommandsRefused_2 :
    (faulted.judges Path.sdo ∧ (asCommand (Instr.arm Path.sdo 0 1) = some (Path.sdo, 1, 0, 1)) ∧ 1 < 65536 ∧ cmdWordCheck 1 0 1 = none ∧
     (faulted.dev = DevMode.sleep ∨ faulted.dev = DevMode.faulted ∧ 1 ∈ [1, 4, 16, 17, 32])) ∧
    (goingDown.judges Path.od ∧ (asCommand (Instr.resetStats Path.od 0 0) = some (Path.od, 64, 0, 0)) ∧ 0 < 65536 ∧ cmdWordCheck 64 0 0 = none ∧
     (goingDown.dev = DevMode.sleep ∨ goingDown.dev = DevMode.faulted ∧ 64 ∈ [1, 4, 16, 17, 32])) :=
  ⟨⟨jud_of (by decide +kernel), by decide +kernel⟩, ⟨jud_of (by decide +kernel), by decide +kernel⟩⟩

/-- Plan 0 in a state, with an entry. -/
def inState (st : Nat) : State := { r with plans := [(0, { st := st, cfg := {}, entries := 1 })], acq := 2 }

theorem witness_CommandsAccepted_1 :
    (faulted.judges Path.sdo ∧ (asCommand (Instr.stop Path.sdo 0 1) = some (Path.sdo, 2, 0, 1)) ∧ 1 < 65536 ∧ cmdWordCheck 2 0 1 = none ∧
     (faulted.dev = DevMode.faulted ∧ 2 ∈ [2, 3, 33] ∨ faulted.dev = DevMode.run ∧ faulted.dress.passes = [] ∧ faulted.acqEntering = 1 ∧
     2 ∈ [2, 3] ∨ faulted.dev = DevMode.run ∧ faulted.dress.passes = [] ∧ faulted.acqEntering = 2 ∧ 2 = 33)) ∧
    (r.judges Path.sdo ∧ (asCommand (Instr.hold Path.sdo 0 1) = some (Path.sdo, 3, 0, 1)) ∧ 1 < 65536 ∧ cmdWordCheck 3 0 1 = none ∧
     (r.dev = DevMode.faulted ∧ 3 ∈ [2, 3, 33] ∨ r.dev = DevMode.run ∧ r.dress.passes = [] ∧ r.acqEntering = 1 ∧ 3 ∈ [2, 3] ∨ r.dev = DevMode.run ∧
     r.dress.passes = [] ∧ r.acqEntering = 2 ∧ 3 = 33)) ∧
    ((inState 1).judges Path.sdo ∧ (asCommand (Instr.wake Path.sdo 0 0) = some (Path.sdo, 33, 0, 0)) ∧ 0 < 65536 ∧ cmdWordCheck 33 0 0 = none ∧
     ((inState 1).dev = DevMode.faulted ∧ 33 ∈ [2, 3, 33] ∨ (inState 1).dev = DevMode.run ∧ (inState 1).dress.passes = [] ∧
     (inState 1).acqEntering = 1 ∧ 33 ∈ [2, 3] ∨ (inState 1).dev = DevMode.run ∧ (inState 1).dress.passes = [] ∧ (inState 1).acqEntering = 2 ∧
     33 = 33)) :=
  ⟨⟨jud_of (by decide +kernel), by decide +kernel⟩, ⟨jud_of (by decide +kernel), by decide +kernel⟩, ⟨jud_of (by decide +kernel), by decide +kernel⟩⟩

def effectOf (code arg : Nat) (s : State) : State := (cmdEffect .sdo code arg (s.dropXfer .sdo)).1
def effectNo (code arg : Nat) (s : State) : Nat := (cmdEffect .sdo code arg (s.dropXfer .sdo)).2.2

theorem witness_CommandsAccepted_2 :
    r.judges Path.sdo ∧ (asCommand (Instr.wake Path.sdo 0 0) = some (Path.sdo, 33, 0, 0)) ∧ 0 < 65536 ∧ cmdWordCheck 33 0 0 = none ∧
    r.cell 33 = Cell.accept ∧ (cmdEffect Path.sdo 33 0 (State.dropXfer Path.sdo r) = (effectOf 33 0 r, none, effectNo 33 0 r)) :=
  ⟨jud_of (by decide +kernel), by decide +kernel⟩

/-- Plan 2 on channel 0, with an allocation of 64 grains within a share of 64. -/
def armable : State := (((r.wr (O.CHANNEL_SET 2) 1).wr (O.ALLOC_GRAINS 2) 64).wr O.SHARE_A 64).wr (O.RING_LENGTH 2) 8
def armedOf (arg : Nat) (s : State) : State :=
  match cmdArm arg (s.dropXfer .sdo) with
  | .ok u => u
  | .error _ => r
def armed : State := armedOf 4 armable

theorem witness_ArmEffect_1 :
    armable.judges Path.sdo ∧ cmdArm 4 (State.dropXfer Path.sdo armable) = Except.ok (armedOf 4 armable) ∧ 0 < 4 ∧ 4 < 65536 ∧
    armable.cell 1 = Cell.accept :=
  ⟨jud_of (by decide +kernel), by
    obtain ⟨u, h⟩ := ok_of (e := cmdArm 4 (State.dropXfer Path.sdo armable)) (by decide +kernel)
    simp only [armedOf]
    rw [h], by decide +kernel⟩

theorem witness_StopHoldForceRelease_1 :
    ((inState 1).judges Path.sdo ∧ 0 < 3 ∧ 3 < 65536 ∧ (inState 1).cell 2 = Cell.accept) ∧
    ((inState 4).judges Path.sdo ∧ 0 < 3 ∧ 3 < 65536 ∧ (inState 4).cell 2 = Cell.accept) ∧
    ((inState 2).judges Path.sdo ∧ 0 < 3 ∧ 3 < 65536 ∧ (inState 2).cell 3 = Cell.accept) ∧
    ((inState 4).judges Path.sdo ∧ 0 < 3 ∧ 3 < 65536 ∧ (inState 4).cell 3 = Cell.accept) ∧
    ((inState 3).judges Path.sdo ∧ 0 < 3 ∧ 3 < 65536 ∧ (inState 3).cell 4 = Cell.accept ∧ (∃ q, q < 16 ∧ bit 3 q = true ∧
     armedSt ((inState 3).plan q).entering = true)) :=
  ⟨⟨jud_of (by decide +kernel), by decide +kernel⟩, ⟨jud_of (by decide +kernel), by decide +kernel⟩, ⟨jud_of (by decide +kernel), by decide +kernel⟩, ⟨jud_of (by decide +kernel), by decide +kernel⟩, ⟨jud_of (by decide +kernel), by decide +kernel⟩⟩

theorem witness_StopHoldForceRelease_2 :
    (inState 5).judges Path.sdo ∧ 0 < 3 ∧ 3 < 65536 ∧ (inState 5).cell 5 = Cell.accept ∧
    (∀ (q : Nat), q < 16 → bit 3 q = true → armedSt ((inState 5).plan q).entering = false) :=
  ⟨jud_of (by decide +kernel), by decide +kernel⟩

theorem witness_DeviceCommands_1 :
    (r.judges Path.sdo ∧ 256 < 65536 ∧ unitKnown 256 = true ∧ r.cell 16 = Cell.accept ∧ r.dressRefusal 256 = none ∧ (256 = 1280 → r.gov.power ≠ 2) ∧
     (isChanUnit 256 = true → r.gov.closed = false)) ∧
    (r.judges Path.sdo ∧ r.cell 17 = Cell.accept ∧ r.dress.commit = none) :=
  ⟨⟨jud_of (by decide +kernel), by decide +kernel⟩, ⟨jud_of (by decide +kernel), by decide +kernel⟩⟩

theorem witness_DeviceCommands_2 :
    (r.judges Path.sdo ∧ r.cell 32 = Cell.accept ∧ r.gov.wakeN = false ∧ r.dress.commit = none ∧ r.upd.session = none ∧
     (Path.sdo = Path.sdo ∨ r.net.xfer = none)) ∧
    (r.judges Path.sdo ∧ r.cell 33 = Cell.accept) :=
  ⟨⟨jud_of (by decide +kernel), by decide +kernel⟩, ⟨jud_of (by decide +kernel), by decide +kernel⟩⟩

def dozing : State := { r with gov := { r.gov with power := 2 } }

theorem witness_DeviceCommands_3 :
    dozing.judges Path.od ∧ dozing.cell 33 = Cell.accept :=
  ⟨jud_of (by decide +kernel), by decide +kernel⟩

theorem witness_DeviceCommands_4 :
    (r.judges Path.sdo ∧ r.cell 64 = Cell.accept) ∧
    (r.judges Path.sdo ∧ r.cell 80 = Cell.accept ∧ r.gov.power ≠ 2) :=
  ⟨⟨jud_of (by decide +kernel), by decide +kernel⟩, ⟨jud_of (by decide +kernel), by decide +kernel⟩⟩

theorem witness_EveryStepKeepsTold :
    ∃ t, r.told ∧ step r = .next t := ⟨_, .inr (by decide +kernel), rfl⟩

theorem witness_EveryStepKeepsTold_2 :
    ∃ t, ({ r with pending := [.heartbeat] } : State).told ∧ step { r with pending := [.heartbeat] } = .next t := ⟨_, .inr (by decide +kernel), rfl⟩

/-! ### Witnesses: channels and Bolters -/

def chOff : State := r.wr (O.CH_ENABLE 2) 0
def chOn : State := r.wr (O.CH_ENABLE 2) 1
/-- Channel 2 is being dressed. -/
def chDressed : State := { chOn with dress := { r.dress with passes := [{ unit := 0x0300, stage := 2 }] } }

theorem witness_FrontEndWrites_1 :
    ((Admitted chDressed Path.sdo (if false = true then O.OFFSET 2 else O.RANGE 2) 3) ∧ 2 < 4 ∧ chDressed.dressingCh 2 = true) ∧
    ((Admitted chOff Path.sdo (if false = true then O.OFFSET 2 else O.RANGE 2) 3) ∧ 2 < 4 ∧ chOff.dressingCh 2 = false ∧ chOff.rd (O.CH_ENABLE 2) = 0) ∧
    ((Admitted chOff Path.sdo (if true = true then O.OFFSET 2 else O.RANGE 2) (-3)) ∧ 2 < 4 ∧ chOff.dressingCh 2 = false ∧
     chOff.rd (O.CH_ENABLE 2) = 0) ∧
    ((Admitted chOn Path.od (if false = true then O.OFFSET 2 else O.RANGE 2) 3) ∧ 2 < 4 ∧ chOn.dressingCh 2 = false ∧ chOn.rd (O.CH_ENABLE 2) ≠ 0) ∧
    ((Admitted chOn Path.sdo (if true = true then O.OFFSET 2 else O.RANGE 2) (-3)) ∧ 2 < 4 ∧ chOn.dressingCh 2 = false ∧ chOn.rd (O.CH_ENABLE 2) ≠ 0) :=
  ⟨⟨adm_of (by decide +kernel), by decide +kernel⟩, ⟨adm_of (by decide +kernel), by decide +kernel⟩, ⟨adm_of (by decide +kernel), by decide +kernel⟩, ⟨adm_of (by decide +kernel), by decide +kernel⟩, ⟨adm_of (by decide +kernel), by decide +kernel⟩⟩

def wOf : RangeWrite := { at_ := 6399990, range := 2, offset := -3 }
def writeArrived : State := { at1 with chans := [(1, { writes := [wOf] })] }
def prepOf : Prep := { at_ := 6400000, range := 1, offset := 100 }
def switching : State := { at1 with chans := [(1, { prep := some prepOf, readyAt := some 7 })] }

theorem witness_FrontEndWrites_2 :
    (1 < 4 ∧ (writeArrived.chan 1).writes = [wOf] ∧ wOf.at_ < writeArrived.clk.now ∧
     writeArrived.clk.now < writeArrived.clk.epochBase + (wOf.at_ - writeArrived.clk.epochBase) / 64 * 64 + 2560 * 64 ∧
     (∀ (p : Prep), (writeArrived.chan 1).prep = some p → wOf.at_ < p.at_ ∧ writeArrived.clk.now < p.at_)) ∧
    (1 < 4 ∧ (switching.chan 1).writes = [] ∧ (switching.chan 1).prep = some prepOf ∧ prepOf.at_ ≤ switching.clk.now) ∧
    (1 < 4 ∧ (switching.chan 1).readyAt = some 7 ∧ 7 ≤ switching.clk.now ∧ (switching.chan 1).swap = none) :=
  ⟨by decide +kernel, by decide +kernel, by decide +kernel⟩

def chUsed : State := { r with plans := [(1, { st := 2, cfg := { chset := 4, slots := 4 } })] }

theorem witness_FrontEndWrites_3 :
    (Admitted chUsed Path.sdo (O.CH_ENABLE 2) 0 ∧ 2 < 4 ∧ chUsed.inUse 2 = true) ∧
    (Admitted r Path.sdo (O.CH_ENABLE 1) 0 ∧ 1 < 4 ∧ r.inUse 1 = false) ∧
    (Admitted chOff Path.sdo (O.CH_ENABLE 2) 1 ∧ 2 < 4 ∧ chOff.inUse 2 = false) :=
  ⟨⟨adm_of (by decide +kernel), by decide +kernel⟩, ⟨adm_of (by decide +kernel), by decide +kernel⟩, ⟨adm_of (by decide +kernel), by decide +kernel⟩⟩

theorem witness_StatusAndCounterWrites_1 :
    Admitted r Path.sdo (O.FE_STATUS 1) 16 ∧ 1 < 4 :=
  ⟨adm_of (by decide +kernel), by decide +kernel⟩

theorem witness_StatusAndCounterWrites_2 :
    (Admitted (State.wr (O.OVERRANGE_COUNT 0) 5 r) Path.sdo (O.OVERRANGE_COUNT 0) 0 ∧ O.OVERRANGE_COUNT 0 ∈ someCounters) ∧
    (Admitted (State.wr O.RPDO_LOST 5 r) Path.od O.RPDO_LOST 0 ∧ O.RPDO_LOST ∈ someCounters) :=
  ⟨⟨adm_of (by decide +kernel), by decide +kernel⟩, ⟨adm_of (by decide +kernel), by decide +kernel⟩⟩

theorem witness_BolterConfigAndDecimation_1 :
    (Admitted chUsed Path.sdo (O.MODE 2 + 1 - 1) 3 ∧ 2 < 4 ∧ 1 ≤ 1 ∧ 1 ≤ 5 ∧ chUsed.armedOn 2 = true) ∧
    (Admitted r Path.sdo (O.MODE 1 + 1 - 1) 2 ∧ 1 < 4 ∧ 1 ≤ 1 ∧ 1 ≤ 5 ∧ r.armedOn 1 = false ∧
     (((State.wr (O.MODE 1 + 1 - 1) 2 r).bolterObjs 1).mode = 2 ∧ ((State.wr (O.MODE 1 + 1 - 1) 2 r).bolterObjs 1).factor < 4 ∧ (1 = 1 ∨ 1 = 3))) ∧
    (Admitted r Path.sdo (O.MODE 1 + 1 - 1) 3 ∧ 1 < 4 ∧ 1 ≤ 1 ∧ 1 ≤ 5 ∧ r.armedOn 1 = false ∧
     (¬(((State.wr (O.MODE 1 + 1 - 1) 3 r).bolterObjs 1).mode = 2 ∧ ((State.wr (O.MODE 1 + 1 - 1) 3 r).bolterObjs 1).factor < 4 ∧ (1 = 1 ∨ 1 = 3)))) ∧
    (Admitted at1 Path.od (O.MODE 1 + 5 - 1) 4 ∧ 1 < 4 ∧ 1 ≤ 5 ∧ 5 ≤ 5 ∧ at1.armedOn 1 = false ∧
     (¬(((State.wr (O.MODE 1 + 5 - 1) 4 at1).bolterObjs 1).mode = 2 ∧ ((State.wr (O.MODE 1 + 5 - 1) 4 at1).bolterObjs 1).factor < 4 ∧
     (5 = 1 ∨ 5 = 3)))) ∧
    (Admitted r Path.sdo (O.MODE 1 + 3 - 1) 4 ∧ 1 < 4 ∧ 1 ≤ 3 ∧ 3 ≤ 5 ∧ r.armedOn 1 = false ∧
     (¬(((State.wr (O.MODE 1 + 3 - 1) 4 r).bolterObjs 1).mode = 2 ∧ ((State.wr (O.MODE 1 + 3 - 1) 4 r).bolterObjs 1).factor < 4 ∧ (3 = 1 ∨ 3 = 3)))) :=
  ⟨⟨adm_of (by decide +kernel), by decide +kernel⟩, ⟨adm_of (by decide +kernel), by decide +kernel⟩, ⟨adm_of (by decide +kernel), by decide +kernel⟩, ⟨adm_of (by decide +kernel), by decide +kernel⟩, ⟨adm_of (by decide +kernel), by decide +kernel⟩⟩

def syncOff : State := r.wr (O.DECIM_SYNC_ENABLE 0) 0
def syncOn : State := r.wr (O.DECIM_SYNC_ENABLE 0) 1

theorem witness_BolterConfigAndDecimation_2 :
    (syncOff.rd (O.DECIM_SYNC_ENABLE 0) = 0 ∨ syncOff.grainRuns = false ∨ syncOff.fan.sync.isSome = true) := by decide +kernel

def syncTaken : State := { syncOn with fan := { r.fan with sync := some 12800 } }

theorem witness_BolterConfigAndDecimation_3 :
    (syncTaken.rd (O.DECIM_SYNC_ENABLE 0) = 0 ∨ syncTaken.grainRuns = false ∨ syncTaken.fan.sync.isSome = true) ∧
    (syncOn.rd (O.DECIM_SYNC_ENABLE 0) ≠ 0 ∧ syncOn.grainRuns = true ∧ syncOn.fan.sync = none) :=
  ⟨by decide +kernel, by decide +kernel⟩

def resetDue : State := { at1 with origin := { resets := [3, 6400000] } }

theorem witness_BolterConfigAndDecimation_4 :
    resetDue.origin.resets ≠ [] ∧ (∀ (r : Time), r ∈ resetDue.origin.resets → r ≤ resetDue.clk.now) ∧ resetDue.fan.sync = none ∧
    resetDue.grainRuns = true := by decide +kernel

def changeDue : State := { r with chans := [(1, { chgs := [(0, { mode := 1 }), (0, { mode := 3 }), (64, {})] })] }
def swapDue (mode : Nat) : State := { r with chans := [(1, { swapReq := some 0, cfg := { mode := mode } })] }
def swapOf : Swap := { k := 100000, start := 0, fade := 5, bank := 1 }
def swapping : State := { r with chans := [(1, { swapQueued := true, swap := some swapOf, cfg := { mode := 3 } })] }
def swapFar : State := { r with chans := [(1, { swap := some swapOf, cfg := { mode := 3 } })] }
def mode3 : BolterCfg := { mode := 3 }

theorem witness_BolterBoundaries_1 :
    1 < 4 ∧ ((List.filter (fun e => changeDue.due e.fst) (changeDue.chan 1).chgs).getLast? = some (0, mode3)) ∧ (changeDue.chan 1).swap = none := by decide +kernel

theorem witness_BolterBoundaries_2 :
    (1 < 4 ∧ ((swapDue 3).chan 1).swapReq = some 0 ∧ ((swapDue 3).chan 1).swap = none ∧ 0 ≤ (swapDue 3).clk.now) ∧
    (1 < 4 ∧ ((swapDue 1).chan 1).swapReq = some 0 ∧ ((swapDue 1).chan 1).swap = none ∧ 0 ≤ (swapDue 1).clk.now) :=
  ⟨by decide +kernel, by decide +kernel⟩

theorem witness_BolterBoundaries_3 :
    (1 < 4 ∧ (swapping.chan 1).swap = some swapOf ∧ ceilDiv (swapping.chan 1).cfg.reach (swapping.chan 1).cfg.d + swapOf.fade < swapOf.k) ∧
    (1 < 4 ∧ (swapFar.chan 1).swap = some swapOf ∧ ceilDiv (swapFar.chan 1).cfg.reach (swapFar.chan 1).cfg.d + swapOf.fade < swapOf.k) :=
  ⟨by decide +kernel, by decide +kernel⟩

theorem witness_BanksAndCoefficients_1 :
    (Admitted r Path.sdo (O.BANK_SWAP 1) 1 ∧ 1 < 4 ∧ (r.chan 1).swapQueued = false) ∧
    (Admitted swapFar Path.sdo (O.BANK_SWAP 1) 1 ∧ 1 < 4 ∧ (swapFar.chan 1).swapQueued = false) ∧
    (Admitted swapping Path.sdo (O.BANK_SWAP 1) 1 ∧ 1 < 4 ∧ (swapping.chan 1).swapQueued = true) :=
  ⟨⟨adm_of (by decide +kernel), by decide +kernel⟩, ⟨adm_of (by decide +kernel), by decide +kernel⟩, ⟨adm_of (by decide +kernel), by decide +kernel⟩⟩

theorem witness_BanksAndCoefficients_2 :
    (Admitted r Path.od (O.COEF_STAGE 1) 2 ∧ 1 < 4) ∧
    (Admitted r Path.od (O.COEF_LOAD_PRESET 1) 1 ∧ 1 < 4) ∧
    (Admitted r Path.od (O.COEF_APPLY 1) 1 ∧ 1 < 4) ∧
    (Admitted swapping Path.sdo (O.COEF_APPLY 1) 1 ∧ 1 < 4) :=
  ⟨⟨adm_of (by decide +kernel), by decide +kernel⟩, ⟨adm_of (by decide +kernel), by decide +kernel⟩, ⟨adm_of (by decide +kernel), by decide +kernel⟩, ⟨adm_of (by decide +kernel), by decide +kernel⟩⟩

/-! ### Witnesses: the Sluice -/

def grainA : GrainIn := { codes := [List.replicate 64 (-512), List.replicate 64 (-3), List.replicate 64 4, List.replicate 64 511] }
def unclocked : State := { r with fan := { r.fan with sampling := false } }

theorem witness_GrainCycleTime_1 :
    at1.grainRuns = true ∧ at1.fan.sync = none := by decide +kernel

def readyD : State := { at1 with chans := [(3, { ready := true })] }

theorem witness_GrainCycleTime_2 :
    3 < 4 ∧ grainA.codes[3]? = some (List.replicate 64 511) ∧ (List.replicate 64 511).length = 64 ∧ grainA.fails = [] ∧ readyD.grainRuns = true ∧
    readyD.fan.sync = none ∧ readyD.fault.stop = false ∧ (readyD.chan 3).ready = true ∧ readyD.rd (O.CH_ENABLE 3) ≠ 0 ∧ readyD.fan.failUntil = none ∧
    readyD.quadGap 3 (readyD.grainAt readyD.clk.now) = false ∧ readyD.dress.passes = [] ∧ readyD.dress.applying = [] :=
  ⟨by decide +kernel, by decide +kernel, by decide +kernel, by decide +kernel, by decide +kernel⟩

theorem witness_GrainCycleTime_3 :
    unclocked.grainRuns = false ∧ unclocked.fault.stop = false := by decide +kernel

def slotTimers : State := { at1 with sluice := { r.sluice with slots := [(3, { holdTo := some 5, seqOpen := some 4, cfg := { limit := 3 } })] } }

theorem witness_SlotTimersAndConfig_1 :
    ((slotTimers.slot 3).holdTo = some 5 ∧ 5 < slotTimers.idx) ∧
    ((slotTimers.slot 3).seqOpen = some 4 ∧ (slotTimers.slot 3).cfg.limit ≠ 0 ∧ 4 + (((slotTimers.slot 3).cfg.limit : Nat) : Int) < slotTimers.idx) :=
  ⟨by decide +kernel, by decide +kernel⟩

def slotBound : State := { r with plans := [(1, { st := 2, cfg := { slots := 4 } })] }

theorem witness_SlotTimersAndConfig_2 :
    (Admitted r Path.sdo (O.SLOT_KIND 2 + 1 - 1) 1 ∧ 2 < 8 ∧ 1 ≤ 1 ∧ 1 ≤ 21 ∧ r.boundTo 2 = none) ∧
    (Admitted slotTimers Path.od (O.SLOT_KIND 3 + 21 - 1) 1 ∧ 3 < 8 ∧ 1 ≤ 21 ∧ 21 ≤ 21 ∧ slotTimers.boundTo 3 = none) ∧
    (Admitted slotBound Path.sdo (O.SLOT_KIND 2 + 1 - 1) 1 ∧ 2 < 8 ∧ 1 ≤ 1 ∧ 1 ≤ 21 ∧ slotBound.boundTo 2 ≠ none) :=
  ⟨⟨adm_of (by decide +kernel), by decide +kernel⟩, ⟨adm_of (by decide +kernel), by decide +kernel⟩, ⟨adm_of (by decide +kernel), by decide +kernel⟩⟩

def pulsing : State := { at1 with pins := { pulses := [{ from_ := 0, until_ := 6400000, index := 3 }, { from_ := 0, until_ := 6400001, index := 3 }] } }
def ctbWaiting : State := { at1.wr (O.CTB_ROLE 2) 1 with sluice := { at1.sluice with ctbPending := true, ctbClk := true } }
def ctbAsked : State :=
  { (((at1.wr (O.CTB_ROLE 1) 2).wr (O.CTB_ROLE 2) 3).wr O.CTB_ANSWER_PLANS 1).wr O.CTB_ANSWER_SENSE 1 with
    sluice := { at1.sluice with ctbClk := true } }

theorem witness_TriggerLines_1 :
    (ctbWaiting.sluice.ctbPending = true ∧ ctbWaiting.sluice.ctbClk = true ∧ ctbWaiting.sluiceIsolated = false) ∧
    (pulsing.sluice.ctbPending = false ∨ pulsing.sluice.ctbClk = false ∨ pulsing.sluiceIsolated = true) :=
  ⟨by decide +kernel, by decide +kernel⟩

theorem witness_TriggerLines_2 :
    (ctbAsked.sluice.ctbClk = true ∧ (∃ l, l < 4 ∧ ctbAsked.ctbRole l = 2)) ∧
    (ctbWaiting.sluice.ctbClk = false ∨ ∀ (l : Nat), l < 4 → ctbWaiting.ctbRole l ≠ 2) ∧
    (pulsing.sluice.ctbClk = false ∨ ∀ (l : Nat), l < 4 → pulsing.ctbRole l ≠ 2) :=
  ⟨by decide +kernel, by decide +kernel, by decide +kernel⟩

def rastered : State :=
  { at1 with sluice := { r.sluice with raster := { now := { line := some 3 }, frameEdge := some 900, lineEdge := some 964, frameAt := some 0, lineAt := some 5,
                                                    pendingCount := some 9 } } }
def lineThenFrame : State :=
  { at1 with sluice := { r.sluice with raster := { now := { line := some 3, start := 70000 }, past := [{ start := 9000, frame := 4 }],
                                                    frameEdge := some 900, lineEdge := some 70000 } },
             farm := { r.farm with lines := [(0, { frame := 4, line := 3, start := 70000 })], lineNext := 1 } }
def edgeAt (x : Int) (up : Bool) : Marker := { at_ := x, rising := up }

theorem witness_Rasters_1 :
    (edgeAt 1000 false).rising = bit (rastered.rdN O.RASTER_POLARITY) 0 ∧
    (edgeAt 1000 false).rising = bit (rastered.rdN O.RASTER_POLARITY) 1 ∧
    ((edgeAt 1000 true).rising ≠ bit (rastered.rdN O.RASTER_POLARITY) 0 ∧ rastered.sluice.raster.lineEdge ≠ some (edgeAt 1000 true).at_) ∧
    ((edgeAt 1000 true).rising ≠ bit (at1.rdN O.RASTER_POLARITY) 0 ∧ at1.sluice.raster.lineEdge ≠ some (edgeAt 1000 true).at_) ∧
    ((edgeAt 70000 true).rising ≠ bit (lineThenFrame.rdN O.RASTER_POLARITY) 0 ∧ lineThenFrame.sluice.raster.lineEdge = some (edgeAt 70000 true).at_ ∧
     lineThenFrame.sluice.raster.now.start = (edgeAt 70000 true).at_ ∧ lineThenFrame.sluice.raster.frameEdge ≠ some (edgeAt 70000 true).at_ ∧
     (lineThenFrame.sluice.raster.past = [{ start := 9000, frame := 4 }]) ∧ 0 < lineThenFrame.farm.lineNext) ∧
    ((edgeAt 964 true).rising ≠ bit (rastered.rdN O.RASTER_POLARITY) 1 ∧
     (∀ (f : Int), rastered.sluice.raster.frameEdge = some f → 64 ≤ (edgeAt 964 true).at_ - f)) ∧
    ((edgeAt 963 true).rising ≠ bit (rastered.rdN O.RASTER_POLARITY) 1 ∧ rastered.sluice.raster.frameEdge = some 900 ∧
     (edgeAt 963 true).at_ - 900 < 64) :=
  ⟨by decide +kernel, by decide +kernel, by decide +kernel, by decide +kernel, by decide +kernel, by decide +kernel, by decide +kernel⟩

theorem witness_Rasters_2 :
    Admitted r Path.sdo O.RASTER_FRAME_COUNT 77 ∧
    (r.serves Path.sdo 16384 ∧ Path.sdo ≠ Path.rpdo) ∧
    (r.serves Path.od 16384 ∧ Path.od ≠ Path.rpdo) :=
  ⟨adm_of (by decide +kernel), ⟨ser_of (by decide +kernel), by decide +kernel⟩, ⟨ser_of (by decide +kernel), by decide +kernel⟩⟩

/-! ### Witnesses: plans, segments, the directory, epochs -/

/-- A command whose boundary has come. -/
def dueCmd (code : Nat) : PlanCmd :=
  { code := code, b := 6400000, batch := 1, arm := if code = 1 then some { cfg := { chset := 1, post := 2 }, p := 64, g := 0, base := 0 } else none }
/-- Plan 0 in state `st`, with that command. -/
def cmdDue (code st : Nat) : State :=
  { at1 with plans := [(0, { st := st, entries := 1, fill := 3, cmds := [dueCmd code], cfg := { chset := 1, post := 2 } })] }
def cmdEarly : State := { cmdDue 2 1 with clk := { at1.clk with now := 6399900 } }

theorem witness_PlansAndSegments_1 :
    ((cmdEarly.plan 0).cmds = [dueCmd 2] ∧ cmdEarly.idx < (cmdEarly.cmdAt (cmdEarly.plan 0) (dueCmd 2)).snd) ∧
    (((cmdDue 1 0).plan 0).cmds = [dueCmd 1] ∧ ((cmdDue 1 0).cmdAt ((cmdDue 1 0).plan 0) (dueCmd 1)).snd ≤ (cmdDue 1 0).idx) ∧
    (((cmdDue 1 5).plan 0).cmds = [dueCmd 1] ∧ ((cmdDue 1 5).cmdAt ((cmdDue 1 5).plan 0) (dueCmd 1)).snd ≤ (cmdDue 1 5).idx) ∧
    (((cmdDue 2 2).plan 0).cmds = [dueCmd 2] ∧ ((cmdDue 2 2).cmdAt ((cmdDue 2 2).plan 0) (dueCmd 2)).snd ≤ (cmdDue 2 2).idx) ∧
    (((cmdDue 3 3).plan 0).cmds = [dueCmd 3] ∧ ((cmdDue 3 3).cmdAt ((cmdDue 3 3).plan 0) (dueCmd 3)).snd ≤ (cmdDue 3 3).idx) ∧
    (((cmdDue 3 1).plan 0).cmds = [dueCmd 3] ∧ ((cmdDue 3 1).cmdAt ((cmdDue 3 1).plan 0) (dueCmd 3)).snd ≤ (cmdDue 3 1).idx) ∧
    (((cmdDue 4 2).plan 0).cmds = [dueCmd 4] ∧ ((cmdDue 4 2).cmdAt ((cmdDue 4 2).plan 0) (dueCmd 4)).snd ≤ (cmdDue 4 2).idx) ∧
    (((cmdDue 4 1).plan 0).cmds = [dueCmd 4] ∧ ((cmdDue 4 1).cmdAt ((cmdDue 4 1).plan 0) (dueCmd 4)).snd ≤ (cmdDue 4 1).idx) ∧
    (((cmdDue 4 4).plan 0).cmds = [dueCmd 4] ∧ ((cmdDue 4 4).cmdAt ((cmdDue 4 4).plan 0) (dueCmd 4)).snd ≤ (cmdDue 4 4).idx) ∧
    (((cmdDue 5 5).plan 0).cmds = [dueCmd 5] ∧ ((cmdDue 5 5).cmdAt ((cmdDue 5 5).plan 0) (dueCmd 5)).snd ≤ (cmdDue 5 5).idx) ∧
    (((cmdDue 5 0).plan 0).cmds = [dueCmd 5] ∧ ((cmdDue 5 0).cmdAt ((cmdDue 5 0).plan 0) (dueCmd 5)).snd ≤ (cmdDue 5 0).idx) :=
  ⟨by decide +kernel, by decide +kernel, by decide +kernel, by decide +kernel, by decide +kernel, by decide +kernel, by decide +kernel, by decide +kernel, by decide +kernel, by decide +kernel, by decide +kernel⟩

def segA : Seg :=
  { plan := 0, gen := 0, k := 5, first := 3, stop := 7, g0 := 3, base := 0, width := 1, startGrain := 0, startIdx := 192, trigOff := 0,
    segNo := 0, epoch := 0, chset := 1, policy := 0, trig := {} }
def segB : Seg := { segA with seq := some 0 }
/-- Plan 0 in state `st` under POLICY `pol`, its segment 4 complete but not yet in the directory. -/
def segDone (st pol : Nat) : State :=
  { at1 with dir := { r.dir with segs := [(4, segA)], queue := [4] },
             plans := [(0, { st := st, entries := 1, seg := some (4, 100), cfg := { policy := pol, chset := 1, post := 2, segs := 3 } })] }
def segOpen : State := { segDone 3 0 with plans := [(0, { st := 3, entries := 1, seg := some (4, 10000000), cfg := { chset := 1, post := 2 } })] }
def stopSeg : State :=
  { cmdDue 2 3 with dir := { r.dir with segs := [(4, { segA with stop := 900000 })] },
                    plans := [(0, { st := 3, entries := 1, seg := some (4, 100), cmds := [dueCmd 2], cfg := { chset := 1, post := 2 } })] }

theorem witness_PlansAndSegments_2 :
    (stopSeg.plan 0).cmds = [dueCmd 2] ∧ (stopSeg.cmdAt (stopSeg.plan 0) (dueCmd 2)).snd ≤ stopSeg.idx := by decide +kernel

theorem witness_PlansAndSegments_3 :
    (((segOpen.plan 0).seg = some (4, 10000000)) ∧ tfind segOpen.dir.segs 4 = some segA ∧ segOpen.idx < 10000000) ∧
    ((((segDone 3 0).plan 0).seg = some (4, 100)) ∧ tfind (segDone 3 0).dir.segs 4 = some segA ∧ 100 ≤ (segDone 3 0).idx) ∧
    ((((segDone 3 1).plan 0).seg = some (4, 100)) ∧ tfind (segDone 3 1).dir.segs 4 = some segA ∧ 100 ≤ (segDone 3 1).idx) ∧
    ((((segDone 4 2).plan 0).seg = some (4, 100)) ∧ tfind (segDone 4 2).dir.segs 4 = some segA ∧ 100 ≤ (segDone 4 2).idx) ∧
    ((((segDone 3 2).plan 0).seg = some (4, 100)) ∧ tfind (segDone 3 2).dir.segs 4 = some segA ∧ 100 ≤ (segDone 3 2).idx) :=
  ⟨by decide +kernel, by decide +kernel, by decide +kernel, by decide +kernel, by decide +kernel⟩

def entryOpen : State :=
  { at1 with dir := { r.dir with segs := [(4, segB)], rows := [(0, { seq := 0, seg := segB, count := 2, state := 1 })], nextSeq := 1 },
             plans := [(0, { st := 5, entries := 1, lastNum := [(0, 6)], cfg := { chset := 1, post := 2, segs := 3 } })] }
def entA : Entry := { seq := 0, seg := segB, count := 2, state := 2 }
def entryDone : State := { at1 with dir := { r.dir with rows := [(0, entA)], nextSeq := 1 } }
def segHeld : State := { segDone 3 0 with fan := pondStopped.fan }
def entryWaits : State := { entryOpen with fan := pondStopped.fan }

theorem witness_DirectoryEntries_1 :
    (segDone 3 0).dir.queue = [4] ∧ tfind (segDone 3 0).dir.segs 4 = some segA ∧ (segDone 3 0).stopped 2 = false ∧ (segDone 3 0).asleep = false ∧
    (∀ (x : Placing), x ∈ (segDone 3 0).sluice.placing → x.seg ≠ some 4) ∧
    ((segDone 3 0).dir.lastOpen = 0 ∨ (segDone 3 0).dir.lastOpen + 320 ≤ (segDone 3 0).clk.now) := by decide +kernel

theorem witness_DirectoryEntries_2 :
    ((at1.dir.queue = [] ∨ (∃ id rest g, at1.dir.queue = id :: rest ∧ tfind at1.dir.segs id = some g) ∧
     (at1.stopped 2 = true ∨ at1.asleep = true ∨ at1.dir.lastOpen ≠ 0 ∧ at1.clk.now < at1.dir.lastOpen + 320))) ∧
    ((segHeld.dir.queue = [] ∨ (∃ id rest g, segHeld.dir.queue = id :: rest ∧ tfind segHeld.dir.segs id = some g) ∧
     (segHeld.stopped 2 = true ∨ segHeld.asleep = true ∨ segHeld.dir.lastOpen ≠ 0 ∧ segHeld.clk.now < segHeld.dir.lastOpen + 320))) :=
  ⟨.inl (by decide +kernel), .inr ⟨⟨_, _, _, rfl, rfl⟩, by decide +kernel⟩⟩

theorem witness_DirectoryEntries_3 :
    tfind entryOpen.dir.segs 4 = some segB ∧ segB.seq = some 0 ∧ entryOpen.stopped 2 = false ∧ entryOpen.asleep = false ∧
    entryOpen.segWritten segB = true := by decide +kernel

theorem witness_DirectoryEntries_4 :
    tfind entryWaits.dir.segs 4 = some segB ∧ (entryWaits.segWritten segB = false ∨ entryWaits.stopped 2 = true ∨ entryWaits.asleep = true) := by decide +kernel

theorem witness_AckAndRowLatches_1 :
    tfind entryDone.dir.rows (entA.seq % 262144) = some entA ∧ entA.state = 2 ∧ entryDone.workOpen entA.seq = false ∧
    (entA.hostRel = false ∨ (entryDone.dir.hostAck + 2 ^ 32 - entA.seq) % 2 ^ 32 < 2 ^ 31) := by decide +kernel

def entHost : Entry := { entA with hostRel := true }
def entryHeld : State := { entryDone with dir := { r.dir with rows := [(0, entHost)], nextSeq := 1 } }
def entryAcked : State := { entryHeld with dir := { entryHeld.dir with hostAck := 0 } }

theorem witness_AckAndRowLatches_2 :
    (tfind entryAcked.dir.rows (entHost.seq % 262144) = some entHost ∧ entHost.state = 2 ∧ entryAcked.workOpen entHost.seq = false ∧
     (entHost.hostRel = false ∨ (entryAcked.dir.hostAck + 2 ^ 32 - entHost.seq) % 2 ^ 32 < 2 ^ 31)) ∧
    (tfind entryHeld.dir.rows (entHost.seq % 262144) = some entHost ∧
     (entHost.state ≠ 2 ∨ entryHeld.workOpen entHost.seq = true ∨ entHost.hostRel = true ∧
     2 ^ 31 ≤ (entryHeld.dir.hostAck + 2 ^ 32 - entHost.seq) % 2 ^ 32)) :=
  ⟨by decide +kernel, by decide +kernel⟩

def acked : State := { entryDone with dir := { entryDone.dir with hostAck := 7 } }

theorem witness_AckAndRowLatches_3 :
    (Admitted entryDone Path.sdo O.HOST_ACK_SEQ 0 ∧ (Int.toNat 0 + 2 ^ 32 - entryDone.dir.hostAck) % 2 ^ 32 < 2 ^ 31 ∧
     2 ^ 31 ≤ (Int.toNat 0 + 2 ^ 32 - entryDone.dir.nextSeq) % 2 ^ 32) ∧
    (Admitted acked Path.sdo O.HOST_ACK_SEQ 3 ∧ 2 ^ 31 ≤ (Int.toNat 3 + 2 ^ 32 - acked.dir.hostAck) % 2 ^ 32) ∧
    (Admitted entryDone Path.sdo O.HOST_ACK_SEQ 5 ∧ (Int.toNat 5 + 2 ^ 32 - entryDone.dir.hostAck) % 2 ^ 32 < 2 ^ 31 ∧
     (Int.toNat 5 + 2 ^ 32 - entryDone.dir.nextSeq) % 2 ^ 32 < 2 ^ 31) :=
  ⟨⟨adm_of (by decide +kernel), by decide +kernel⟩, ⟨adm_of (by decide +kernel), by decide +kernel⟩, ⟨adm_of (by decide +kernel), by decide +kernel⟩⟩

theorem witness_AckAndRowLatches_4 :
    Admitted entryDone Path.od O.DIR_ROW 0 ∧
    Admitted entryDone Path.od O.GAP_ROW 0 ∧
    Admitted entryDone Path.sdo O.FAULT_ROW 0 ∧
    Admitted entryDone Path.od O.TRACE_ROW 0 :=
  ⟨adm_of (by decide +kernel), adm_of (by decide +kernel), adm_of (by decide +kernel), adm_of (by decide +kernel)⟩

def syncInOn : State := r.wr O.SYNC_IN_ENABLE 1
def syncBefore : State := { syncInOn with fan := { r.fan with sync := some 12800 } }
def syncAfter : State := { syncInOn with fan := { r.fan with syncDone := some 0 } }
def epochDue : State := { at1 with fan := { r.fan with sync := some 6400000 } }
def failingOver : State := { syncInOn with fan := { r.fan with failUntil := some 70000 } }

theorem witness_SyncAndGaps_1 :
    (((State.wr O.SYNC_IN_ENABLE 0 r).rd O.SYNC_IN_ENABLE ≠ 1 ∨ (State.wr O.SYNC_IN_ENABLE 0 r).dev = DevMode.boot ∨ (State.wr O.SYNC_IN_ENABLE 0 r).dev = DevMode.sleep ∨ (State.wr O.SYNC_IN_ENABLE 0 r).asleep = true ∨ (State.wr O.SYNC_IN_ENABLE 0 r).fan.heldSync = true ∨ (∃ z, (State.wr O.SYNC_IN_ENABLE 0 r).fan.sync = some z ∧
     (State.wr O.SYNC_IN_ENABLE 0 r).syncEdge < z) ∨ ∃ z, (State.wr O.SYNC_IN_ENABLE 0 r).fan.syncDone = some z ∧
     (State.wr O.SYNC_IN_ENABLE 0 r).syncEdge ≤ z + us 1)) ∧
    ((syncBefore.rd O.SYNC_IN_ENABLE ≠ 1 ∨ syncBefore.dev = DevMode.boot ∨ syncBefore.dev = DevMode.sleep ∨ syncBefore.asleep = true ∨ syncBefore.fan.heldSync = true ∨ (∃ z, syncBefore.fan.sync = some z ∧
     syncBefore.syncEdge < z) ∨ ∃ z, syncBefore.fan.syncDone = some z ∧ syncBefore.syncEdge ≤ z + us 1)) ∧
    ((syncAfter.rd O.SYNC_IN_ENABLE ≠ 1 ∨ syncAfter.dev = DevMode.boot ∨ syncAfter.dev = DevMode.sleep ∨ syncAfter.asleep = true ∨ syncAfter.fan.heldSync = true ∨ (∃ z, syncAfter.fan.sync = some z ∧
     syncAfter.syncEdge < z) ∨ ∃ z, syncAfter.fan.syncDone = some z ∧ syncAfter.syncEdge ≤ z + us 1)) ∧
    ((dozing.rd O.SYNC_IN_ENABLE ≠ 1 ∨ dozing.dev = DevMode.boot ∨ dozing.dev = DevMode.sleep ∨ dozing.asleep = true ∨ dozing.fan.heldSync = true ∨ (∃ z, dozing.fan.sync = some z ∧
     dozing.syncEdge < z) ∨ ∃ z, dozing.fan.syncDone = some z ∧ dozing.syncEdge ≤ z + us 1)) ∧
    (syncInOn.rd O.SYNC_IN_ENABLE = 1 ∧ (syncInOn.dev = DevMode.run ∨ syncInOn.dev = DevMode.faulted) ∧ syncInOn.asleep = false ∧
     (∀ (z : Time), syncInOn.fan.sync = some z → z ≤ syncInOn.syncEdge) ∧
     (∀ (z : Time), syncInOn.fan.syncDone = some z → z + us 1 < syncInOn.syncEdge) ∧ syncInOn.fan.heldSync = false ∧ syncInOn.fan.failUntil = none) ∧
    (failingOver.rd O.SYNC_IN_ENABLE = 1 ∧ (failingOver.dev = DevMode.run ∨ failingOver.dev = DevMode.faulted) ∧ failingOver.asleep = false ∧
     (∀ (z : Time), failingOver.fan.sync = some z → z ≤ failingOver.syncEdge) ∧
     (∀ (z : Time), failingOver.fan.syncDone = some z → z + us 1 < failingOver.syncEdge) ∧ failingOver.fan.heldSync = false ∧
     failingOver.fan.failUntil = some 70000) ∧
    (epochDue.fan.sync = some 6400000 ∧ 6400000 ≤ epochDue.clk.now) ∧
    (syncBefore.fan.sync = some 12800 ∧ syncBefore.clk.now < 12800) :=
  ⟨by decide +kernel, by decide +kernel, by decide +kernel, by decide +kernel, by decide +kernel, by decide +kernel, by decide +kernel, by decide +kernel⟩

def gapReg : GapReg := { first := 3, count := 2, epoch := 0, last := 9, gen := 0, addrs := [77, 78] }
def gapHeld : State := { at1 with chans := [(2, { gaps := [gapReg] })] }
def gapStays : State := { gapHeld with fan := pondStopped.fan }

theorem witness_SyncAndGaps_2 :
    (gapStays.fault.stop = false ∧ gapStays.stopped 2 = true) ∧
    (gapHeld.fault.stop = false ∧ gapHeld.stopped 2 = false) :=
  ⟨by decide +kernel, by decide +kernel⟩

/-! ### Witnesses: the Millpond -/

def used : State := { r with plans := [(0, { st := 1 })] }

theorem witness_StoreTraffic_1 :
    Admitted used Path.sdo (4456448 + 3) ↑64 ∧ (3 ∈ [3, 4, 5, 6]) ∧ 64 ≤ regionGrains (used.rdN O.PLANE_FRAMES) ∧ (∃ q, q < 16 ∧
    (used.plan q).entering ≠ 0) :=
  ⟨adm_of (by decide +kernel), by decide +kernel⟩

def shares : State := (r.wr O.PLANE_FRAMES 0).wr O.SHARE_A 1000
def fullShare : Nat := regionGrains (shares.rdN O.PLANE_FRAMES)

theorem witness_StoreTraffic_2 :
    (Admitted shares Path.sdo (4456448 + 4) ↑fullShare ∧ (4 ∈ [3, 4, 5, 6]) ∧ fullShare ≤ regionGrains (shares.rdN O.PLANE_FRAMES) ∧
     (∀ (q : Nat), q < 16 → (shares.plan q).entering = 0) ∧
     (regionGrains (shares.rdN O.PLANE_FRAMES) < List.foldl (fun x1 x2 => x1 + x2) 0 (List.map (fun c => if 4 = 3 + c then fullShare else shares.share c) chanNos))) ∧
    (Admitted r Path.sdo (4456448 + 3) ↑64 ∧ (3 ∈ [3, 4, 5, 6]) ∧ 64 ≤ regionGrains (r.rdN O.PLANE_FRAMES) ∧
     (∀ (q : Nat), q < 16 → (r.plan q).entering = 0) ∧
     (List.foldl (fun x1 x2 => x1 + x2) 0 (List.map (fun c => if 3 = 3 + c then 64 else r.share c) chanNos) ≤ regionGrains (r.rdN O.PLANE_FRAMES))) ∧
    (Admitted shares Path.od (4456448 + 3) ↑2000 ∧ (3 ∈ [3, 4, 5, 6]) ∧ 2000 ≤ regionGrains (shares.rdN O.PLANE_FRAMES) ∧
     (∀ (q : Nat), q < 16 → (shares.plan q).entering = 0) ∧
     (List.foldl (fun x1 x2 => x1 + x2) 0 (List.map (fun c => if 3 = 3 + c then 2000 else shares.share c) chanNos) ≤ regionGrains (shares.rdN O.PLANE_FRAMES))) :=
  ⟨⟨adm_of (by decide +kernel), by decide +kernel⟩, ⟨adm_of (by decide +kernel), by decide +kernel⟩, ⟨adm_of (by decide +kernel), by decide +kernel⟩⟩

theorem witness_StoreTraffic_3 :
    Admitted shares Path.sdo O.PLANE_FRAMES ↑3968 ∧ (∀ (q : Nat), q < 16 → (shares.plan q).entering = 0) ∧ shares.planesInUse = 0 ∧
    List.foldl (fun x1 x2 => x1 + x2) 0 (List.map (fun c => shares.share c) chanNos) ≤ regionGrains 3968 :=
  ⟨adm_of (by decide +kernel), by decide +kernel⟩

def rdA : StoreRead := { region := 0, addr := 5 }
def stored : State := { at1 with pond := { r.pond with grains := [(5, { index := 9 })] } }

theorem witness_StoreTraffic_4 :
    stored.storeServes = true ∧ stored.fault.stop = false ∧ rdA.cls = 5 ∧ rdA.region = 0 ∧ rdA.ecc = [] ∧ stored.pond.reads = [] := by decide +kernel

theorem witness_StoreTraffic_5 :
    pondStopped.storeServes = false ∧ pondStopped.dev ≠ DevMode.boot ∧ pondStopped.fault.stop = false ∧ 3 ≤ rdA.cls ∧ rdA.cls ≤ 5 ∧ rdA.region < 3 := by decide +kernel

def writingBack : State := { at1 with pond := { r.pond with writeBacks := [3, 9] } }

theorem witness_StoreTraffic_6 :
    Ecc.clean ≠ Ecc.lost ∧ (writingBack.pond.writeBacks = [3, 9]) ∧ writingBack.storeServes = true ∧ writingBack.fault.stop = false := by decide +kernel

def scrubA : ScrubIn := { rd := rdA }

theorem witness_StoreTraffic_7 :
    at1.storeServes = true ∧ at1.fault.stop = false ∧ at1.pond.scrubAt ≤ at1.clk.now ∧ at1.scrubWaits = false ∧ scrubA.rd.ecc = [] ∧ scrubA.onDie = 0 ∧
    scrubA.poison = true ∧ at1.pond.scrubBurst + 1 < at1.scrubBursts := by decide +kernel

def scrubEarly : State := { at1 with pond := { r.pond with scrubAt := 6400001 } }

theorem witness_StoreTraffic_8 :
    scrubEarly.fault.stop = false ∧ (scrubEarly.storeServes = false ∨ scrubEarly.clk.now < scrubEarly.pond.scrubAt ∨ scrubEarly.scrubWaits = true) := by decide +kernel

theorem witness_PseudoChannelLoss_1 :
    17 < 60 ∧ (at1.pc 17).dead = false ∧ at1.spareFor 17 = true ∧ at1.dev = DevMode.run ∧ at1.fault.stop = false ∧ List.length at1.pond.gaps < 1048576 := by decide +kernel

def noSpareHalf : State := { at1 with pond := { r.pond with halves := [(1, { spareReady := false, layered := true }), (0, { spareReady := false, layered := true })] } }

theorem witness_PseudoChannelLoss_2 :
    (3 < 60 ∧ (noSpareHalf.pc 3).dead = false ∧ (noSpareHalf.dev = DevMode.run ∧ noSpareHalf.spareFor 3 = false ∨ noSpareHalf.dev = DevMode.faulted)) ∧
    (3 < 60 ∧ (faulted.pc 3).dead = false ∧ (faulted.dev = DevMode.run ∧ faulted.spareFor 3 = false ∨ faulted.dev = DevMode.faulted)) :=
  ⟨by decide +kernel, by decide +kernel⟩

theorem witness_PseudoChannelLoss_3 :
    (60 ≤ 60 ∨ (at1.pc 60).dead = true) ∧ at1.fault.stop = false := by decide +kernel

def pcDecided : State := { at1 with layer := { r.layer with decided := [(0x0600 + halfNo 17, (r.pc 17).phys, 0)] } }

theorem witness_PseudoChannelLoss_4 :
    17 < 60 ∧ (pcDecided.half (halfNo 17)).spareReady = true ∧ (pcDecided.half (halfNo 17)).layered = false ∧ pcDecided.pond.copy = none ∧
    pcDecided.dev = DevMode.run ∧ pcDecided.storeServes = true ∧
    (pcDecided.layer.decided.any fun d => d.fst == 1536 + halfNo 17 && d.snd.fst == (pcDecided.pc 17).phys) = true := by decide +kernel

def pcCopying (n : Nat) : State :=
  { at1 with pond := { r.pond with copy := some 17, pcs := [(17, { phys := 17, copying := true, copied := n })], scrubAt := 7000000 } }

theorem witness_PseudoChannelLoss_5 :
    (pcCopying 12).pond.copy = some 17 ∧ (pcCopying 12).storeServes = true ∧ (pcCopying 12).scrubNext 17 = false := by decide +kernel

theorem witness_PseudoChannelLoss_6 :
    (at1.pond.copy = none ∨ at1.storeServes = false ∨ at1.pond.copy = some 17 ∧ at1.scrubNext 17 = true) := by decide +kernel

theorem witness_PseudoChannelLoss_7 :
    (pcCopying 768).pond.copy = some 17 ∧ (pcCopying 768).storeServes = true ∧ 768 ≤ ((pcCopying 768).pc 17).copied := by decide +kernel

def pcMarked : State :=
  { at1 with
    pond := { r.pond with marking := [5], pcs := [(5, { phys := 5, lossRow := some 0 })], lost := [(5, [0])], grains := [(5, { index := 256, ch := 0 })] },
    plans := [(0, { st := 5, cfg := { chset := 1, alloc := 64, ring := 64 } })],
    dir := { r.dir with rows := [(0, { seq := 0, seg := { segA with first := 0, stop := 64, width := 64 }, count := 2, state := 2 })] } }

theorem witness_PseudoChannelLoss_8 :
    5 ∈ pcMarked.pond.marking := by decide +kernel

/-! ### Witnesses: runners, gates, planes, displays -/

/-- A measurement at gate 1 over entry 0. -/
def instA : Inst := { id := 7, gate := 1, seq := 0, ord := 0, start := 192, len := 64, cfg := { enable := true, chans := 1, meas := 1 } }
def instEnd : Inst := { instA with pos := 64 }
def instRun : Inst := { instA with run := some 67 }
def instRetry : Inst := { instA with run := some 67, retry := some 0 }
def instRetryNow : Inst := { instA with run := some 67, retry := some 6399999 }
def instLate : Inst := { instA with run := some 67, pos := 3 }
def work (x : Inst) : State := { entryDone with farm := { r.farm with insts := [x] } }
def stepA : StepIn := { inst := 7, cluster := 2, runner := 3 }
def atA : AtRunner := { inst := 7, cluster := 2, runner := 3 }
def spareGone : State := { work instRetry with farm := { (work instRetry).farm with clusters := [(2, { spareReady := false })] } }
def lateWork : State := { work instLate with clk := { r.clk with now := sec 100 } }
def notRun : State := { work instA with gov := { r.gov with power := 3 } }

theorem witness_InstanceWork_1 :
    (work instA).farmRuns = true ∧ (work instA).instOf stepA.inst = some instA ∧ (work instA).runnerFor instA stepA.cluster stepA.runner = some 67 ∧
    instA.pos < instA.len ∧ (work instA).entryOf instA.seq = some entA ∧ (work instA).pond.credit3 = creditMax := by decide +kernel

theorem witness_InstanceWork_2 :
    (work instEnd).farmRuns = true ∧ (work instEnd).instOf stepA.inst = some instEnd ∧
    (work instEnd).runnerFor instEnd stepA.cluster stepA.runner = some 67 ∧ 67 < 512 ∧ instEnd.len ≤ instEnd.pos ∧
    (work instEnd).pond.credit3 = creditMax := by decide +kernel

theorem witness_InstanceWork_3 :
    (notRun.farmRuns = false ∨ notRun.instOf stepA.inst = none ∨ notRun.instOf stepA.inst = some instA ∧
    notRun.runnerFor instA stepA.cluster stepA.runner = none) := by decide +kernel

theorem witness_InstanceWork_4 :
    ((work instRun).instOf atA.inst = some instRun ∧ (work instRun).runnerFor instRun atA.cluster atA.runner = some 67 ∧ instRun.retry = none ∧
     (List.filter (fun t => decide ((work instRun).clk.now < t + sec 1)) (tget (fun _ => []) ((work instRun).cluster (67 / 32)).errs (67 % 32))).length < 2) ∧
    ((work instA).instOf atA.inst = some instA ∧ (work instA).runnerFor instA atA.cluster atA.runner = some 67 ∧ instA.retry = none ∧
     (List.filter (fun t => decide ((work instA).clk.now < t + sec 1)) (tget (fun _ => []) ((work instA).cluster (67 / 32)).errs (67 % 32))).length < 2) :=
  ⟨by decide +kernel, by decide +kernel⟩

theorem witness_InstanceWork_5 :
    ((work instRetry).instOf atA.inst = some instRetry ∧ (work instRetry).runnerFor instRetry atA.cluster atA.runner = some 67 ∧
     instRetry.run = some 67 ∧ instRetry.retry = some 0 ∧ (work instRetry).dev = DevMode.run ∧ ((work instRetry).cluster (67 / 32)).spareReady = true) ∧
    (spareGone.instOf atA.inst = some instRetry ∧ spareGone.runnerFor instRetry atA.cluster atA.runner = some 67 ∧ instRetry.run = some 67 ∧
     instRetry.retry = some 0 ∧ spareGone.dev = DevMode.run ∧ (spareGone.cluster (67 / 32)).spareReady = false) :=
  ⟨by decide +kernel, by decide +kernel⟩

theorem witness_InstanceWork_6 :
    (work instRetry).instOf 7 = some instRetry ∧ instRetry.run = some 67 ∧ instRetry.retry = some 0 ∧ (work instRetry).dev = DevMode.run ∧
    0 + us 20 ≤ (work instRetry).clk.now ∧ ((work instRetry).cluster (67 / 32)).spareReady = true := by decide +kernel

theorem witness_InstanceWork_7 :
    (work instRetryNow).instOf 7 = some instRetryNow ∧ instRetryNow.retry = some 6399999 ∧ (work instRetryNow).clk.now < 6399999 + us 20 := by decide +kernel

theorem witness_InstanceWork_8 :
    lateWork.instOf atA.inst = some instLate ∧ instLate.started = true ∧ instLate.lastStep + ms instLate.limit ≤ lateWork.clk.now ∧
    lateWork.gov.power ≠ 3 := by decide +kernel

theorem witness_InstanceWork_9 :
    (work instLate).instOf atA.inst = some instLate ∧ instLate.started = true ∧ (work instLate).clk.now < instLate.lastStep + ms instLate.limit := by decide +kernel

/-- Gate 1 with a result waiting, at the end of its sequence; gate 2 with none. -/
def gateA : Gate := { cfg := instA.cfg, seq := 4294967295, waiting := [{ what := 0, vals := [(0, [{ m := 3, e := 1 }])] }], due := 99999999 }
def gates : State := { at1 with farm := { r.farm with gates := [(1, gateA), (2, { seq := 4, due := 88 })] } }
def sweeping : State := { gates with dress := { r.dress with passes := [{ unit := 0x0100, stage := 2 }] } }
def spareServes : State := { gates with farm := { gates.farm with clusters := [(3, { layered := true, spareReady := false })] } }

theorem witness_ResultWrites_1 :
    gates.storeServes = true ∧ (gates.gate 1).waiting ≠ [] ∧ gates.pond.credit3 = creditMax := by decide +kernel

theorem witness_ResultWrites_2 :
    (gates.storeServes = false ∨ (gates.gate 2).waiting = []) ∧ gates.pond.credit3 = creditMax := by decide +kernel

theorem witness_ResultWrites_3 :
    Admitted gates Path.sdo O.RESULT_INTERVAL 1 :=
  adm_of (by decide +kernel)

theorem witness_ResultWrites_4 :
    0 < 4 ∧ (sweeping.dress.passes.any fun p => p.unit / 256 == 0 + 1 && decide (2 ≤ p.stage)) = true ∧ sweeping.pond.credit3 = creditMax := by decide +kernel

theorem witness_ResultWrites_5 :
    (gates.dress.passes.any fun p => p.unit / 256 == 0 + 1 && decide (2 ≤ p.stage)) = false := by decide +kernel

theorem witness_ResultWrites_6 :
    15 < 16 ∧ (gates.cluster 15).layered = false ∧ (¬16 ∈ (gates.cluster 15).retired) ∧ gates.stopped 3 = false ∧ gates.gov.power ≠ 3 := by decide +kernel

theorem witness_ResultWrites_7 :
    ((spareServes.cluster 3).layered = true ∨ 16 ∈ (spareServes.cluster 3).retired) := by decide +kernel

theorem witness_WindowRows_1 :
    Admitted gates Path.od O.CR_ROW 1 :=
  adm_of (by decide +kernel)

theorem witness_WindowRows_2 :
    Admitted gates Path.od O.CR_APPLY 1 :=
  adm_of (by decide +kernel)

theorem witness_WindowRows_3 :
    Admitted gates Path.od O.PARAM_ROW 1 :=
  adm_of (by decide +kernel)

theorem witness_WindowRows_4 :
    Admitted gates Path.od O.PARAM_APPLY 1 :=
  adm_of (by decide +kernel)

theorem witness_WindowRows_5 :
    Admitted gates Path.sdo O.GATE_ROW 1 :=
  adm_of (by decide +kernel)

theorem witness_WindowRows_6 :
    Admitted gates Path.od O.RES_ROW 1 :=
  adm_of (by decide +kernel)

theorem witness_WindowRows_7 :
    Admitted gates Path.od O.PLANE_ROW 1 :=
  adm_of (by decide +kernel)

def gateWin : State :=
  { gates with farm := { gates.farm with gateWin := [(side .sdo, { cfg := { enable := true, chans := 3, len := 50, off := 4 } })],
                                         recs := [(2, { count := 3 }), (40, { count := 4 })] } }
def planeWin (kind : Nat) : State :=
  { gates.wr O.PLANE_FRAMES 16 with farm := { gates.farm with planeWin := [(side .sdo, { cfg := { kind := kind } })],
                                                              planes := [(0, { bins := [(3, 4)], points := 5 })] } }
def flatAxis : State :=
  { gates.wr O.PLANE_FRAMES 16 with farm := { gates.farm with planeWin := [(side .sdo, { cfg := { kind := 1, lo := 0x3F000000 } })] } }
def noFrames : State := { planeWin 1 with od := (gates.wr O.PLANE_FRAMES 0).od }

theorem witness_GateAndPlaneApply_1 :
    Admitted gates Path.sdo O.GATE_APPLY 1 ∧ (gates.gateCopy Path.sdo).cfg.refused = some ((gates.gateCopy Path.sdo).cfg.refused.getD 0) :=
  ⟨adm_of (by decide +kernel), by decide +kernel⟩

theorem witness_GateAndPlaneApply_2 :
    Admitted gateWin Path.sdo O.GATE_APPLY 1 ∧ (gateWin.gateCopy Path.sdo).cfg.refused = none :=
  ⟨adm_of (by decide +kernel), by decide +kernel⟩

theorem witness_GateAndPlaneApply_3 :
    Admitted gateWin Path.sdo O.GATE_RESET 1 :=
  adm_of (by decide +kernel)

theorem witness_GateAndPlaneApply_4 :
    (Admitted noFrames Path.sdo O.PLANE_APPLY 1 ∧ ((noFrames.planeCopy Path.sdo).cfg.kind ≠ 0 ∧
     noFrames.rdN O.PLANE_FRAMES ≤ noFrames.rdN (win Path.sdo O.PLANE_ROW))) ∧
    (Admitted flatAxis Path.sdo O.PLANE_APPLY 1 ∧
     ((flatAxis.planeCopy Path.sdo).cfg.kind = 0 ∨ flatAxis.rdN (win Path.sdo O.PLANE_ROW) < flatAxis.rdN O.PLANE_FRAMES) ∧
     r32Units (flatAxis.planeCopy Path.sdo).cfg.hi ≤ r32Units (flatAxis.planeCopy Path.sdo).cfg.lo) ∧
    (Admitted (planeWin 3) Path.sdo O.PLANE_APPLY 1 ∧
     (((planeWin 3).planeCopy Path.sdo).cfg.kind = 0 ∨ (planeWin 3).rdN (win Path.sdo O.PLANE_ROW) < (planeWin 3).rdN O.PLANE_FRAMES) ∧
     r32Units ((planeWin 3).planeCopy Path.sdo).cfg.lo < r32Units ((planeWin 3).planeCopy Path.sdo).cfg.hi ∧
     ((planeWin 3).planeCopy Path.sdo).cfg.kind = 3 ∧ ((planeWin 3).planeCopy Path.sdo).cfg.nv < 3) ∧
    (Admitted (planeWin 1) Path.sdo O.PLANE_APPLY 1 ∧
     (((planeWin 1).planeCopy Path.sdo).cfg.kind = 0 ∨ (planeWin 1).rdN (win Path.sdo O.PLANE_ROW) < (planeWin 1).rdN O.PLANE_FRAMES) ∧
     r32Units ((planeWin 1).planeCopy Path.sdo).cfg.lo < r32Units ((planeWin 1).planeCopy Path.sdo).cfg.hi ∧
     (((planeWin 1).planeCopy Path.sdo).cfg.kind ≠ 3 ∨ 3 ≤ ((planeWin 1).planeCopy Path.sdo).cfg.nv)) :=
  ⟨⟨adm_of (by decide +kernel), by decide +kernel⟩, ⟨adm_of (by decide +kernel), by decide +kernel⟩, ⟨adm_of (by decide +kernel), by decide +kernel⟩, ⟨adm_of (by decide +kernel), by decide +kernel⟩⟩

theorem witness_GateAndPlaneApply_5 :
    Admitted (planeWin 1) Path.sdo O.PLANE_CLEAR 1 :=
  adm_of (by decide +kernel)

def tileA : Tile := { run := 3, plane := 1, tile := 2, since := 0, used := 0, incs := [(9, 4)] }
def tileB : Tile := { tileA with since := sec 50000 }
def tiled : State :=
  { at1 with clk := { r.clk with now := sec 50000 }, farm := { r.farm with tiles := [tileA], planes := [(1, { cfg := { kind := 1 } })] } }
def tiledNow : State := { tiled with farm := { tiled.farm with tiles := [tileB] } }
def snapA : Snap := { plane := 1, frame := 3, touched := 0 }
def snapped : State := { tiled with farm := { tiled.farm with snaps := [snapA, { plane := 2, tail := some 3, frame := 4 }] } }
def snapBusy : State := { snapped with farm := { snapped.farm with insts := [{ instA with cfg := { instA.cfg with plane := 1 } }], ord := 5 } }
def snapCut : Snap := { snapA with cut := 5 }
def snapWaits : State := { snapBusy with farm := { snapBusy.farm with snaps := [snapCut] } }
def dispA (st : Nat) : State :=
  { tiled with dir := { r.dir with rows := [(0, entA)], nextSeq := 1 }, farm := { tiled.farm with disps := [(0, { len := 100, state := st })] } }
def dispLong : State := { dispA 0 with farm := { tiled.farm with disps := [(0, { len := 4294967295 })] } }

theorem witness_SnapshotsAndDisplays_1 :
    (List.find? (fun t => t.run == 3 && t.plane == 1 && t.tile == 2) tiled.farm.tiles = some tileA ∧ tiled.storeServes = true ∧
     tiled.fault.stop = false ∧ tiled.pond.credit3 = creditMax ∧ tileA.since + us (tiled.rdN O.PLANE_FLUSH) ≤ tiled.clk.now) ∧
    (List.find? (fun t => t.run == 3 && t.plane == 1 && t.tile == 2) tiledNow.farm.tiles = some tileB ∧ tiledNow.storeServes = true ∧
     tiledNow.fault.stop = false ∧ tiledNow.pond.credit3 = creditMax ∧ tiledNow.clk.now < tileB.since + us (tiledNow.rdN O.PLANE_FLUSH) ∧
     (∀ (y : Snap), y ∈ tiledNow.farm.snaps → y.plane = 1 → y.ready = true)) :=
  ⟨by decide +kernel, by decide +kernel⟩

theorem witness_SnapshotsAndDisplays_2 :
    (Admitted tiled Path.sdo O.SNAP_PLANE 1 ∧ (∀ (x : Snap), x ∈ tiled.farm.snaps → x.tail ≠ none) ∧ tiled.planeInUse (Int.toNat 1) = true ∧
     tiled.snapFrame = some 0) ∧
    (Admitted tiled Path.sdo O.SNAP_PLANE 2 ∧ (∀ (x : Snap), x ∈ tiled.farm.snaps → x.tail ≠ none) ∧ tiled.planeInUse (Int.toNat 2) = false) :=
  ⟨⟨adm_of (by decide +kernel), by decide +kernel⟩, ⟨adm_of (by decide +kernel), by decide +kernel⟩⟩

theorem witness_SnapshotsAndDisplays_3 :
    List.find? (fun x => x.plane == 1 && !x.ready) snapped.farm.snaps = some snapA ∧ snapped.planeWorkDone 1 snapA.cut = true ∧
    snapped.farmRuns = true ∧ snapped.pond.credit3 = creditMax := by decide +kernel

theorem witness_SnapshotsAndDisplays_4 :
    List.find? (fun x => x.plane == 1 && !x.ready) snapWaits.farm.snaps = some snapCut ∧
    (snapWaits.planeWorkDone 1 snapCut.cut = false ∨ snapWaits.farmRuns = false) := by decide +kernel

theorem witness_SnapshotsAndDisplays_5 :
    Admitted snapped Path.sdo O.SNAP_RELEASE 1 :=
  adm_of (by decide +kernel)

theorem witness_SnapshotsAndDisplays_6 :
    (Admitted tiled Path.sdo O.DISP_GO 1 ∧ 0 = tiled.rdN O.DISP_BUFFER ∧
     (tiled.entryOf (tiled.disp 0).entry = none ∨ ∃ e, tiled.entryOf (tiled.disp 0).entry = some e ∧
     (e.state < 2 ∨ bit e.seg.chset (tiled.disp 0).ch = false))) ∧
    (Admitted dispLong Path.sdo O.DISP_GO 1 ∧ 0 = dispLong.rdN O.DISP_BUFFER ∧ dispLong.entryOf (dispLong.disp 0).entry = some entA ∧ 2 ≤ entA.state ∧
     bit entA.seg.chset (dispLong.disp 0).ch = true ∧
     218440 < ceilDiv (dispLong.disp 0).len ((entA.seg.cfg.bolt (dispLong.disp 0).ch).d * (dispLong.disp 0).factor)) ∧
    (Admitted (dispA 1) Path.sdo O.DISP_GO 1 ∧ 0 = (dispA 1).rdN O.DISP_BUFFER ∧ (dispA 1).entryOf ((dispA 1).disp 0).entry = some entA ∧
     2 ≤ entA.state ∧ bit entA.seg.chset ((dispA 1).disp 0).ch = true ∧
     ceilDiv ((dispA 1).disp 0).len ((entA.seg.cfg.bolt ((dispA 1).disp 0).ch).d * ((dispA 1).disp 0).factor) ≤ 218440 ∧ ((dispA 1).disp 0).state = 1) ∧
    (Admitted (dispA 0) Path.sdo O.DISP_GO 1 ∧ 0 = (dispA 0).rdN O.DISP_BUFFER ∧ (dispA 0).entryOf ((dispA 0).disp 0).entry = some entA ∧
     2 ≤ entA.state ∧ bit entA.seg.chset ((dispA 0).disp 0).ch = true ∧
     ceilDiv ((dispA 0).disp 0).len ((entA.seg.cfg.bolt ((dispA 0).disp 0).ch).d * ((dispA 0).disp 0).factor) ≤ 218440 ∧ ((dispA 0).disp 0).state ≠ 1) :=
  ⟨⟨adm_of (by decide +kernel), by decide +kernel⟩, ⟨adm_of (by decide +kernel), by decide +kernel⟩, ⟨adm_of (by decide +kernel), by decide +kernel⟩, ⟨adm_of (by decide +kernel), by decide +kernel⟩⟩

theorem witness_SnapshotsAndDisplays_7 :
    ((dispA 1).disp 0).state = 1 ∧ (dispA 1).farmRuns = true ∧ (dispA 1).pond.credit3 = creditMax := by decide +kernel

theorem witness_SnapshotsAndDisplays_8 :
    (((dispA 0).disp 0).state ≠ 1 ∨ (dispA 0).farmRuns = false) := by decide +kernel

/-! ### Witnesses: timebase, loops, twins -/

def fan (f : FanSt → FanSt) : State := { at2 with fan := f at2.fan }
def measured : State := fan (fun f => { f with meas := [1] })
def present (tb : Nat) : State := fan (fun f => { f with tb := tb, inUse := 1, detected := 1, presentSince := some 5, acqBy := sec 200, corrAt := sec 99 })
def offNow : State := { present 2 with gov := { r.gov with off := true } }
def disciplined : State := fan (fun f => { f with tb := 1, inUse := 1, presentSince := some 5, acqBy := sec 200, goodSince := some (sec 99) })
def fqA : RefFreq := { error := 700, corr := 350 }

theorem witness_ReferenceAndTimebase_1 :
    validRef (measured.rdN O.REF_SELECT) 1 = true ∧ measured.fan.tb ≠ 4 ∧ measured.gov.off = false ∧ measured.fan.presentSince = none ∧
    measured.fan.meas.head? = some 1 := by decide +kernel

theorem witness_ReferenceAndTimebase_2 :
    (((present 1).fan.tb = 1 ∨ (present 1).fan.tb = 2) ∧ (present 1).gov.off = false ∧ (present 1).fan.presentSince = some 5) ∧
    (((present 2).fan.tb = 1 ∨ (present 2).fan.tb = 2) ∧ (present 2).gov.off = false ∧ (present 2).fan.presentSince = some 5) :=
  ⟨by decide +kernel, by decide +kernel⟩

theorem witness_ReferenceAndTimebase_3 :
    (present 2).fan.tb = 2 ∧ (present 2).gov.off = false ∧ (present 2).fan.presentSince = some 5 := by decide +kernel

theorem witness_ReferenceAndTimebase_4 :
    (((present 1).fan.tb = 1 ∨ (present 1).fan.tb = 2) ∧ (present 1).gov.off = false ∧ (present 1).fan.presentSince = some 5) ∧
    (((present 2).fan.tb = 1 ∨ (present 2).fan.tb = 2) ∧ (present 2).gov.off = false ∧ (present 2).fan.presentSince = some 5) :=
  ⟨by decide +kernel, by decide +kernel⟩

theorem witness_ReferenceAndTimebase_5 :
    offNow.gov.off = true := by decide +kernel

theorem witness_ReferenceAndTimebase_6 :
    disciplined.fan.tb = 1 ∧ disciplined.fan.presentSince ≠ none ∧ ((∃ g, disciplined.fan.goodSince = some g ∧
    g + sec 1 ≤ disciplined.clk.now) ∨ disciplined.fan.acqBy ≤ disciplined.clk.now) := by decide +kernel

theorem witness_ReferenceAndTimebase_7 :
    ((present 1).fan.tb ≠ 1 ∨ (present 1).fan.presentSince = none ∨ (∀ (g : Time), (present 1).fan.goodSince = some g → (present 1).clk.now < g + sec 1) ∧
    (present 1).clk.now < (present 1).fan.acqBy) := by decide +kernel

theorem witness_ReferenceAndTimebase_8 :
    Admitted (present 2) Path.sdo O.REF_SELECT 3 ∧ (present 2).rd O.REF_SELECT ≠ 3 ∧ (present 2).fan.tb ≠ 4 :=
  ⟨adm_of (by decide +kernel), by decide +kernel⟩

theorem witness_ReferenceAndTimebase_9 :
    (present 2).fan.tb ≠ 4 ∧ (present 2).gov.off = false ∧ ((present 2).dev = DevMode.run ∨ (present 2).dev = DevMode.faulted) := by decide +kernel

def loopAt (l : Nat) (x : Loop) : State := fan (fun f => { f with loops := [(l, x)] })
def searching (n : Nat) : Loop := { lock := false, gate := false, began := 0, fails := n }
def searchNow : Loop := { lock := false, gate := false, began := sec 100 }
def opening : Loop := { gate := false, openAt := some 5, lostAt := some 4 }
def openLater : Loop := { gate := false, openAt := some (sec 100 + 1) }
def openRun : Loop := { gate := false, openAt := some 5, planned := true, newN := some 25 }
def committing : State := fan (fun f => { f with pendN := some 20 })
def armedPlan : State := { at2 with plans := [(3, { st := 1 })] }

theorem witness_LoopsAndGates_1 :
    (2 ≤ 2 ∧ 2 < 7 ∧ (at2.loop 2).lock = true ∧ (at2.loop 2).dead = false ∧ at2.fan.tb ≠ 4 ∧ at2.gov.off = false ∧ at2.gov.power ≠ 3 ∧
     at2.fault.stop = false) ∧
    (2 ≤ 3 ∧ 3 < 7 ∧ (at2.loop 3).lock = true ∧ (at2.loop 3).dead = false ∧ at2.fan.tb ≠ 4 ∧ at2.gov.off = false ∧ at2.gov.power ≠ 3 ∧
     at2.fault.stop = false) ∧
    (2 ≤ 4 ∧ 4 < 7 ∧ (at2.loop 4).lock = true ∧ (at2.loop 4).dead = false ∧ at2.fan.tb ≠ 4 ∧ at2.gov.off = false ∧ at2.gov.power ≠ 3 ∧
     at2.fault.stop = false) ∧
    (2 ≤ 5 ∧ 5 < 7 ∧ (at2.loop 5).lock = true ∧ (at2.loop 5).dead = false ∧ at2.fan.tb ≠ 4 ∧ at2.gov.off = false ∧ at2.gov.power ≠ 3 ∧
     at2.fault.stop = false) ∧
    (2 ≤ 6 ∧ 6 < 7 ∧ (at2.loop 6).lock = true ∧ (at2.loop 6).dead = false ∧ at2.fan.tb ≠ 4 ∧ at2.gov.off = false ∧ at2.gov.power ≠ 3 ∧
     at2.fault.stop = false) :=
  ⟨by decide +kernel, by decide +kernel, by decide +kernel, by decide +kernel, by decide +kernel⟩

theorem witness_LoopsAndGates_2 :
    (0 < 2 ∧ (at2.loop 0).dead = false ∧ at2.fan.tb ≠ 4 ∧ at2.gov.off = false ∧ at2.gov.power ≠ 3 ∧ at2.asleep = false ∧ at2.fault.stop = false ∧
     0 = at2.fan.active) ∧
    (1 < 2 ∧ (at2.loop 1).dead = false ∧ at2.fan.tb ≠ 4 ∧ at2.gov.off = false ∧ at2.gov.power ≠ 3 ∧ at2.asleep = false ∧ at2.fault.stop = false ∧
     1 ≠ at2.fan.active) :=
  ⟨by decide +kernel, by decide +kernel⟩

theorem witness_LoopsAndGates_3 :
    (0 < 7 ∧ ((loopAt 0 (searching 1)).loop 0).lock = false ∧ ((loopAt 0 (searching 1)).loop 0).dead = false ∧
     ((loopAt 0 (searching 1)).loop 0).began + lockTime 0 ≤ (loopAt 0 (searching 1)).clk.now ∧ (loopAt 0 (searching 1)).gov.power ≠ 3 ∧
     (2 ≤ 0 ∨ (loopAt 0 (searching 1)).asleep = false) ∧ ((loopAt 0 (searching 1)).dev = DevMode.run ∨ (loopAt 0 (searching 1)).dev = DevMode.faulted) ∧
     (loopAt 0 (searching 1)).fault.stop = false ∧ (loopAt 0 (searching 1)).net.held = [] ∧ (loopAt 0 (searching 1)).net.rpdos = []) ∧
    (1 < 7 ∧ ((loopAt 1 (searching 2)).loop 1).lock = false ∧ ((loopAt 1 (searching 2)).loop 1).dead = false ∧
     ((loopAt 1 (searching 2)).loop 1).began + lockTime 1 ≤ (loopAt 1 (searching 2)).clk.now ∧ (loopAt 1 (searching 2)).gov.power ≠ 3 ∧
     (2 ≤ 1 ∨ (loopAt 1 (searching 2)).asleep = false) ∧ ((loopAt 1 (searching 2)).dev = DevMode.run ∨ (loopAt 1 (searching 2)).dev = DevMode.faulted) ∧
     (loopAt 1 (searching 2)).fault.stop = false ∧ (loopAt 1 (searching 2)).net.held = [] ∧ (loopAt 1 (searching 2)).net.rpdos = []) ∧
    (2 < 7 ∧ ((loopAt 2 (searching 2)).loop 2).lock = false ∧ ((loopAt 2 (searching 2)).loop 2).dead = false ∧
     ((loopAt 2 (searching 2)).loop 2).began + lockTime 2 ≤ (loopAt 2 (searching 2)).clk.now ∧ (loopAt 2 (searching 2)).gov.power ≠ 3 ∧
     (2 ≤ 2 ∨ (loopAt 2 (searching 2)).asleep = false) ∧ ((loopAt 2 (searching 2)).dev = DevMode.run ∨ (loopAt 2 (searching 2)).dev = DevMode.faulted) ∧
     (loopAt 2 (searching 2)).fault.stop = false ∧ (loopAt 2 (searching 2)).net.held = [] ∧ (loopAt 2 (searching 2)).net.rpdos = []) ∧
    (5 < 7 ∧ ((loopAt 5 (searching 1)).loop 5).lock = false ∧ ((loopAt 5 (searching 1)).loop 5).dead = false ∧
     ((loopAt 5 (searching 1)).loop 5).began + lockTime 5 ≤ (loopAt 5 (searching 1)).clk.now ∧ (loopAt 5 (searching 1)).gov.power ≠ 3 ∧
     (2 ≤ 5 ∨ (loopAt 5 (searching 1)).asleep = false) ∧ ((loopAt 5 (searching 1)).dev = DevMode.run ∨ (loopAt 5 (searching 1)).dev = DevMode.faulted) ∧
     (loopAt 5 (searching 1)).fault.stop = false ∧ (loopAt 5 (searching 1)).net.held = [] ∧ (loopAt 5 (searching 1)).net.rpdos = []) ∧
    (6 < 7 ∧ ((loopAt 6 (searching 2)).loop 6).lock = false ∧ ((loopAt 6 (searching 2)).loop 6).dead = false ∧
     ((loopAt 6 (searching 2)).loop 6).began + lockTime 6 ≤ (loopAt 6 (searching 2)).clk.now ∧ (loopAt 6 (searching 2)).gov.power ≠ 3 ∧
     (2 ≤ 6 ∨ (loopAt 6 (searching 2)).asleep = false) ∧ ((loopAt 6 (searching 2)).dev = DevMode.run ∨ (loopAt 6 (searching 2)).dev = DevMode.faulted) ∧
     (loopAt 6 (searching 2)).fault.stop = false ∧ (loopAt 6 (searching 2)).net.held = [] ∧ (loopAt 6 (searching 2)).net.rpdos = []) :=
  ⟨⟨by decide +kernel, by decide +kernel⟩, ⟨by decide +kernel, by decide +kernel⟩, ⟨by decide +kernel, by decide +kernel⟩, ⟨by decide +kernel, by decide +kernel⟩, ⟨by decide +kernel, by decide +kernel⟩⟩

theorem witness_LoopsAndGates_4 :
    (loopAt 3 searchNow).clk.now < ((loopAt 3 searchNow).loop 3).began + lockTime 3 ∧ (loopAt 3 searchNow).fault.stop = false := by decide +kernel

theorem witness_LoopsAndGates_5 :
    (3 < 7 ∧ ((loopAt 3 (searching 1)).loop 3).lock = false ∧ ((loopAt 3 (searching 1)).loop 3).dead = false ∧
     ((loopAt 3 (searching 1)).fan.tb ≠ 4 ∨ 3 = 4) ∧ (loopAt 3 (searching 1)).gov.power ≠ 3 ∧ (2 ≤ 3 ∨ (loopAt 3 (searching 1)).asleep = false) ∧
     ((loopAt 3 (searching 1)).loop 3).began + 256 * 800 ≤ (loopAt 3 (searching 1)).clk.now) ∧
    (1 < 7 ∧ ((loopAt 1 (searching 1)).loop 1).lock = false ∧ ((loopAt 1 (searching 1)).loop 1).dead = false ∧
     ((loopAt 1 (searching 1)).fan.tb ≠ 4 ∨ 1 = 4) ∧ (loopAt 1 (searching 1)).gov.power ≠ 3 ∧ (2 ≤ 1 ∨ (loopAt 1 (searching 1)).asleep = false) ∧
     ((loopAt 1 (searching 1)).loop 1).began + 256 * 800 ≤ (loopAt 1 (searching 1)).clk.now) :=
  ⟨by decide +kernel, by decide +kernel⟩

theorem witness_LoopsAndGates_6 :
    (loopAt 3 searchNow).clk.now < ((loopAt 3 searchNow).loop 3).began + 256 * 800 := by decide +kernel

theorem witness_LoopsAndGates_7 :
    (2 < 7 ∧ ((loopAt 2 opening).loop 2).openAt = some 5 ∧ 5 ≤ (loopAt 2 opening).clk.now ∧ (loopAt 2 opening).fault.stop = false ∧
     (loopAt 2 opening).net.held = [] ∧ (loopAt 2 opening).net.rpdos = [] ∧ (loopAt 2 opening).pond.reads = []) ∧
    (3 < 7 ∧ ((loopAt 3 openRun).loop 3).openAt = some 5 ∧ 5 ≤ (loopAt 3 openRun).clk.now ∧ (loopAt 3 openRun).fault.stop = false ∧
     (loopAt 3 openRun).net.held = [] ∧ (loopAt 3 openRun).net.rpdos = [] ∧ (loopAt 3 openRun).pond.reads = []) ∧
    (4 < 7 ∧ ((loopAt 4 opening).loop 4).openAt = some 5 ∧ 5 ≤ (loopAt 4 opening).clk.now ∧ (loopAt 4 opening).fault.stop = false ∧
     (loopAt 4 opening).net.held = [] ∧ (loopAt 4 opening).net.rpdos = [] ∧ (loopAt 4 opening).pond.reads = []) ∧
    (6 < 7 ∧ ((loopAt 6 opening).loop 6).openAt = some 5 ∧ 5 ≤ (loopAt 6 opening).clk.now ∧ (loopAt 6 opening).fault.stop = false ∧
     (loopAt 6 opening).net.held = [] ∧ (loopAt 6 opening).net.rpdos = [] ∧ (loopAt 6 opening).pond.reads = []) ∧
    (1 < 7 ∧ ((loopAt 1 opening).loop 1).openAt = some 5 ∧ 5 ≤ (loopAt 1 opening).clk.now ∧ (loopAt 1 opening).fault.stop = false ∧
     (loopAt 1 opening).net.held = [] ∧ (loopAt 1 opening).net.rpdos = [] ∧ (loopAt 1 opening).pond.reads = []) :=
  ⟨by decide +kernel, by decide +kernel, by decide +kernel, by decide +kernel, by decide +kernel⟩

theorem witness_LoopsAndGates_8 :
    ((loopAt 3 openLater).loop 3).openAt = some (sec 100 + 1) ∧ (loopAt 3 openLater).clk.now < sec 100 + 1 ∧ (loopAt 3 openLater).fault.stop = false := by decide +kernel

theorem witness_LoopsAndGates_9 :
    committing.fan.pendN = some 20 ∧ (committing.loop 3).dead = false ∧ committing.gov.power ≠ 3 := by decide +kernel

theorem witness_LoopsAndGates_10 :
    (at2.fan.pendN = none ∨ (at2.loop 3).dead = true ∨ at2.gov.power = 3) := by decide +kernel

theorem witness_LoopsAndGates_11 :
    (Admitted armedPlan Path.sdo O.SSC_COMMIT 1 ∧ bit (Int.toNat 1) 0 = true ∧ (∃ q, q < 16 ∧ armedSt (armedPlan.plan q).entering = true)) ∧
    (Admitted at2 Path.sdo O.SSC_COMMIT 7 ∧ (bit (Int.toNat 7) 0 = false ∨ ∀ (q : Nat), q < 16 → armedSt (at2.plan q).entering = false)) ∧
    (Admitted armedPlan Path.sdo O.SSC_COMMIT 6 ∧ (bit (Int.toNat 6) 0 = false ∨ ∀ (q : Nat), q < 16 → armedSt (armedPlan.plan q).entering = false)) ∧
    (Admitted armedPlan Path.sdo O.SSC_COMMIT 4 ∧ (bit (Int.toNat 4) 0 = false ∨ ∀ (q : Nat), q < 16 → armedSt (armedPlan.plan q).entering = false)) :=
  ⟨⟨adm_of (by decide +kernel), by decide +kernel⟩, ⟨adm_of (by decide +kernel), by decide +kernel⟩, ⟨adm_of (by decide +kernel), by decide +kernel⟩, ⟨adm_of (by decide +kernel), by decide +kernel⟩⟩

def noStandby : State := fan (fun f => { f with standbyReady := false })
def noSampling : State := fan (fun f => { f with sampling := false, standbyReady := false, loops := [(1, searchNow)] })
def twinWorn : State := { at2 with layer := { at2.layer with decided := [(0x0800, 0, 0)] } }

theorem witness_TwinsExchange_1 :
    (at2.fan.sampling = true ∧ at2.asleep = false ∧ at2.fault.stop = false ∧ at2.fan.standbyReady = true) ∧
    (noStandby.fan.sampling = true ∧ noStandby.asleep = false ∧ noStandby.fault.stop = false ∧ noStandby.fan.standbyReady = false ∧
     (noStandby.dev = DevMode.run ∨ noStandby.dev = DevMode.faulted)) :=
  ⟨by decide +kernel, by decide +kernel⟩

theorem witness_TwinsExchange_2 :
    (noSampling.fan.sampling = false ∨ noSampling.asleep = true) ∧ noSampling.fault.stop = false := by decide +kernel

theorem witness_TwinsExchange_3 :
    (noStandby.loop (1 - noStandby.fan.active)).lock = true ∧ (noStandby.loop (1 - noStandby.fan.active)).gate = true ∧
    (noStandby.loop (1 - noStandby.fan.active)).dead = false ∧ noStandby.fan.sampling = true ∧ noStandby.asleep = false := by decide +kernel

theorem witness_TwinsExchange_4 :
    ((noSampling.loop (1 - noSampling.fan.active)).lock = false ∨ (noSampling.loop (1 - noSampling.fan.active)).gate = false ∨ (noSampling.loop (1 - noSampling.fan.active)).dead = true) := by decide +kernel

theorem witness_TwinsExchange_5 :
    twinWorn.dev = DevMode.run ∧ twinWorn.asleep = false ∧ twinWorn.fan.sampling = true ∧ twinWorn.fan.standbyReady = true ∧
    twinWorn.fan.failUntil = none ∧ (twinWorn.layer.decided.any fun d => d.fst == 2048 && d.snd.fst == twinWorn.fan.active) = true := by decide +kernel

theorem witness_TwinsExchange_6 :
    (noStandby.dev ≠ DevMode.run ∨ noStandby.fan.standbyReady = false ∨ (noStandby.layer.decided.any fun d => d.fst == 2048 && d.snd.fst == noStandby.fan.active) = false) := by decide +kernel

/-! ### Witnesses: dressing -/

def dressed (p : Pass) : State := { at2 with dress := { at2.dress with passes := [p] } }
def passAt (st : Nat) : Pass := { unit := 0x0100, stage := st, until_ := 50 }
def passLater (st : Nat) : Pass := { unit := 0x0100, stage := st, until_ := sec 101 }
def passBack (st : Nat) : Pass := { unit := 0x0100, stage := st, until_ := 50, restart := true }
def passMon : Pass := { unit := 0x0500, stage := 1 }
/-- A pass at COMPARE whose two corrections of every trim are `a` and `b`. -/
def passCmp (a b : Int) : Pass := { unit := 0x0100, stage := 6, until_ := 50, m1 := List.replicate 32 a, m2 := List.replicate 32 b }
def passLane (st : Nat) : Pass := { unit := 0x0A00, stage := st, until_ := 50 }
def passDone (n : Nat) : Pass := { passAt 7 with outcome := n, targets := if n = 1 then [(0, 3), (1, -2)] else [] }
def passMonDone : Pass := { unit := 0x0B00, stage := 7, until_ := 50, outcome := 1, targets := [(0, 3), (1, -2)] }
def applyA : Applying := { unit := 0x0100, targets := [(0, 3), (1, -2)], next := 5, left := 3 }
def applyEnd : Applying := { applyA with left := 1 }
def applyLater : Applying := { applyA with next := sec 101 }
def passAsked : Pass := { unit := 0x0100, asked := 3 }
def distrusted : State := { dressed passAsked with mon := { at2.mon with distrust := some 3 } }
def applyingA (a : Applying) : State := { at2 with dress := { at2.dress with applying := [a] } }
def applyHeld : State := { applyingA applyA with quads := [(0, { pending := some (sec 101, 3) })] }

theorem witness_DressingPasses_1 :
    ((dressed (passAt 1)).passOf 256 = some (passAt 1) ∧ (passAt 1).stage = 1 ∧ (dressed (passAt 1)).passReady 256 = true ∧
     (dressed (passAt 1)).grainAt (dressed (passAt 1)).clk.now = (dressed (passAt 1)).clk.now) ∧
    ((dressed passMon).passOf 1280 = some passMon ∧ passMon.stage = 1 ∧ (dressed passMon).passReady 1280 = true ∧
     (dressed passMon).grainAt (dressed passMon).clk.now = (dressed passMon).clk.now) ∧
    ((dressed (passAt 2)).passOf 256 = some (passAt 2) ∧
     ((passAt 2).stage ≠ 1 ∨ (dressed (passAt 2)).passReady 256 = false ∨ (dressed (passAt 2)).grainAt (dressed (passAt 2)).clk.now ≠ (dressed (passAt 2)).clk.now)) ∧
    (distrusted.passOf 256 = some passAsked ∧ passAsked.stage = 1 ∧ distrusted.monitorWait = some (distrusted.monitorWait.getD 0) ∧
     max passAsked.asked (distrusted.monitorWait.getD 0) + ms 100 ≤ distrusted.clk.now) ∧
    ((dressed (passAt 2)).passOf 256 = some (passAt 2) ∧
     ((passAt 2).stage ≠ 1 ∨ ∀ (w : Time), (dressed (passAt 2)).monitorWait = some w → (dressed (passAt 2)).clk.now < max (passAt 2).asked w + ms 100)) ∧
    ((dressed (passAt 1)).passOf 256 = some (passAt 1) ∧
     ((passAt 1).stage ≠ 1 ∨ ∀ (w : Time), (dressed (passAt 1)).monitorWait = some w → (dressed (passAt 1)).clk.now < max (passAt 1).asked w + ms 100)) ∧
    ((dressed (passAt 2)).passOf 256 = some (passAt 2) ∧ (passAt 2).restart = false ∧ (passAt 2).until_ ≤ (dressed (passAt 2)).clk.now ∧
     ((passAt 2).stage ∈ [2, 3, 4, 5])) ∧
    ((dressed (passAt 3)).passOf 256 = some (passAt 3) ∧ (passAt 3).restart = false ∧ (passAt 3).until_ ≤ (dressed (passAt 3)).clk.now ∧
     ((passAt 3).stage ∈ [2, 3, 4, 5])) ∧
    ((dressed (passAt 4)).passOf 256 = some (passAt 4) ∧ (passAt 4).restart = false ∧ (passAt 4).until_ ≤ (dressed (passAt 4)).clk.now ∧
     ((passAt 4).stage ∈ [2, 3, 4, 5])) ∧
    ((dressed (passAt 5)).passOf 256 = some (passAt 5) ∧ (passAt 5).restart = false ∧ (passAt 5).until_ ≤ (dressed (passAt 5)).clk.now ∧
     ((passAt 5).stage ∈ [2, 3, 4, 5])) ∧
    ((dressed (passLater 3)).passOf 256 = some (passLater 3) ∧ ((passLater 3).restart = true ∨ (dressed (passLater 3)).clk.now < (passLater 3).until_)) ∧
    ((dressed (passBack 4)).passOf 256 = some (passBack 4) ∧ (passBack 4).restart = true ∧ (dressed (passBack 4)).layeringOn 256 = false ∧
     (dressed (passBack 4)).fan.failUntil = none) ∧
    ((dressed (passAt 4)).passOf 256 = some (passAt 4) ∧
     ((passAt 4).restart = false ∨ (dressed (passAt 4)).layeringOn 256 = true ∨ (dressed (passAt 4)).fan.failUntil ≠ none)) :=
  ⟨by decide +kernel, by decide +kernel, by decide +kernel, by decide +kernel, by decide +kernel, by decide +kernel, by decide +kernel, by decide +kernel, by decide +kernel, by decide +kernel, by decide +kernel, by decide +kernel, by decide +kernel⟩

theorem witness_DressingPasses_2 :
    ((dressed (passLane 6)).passOf 2560 = some (passLane 6) ∧ (passLane 6).stage = 6 ∧ (passLane 6).restart = false ∧
     (passLane 6).until_ ≤ (dressed (passLane 6)).clk.now ∧ (passLane 6).lastTurn = false) ∧
    ((dressed (passCmp 3 3)).passOf 256 = some (passCmp 3 3) ∧ (passCmp 3 3).stage = 6 ∧ (passCmp 3 3).restart = false ∧
     (passCmp 3 3).until_ ≤ (dressed (passCmp 3 3)).clk.now ∧ (passCmp 3 3).lastTurn = true) ∧
    ((dressed (passCmp 3 2000000)).passOf 256 = some (passCmp 3 2000000) ∧ (passCmp 3 2000000).stage = 6 ∧ (passCmp 3 2000000).restart = false ∧
     (passCmp 3 2000000).until_ ≤ (dressed (passCmp 3 2000000)).clk.now ∧ (passCmp 3 2000000).lastTurn = true) ∧
    ((dressed (passCmp 100000 100000)).passOf 256 = some (passCmp 100000 100000) ∧ (passCmp 100000 100000).stage = 6 ∧
     (passCmp 100000 100000).restart = false ∧ (passCmp 100000 100000).until_ ≤ (dressed (passCmp 100000 100000)).clk.now ∧
     (passCmp 100000 100000).lastTurn = true) ∧
    ((dressed (passLane 7)).passOf 2560 = some (passLane 7) ∧ (passLane 7).stage = 7 ∧
     ((if isChanUnit 2560 = true ∨ 2560 = 1280 then (dressed (passLane 7)).grainAt (passLane 7).until_ else (passLane 7).until_) ≤ (dressed (passLane 7)).clk.now) ∧
     (passLane 7).lastTurn = false) ∧
    ((dressed (passDone 2)).passOf 256 = some (passDone 2) ∧ (passDone 2).stage = 7 ∧
     ((if isChanUnit 256 = true ∨ 256 = 1280 then (dressed (passDone 2)).grainAt (passDone 2).until_ else (passDone 2).until_) ≤ (dressed (passDone 2)).clk.now) ∧
     (passDone 2).lastTurn = true ∧ (passDone 2).outcome ≠ 1) ∧
    ((dressed (passDone 1)).passOf 256 = some (passDone 1) ∧ (passDone 1).stage = 7 ∧
     ((if isChanUnit 256 = true ∨ 256 = 1280 then (dressed (passDone 1)).grainAt (passDone 1).until_ else (passDone 1).until_) ≤ (dressed (passDone 1)).clk.now) ∧
     (passDone 1).lastTurn = true ∧ (passDone 1).outcome = 1) ∧
    ((dressed passMonDone).passOf 2816 = some passMonDone ∧ passMonDone.stage = 7 ∧
     ((if isChanUnit 2816 = true ∨ 2816 = 1280 then (dressed passMonDone).grainAt passMonDone.until_ else passMonDone.until_) ≤ (dressed passMonDone).clk.now) ∧
     passMonDone.lastTurn = true ∧ passMonDone.outcome = 1) ∧
    ((∀ (n : Nat) (v : Int), (n, v) ∈ applyA.targets → n < trimCount 256) ∧
     List.find? (fun x => x.unit == 256) (applyingA applyA).dress.applying = some applyA ∧ applyA.next ≤ (applyingA applyA).clk.now ∧
     (∀ (q : Nat), q ∈ quadsOf 256 → ((applyingA applyA).quad q).pending = none) ∧ (List.map (fun x => x.fst) applyA.targets).Nodup) ∧
    ((∀ (n : Nat) (v : Int), (n, v) ∈ applyEnd.targets → n < trimCount 256) ∧
     List.find? (fun x => x.unit == 256) (applyingA applyEnd).dress.applying = some applyEnd ∧ applyEnd.next ≤ (applyingA applyEnd).clk.now ∧
     (∀ (q : Nat), q ∈ quadsOf 256 → ((applyingA applyEnd).quad q).pending = none) ∧ (List.map (fun x => x.fst) applyEnd.targets).Nodup) ∧
    (List.find? (fun x => x.unit == 256) applyHeld.dress.applying = some applyA ∧ applyA.next ≤ applyHeld.clk.now ∧ (∃ q, q ∈ quadsOf 256 ∧
     (applyHeld.quad q).pending ≠ none) ∧ applyA.passed.length + (quadsOf 256).length ≤ 4) ∧
    (List.find? (fun x => x.unit == 256) (applyingA applyLater).dress.applying = some applyLater ∧ (applyingA applyLater).clk.now < applyLater.next) :=
  ⟨by decide +kernel, by decide +kernel, by decide +kernel, by decide +kernel, by decide +kernel, by decide +kernel, by decide +kernel, by decide +kernel, ⟨pairs_of (by decide +kernel), by decide +kernel⟩, ⟨pairs_of (by decide +kernel), by decide +kernel⟩, by decide +kernel, by decide +kernel⟩

def gapDress : State := { at2.wr O.GAP_DRESS_ENABLE 1 with chans := chanNos.map (fun c => (c, { hist := [{}] })) }
def gapFirst (item : Nat) (w : List Int) : State := { gapDress with dress := { gapDress.dress with firsts := [(item, w)] } }
def win0 : List Int := List.replicate (gapLength 0) 1
def win4 : List Int := List.replicate (gapLength 4) 1
def win5 : List Int := List.replicate (gapLength 5) 1
def far0 : List Int := List.replicate (gapLength 0) 90000

theorem witness_GapDressingAndCommit_1 :
    (gapDress.rd O.GAP_DRESS_ENABLE = 1 ∧ gapDress.gapOpen 0 = true ∧ win0.length = gapLength 0 ∧ gapDress.asleep = false ∧
     (gapDress.dev = DevMode.run ∨ gapDress.dev = DevMode.faulted) ∧ tfind gapDress.dress.firsts 0 = none) ∧
    (gapDress.rd O.GAP_DRESS_ENABLE = 1 ∧ gapDress.gapOpen 4 = true ∧ win4.length = gapLength 4 ∧ gapDress.asleep = false ∧
     (gapDress.dev = DevMode.run ∨ gapDress.dev = DevMode.faulted) ∧ tfind gapDress.dress.firsts 4 = none) ∧
    ((gapFirst 0 far0).rd O.GAP_DRESS_ENABLE = 1 ∧ (gapFirst 0 far0).gapOpen 0 = true ∧ win0.length = gapLength 0 ∧ (gapFirst 0 far0).asleep = false ∧
     ((gapFirst 0 far0).dev = DevMode.run ∨ (gapFirst 0 far0).dev = DevMode.faulted) ∧ tfind (gapFirst 0 far0).dress.firsts 0 = some far0 ∧
     agreeAll (gapTolerance 0) (List.take 130 far0) (List.take 130 win0) = false) ∧
    ((gapFirst 0 win0).rd O.GAP_DRESS_ENABLE = 1 ∧ (gapFirst 0 win0).gapOpen 0 = true ∧ win0.length = gapLength 0 ∧ (gapFirst 0 win0).asleep = false ∧
     ((gapFirst 0 win0).dev = DevMode.run ∨ (gapFirst 0 win0).dev = DevMode.faulted) ∧ tfind (gapFirst 0 win0).dress.firsts 0 = some win0 ∧
     agreeAll (gapTolerance 0) (List.take 130 win0) (List.take 130 win0) = true) ∧
    ((gapFirst 5 win5).rd O.GAP_DRESS_ENABLE = 1 ∧ (gapFirst 5 win5).gapOpen 5 = true ∧ win5.length = gapLength 5 ∧ (gapFirst 5 win5).asleep = false ∧
     ((gapFirst 5 win5).dev = DevMode.run ∨ (gapFirst 5 win5).dev = DevMode.faulted) ∧ tfind (gapFirst 5 win5).dress.firsts 5 = some win5 ∧
     agreeAll (gapTolerance 5) (List.take 130 win5) (List.take 130 win5) = true) ∧
    ((gapFirst 4 win4).rd O.GAP_DRESS_ENABLE = 1 ∧ (gapFirst 4 win4).gapOpen 4 = true ∧ win4.length = gapLength 4 ∧ (gapFirst 4 win4).asleep = false ∧
     ((gapFirst 4 win4).dev = DevMode.run ∨ (gapFirst 4 win4).dev = DevMode.faulted) ∧ tfind (gapFirst 4 win4).dress.firsts 4 = some win4 ∧
     agreeAll (gapTolerance 4) (List.take 130 win4) (List.take 130 win4) = true) :=
  ⟨by decide +kernel, by decide +kernel, by decide +kernel, by decide +kernel, by decide +kernel, by decide +kernel⟩

theorem witness_GapDressingAndCommit_2 :
    (at2.rd O.GAP_DRESS_ENABLE ≠ 1 ∨ at2.gapOpen 0 = false ∨ at2.asleep = true) := by decide +kernel

theorem witness_GapDressingAndCommit_3 :
    Admitted (gapFirst 0 win0) Path.sdo O.GAP_DRESS_ENABLE 0 :=
  adm_of (by decide +kernel)

def commitDue (n : Nat) : State := { at2 with dress := { at2.dress with inForce := n, commit := some (5, {}), acceptedSince := true } }

theorem witness_GapDressingAndCommit_4 :
    (((commitDue 0).dress.commit = some (5, { })) ∧ (true || false) = true) ∧
    (((commitDue 2).dress.commit = some (5, { })) ∧ (false || true) = true) ∧
    (((commitDue 1).dress.commit = some (5, { })) ∧ (false || false) = false) :=
  ⟨by decide +kernel, by decide +kernel, by decide +kernel⟩

theorem witness_GapDressingAndCommit_5 :
    at2.dress.commit = none := by decide +kernel

theorem witness_GapDressingAndCommit_6 :
    (Admitted at2 Path.od O.DRESS_UNIT 1795 ∧ dressable (Int.toNat 1795) = false ∧ Int.toNat 1795 ≠ 2051) ∧
    (Admitted at2 Path.od O.DRESS_UNIT 256 ∧ (dressable (Int.toNat 256) = true ∨ Int.toNat 256 = 2051)) ∧
    (Admitted at2 Path.od O.DRESS_UNIT 2051 ∧ (dressable (Int.toNat 2051) = true ∨ Int.toNat 2051 = 2051)) :=
  ⟨⟨adm_of (by decide +kernel), by decide +kernel⟩, ⟨adm_of (by decide +kernel), by decide +kernel⟩, ⟨adm_of (by decide +kernel), by decide +kernel⟩⟩

/-! ### Witnesses: wear and layering -/

def wornOf (policy : Int) : State :=
  { (at2.wr O.WEAR_THRESHOLD 10).wr (policyKey 0x0901) policy with
    layer := { at2.layer with log := [{ at_ := sec 50, unit := 0x0700, slice := 3, what := 5, row := 0, pass := 0 }] } }
def wornMargins : List (Nat × Nat × Nat) := [(0x0901, 2, 300)]
def wornAfter (s : State) : State := { s with layer := { s.layer with recomputed := s.clk.now, margins := wornMargins } }.pruneWear
def askA : Ask := { unit := 0x0700, seq := 3, until_ := 5 }
def asked : State :=
  { at2 with fault := { at2.fault with log := [(3, { seq := 3 })] },
             layer := { at2.layer with asks := [askA, { unit := 0x0701, seq := 4, until_ := sec 500 }] } }

theorem witness_WearDecisions_1 :
    ((wornOf 0).layer.recomputed + sec 1 ≤ (wornOf 0).clk.now ∧ (wornOf 0).dev ≠ DevMode.boot ∧ (wornOf 0).dev ≠ DevMode.sleep ∧
     (wornOf 0).gov.off = false ∧
     (wornAfter (wornOf 0) = { (wornOf 0) with layer := { (wornOf 0).layer with recomputed := (wornOf 0).clk.now, margins := wornMargins } }.pruneWear)) ∧
    ((wornOf 1).layer.recomputed + sec 1 ≤ (wornOf 1).clk.now ∧ (wornOf 1).dev ≠ DevMode.boot ∧ (wornOf 1).dev ≠ DevMode.sleep ∧
     (wornOf 1).gov.off = false ∧
     (wornAfter (wornOf 1) = { (wornOf 1) with layer := { (wornOf 1).layer with recomputed := (wornOf 1).clk.now, margins := wornMargins } }.pruneWear)) :=
  ⟨by decide +kernel, by decide +kernel⟩

theorem witness_WearDecisions_2 :
    (r.clk.now < r.layer.recomputed + sec 1 ∨ r.dev = DevMode.boot ∨ r.dev = DevMode.sleep ∨ r.gov.off = true) := by decide +kernel

theorem witness_WearDecisions_3 :
    (Admitted asked Path.sdo O.LAYER_GRANT 3328 ∧ unitKnown (Int.toNat 3328) = false) ∧
    (Admitted asked Path.sdo O.LAYER_GRANT 1794 ∧ unitKnown (Int.toNat 1794) = true ∧ (∀ (a : Ask), a ∈ asked.layer.asks → a.unit ≠ Int.toNat 1794)) ∧
    (Admitted asked Path.sdo O.LAYER_GRANT 1792 ∧ unitKnown (Int.toNat 1792) = true ∧
     List.find? (fun a => a.unit == Int.toNat 1792) asked.layer.asks = some askA) :=
  ⟨⟨adm_of (by decide +kernel), by decide +kernel⟩, ⟨adm_of (by decide +kernel), by decide +kernel⟩, ⟨adm_of (by decide +kernel), by decide +kernel⟩⟩

theorem witness_WearDecisions_4 :
    (Admitted asked Path.sdo O.LAYER_DECLINE 3328 ∧ unitKnown (Int.toNat 3328) = false) ∧
    (Admitted asked Path.sdo O.LAYER_DECLINE 1794 ∧ unitKnown (Int.toNat 1794) = true ∧ (∀ (a : Ask), a ∈ asked.layer.asks → a.unit ≠ Int.toNat 1794)) ∧
    (Admitted asked Path.sdo O.LAYER_DECLINE 1792 ∧ unitKnown (Int.toNat 1792) = true ∧
     List.find? (fun a => a.unit == Int.toNat 1792) asked.layer.asks = some askA) :=
  ⟨⟨adm_of (by decide +kernel), by decide +kernel⟩, ⟨adm_of (by decide +kernel), by decide +kernel⟩, ⟨adm_of (by decide +kernel), by decide +kernel⟩⟩

theorem witness_WearDecisions_5 :
    Admitted asked Path.sdo (policyObj 3) 0 ∧
    Admitted asked Path.sdo (policyObj 4) 1 ∧
    Admitted asked Path.sdo (policyObj 4) 2 :=
  ⟨adm_of (by decide +kernel), adm_of (by decide +kernel), adm_of (by decide +kernel)⟩

theorem witness_WearDecisions_6 :
    (Admitted asked Path.od O.WEAR_UNIT 2047 ∧ (¬Int.toNat 2047 ∈ wearUnits)) ∧
    (Admitted asked Path.od O.WEAR_UNIT 1792 ∧ Int.toNat 1792 ∈ wearUnits) ∧
    (Admitted asked Path.od O.WEAR_UNIT 1794 ∧ Int.toNat 1794 ∈ wearUnits) :=
  ⟨⟨adm_of (by decide +kernel), by decide +kernel⟩, ⟨adm_of (by decide +kernel), by decide +kernel⟩, ⟨adm_of (by decide +kernel), by decide +kernel⟩⟩

def decided (u sl : Nat) : State := { at2 with layer := { at2.layer with decided := [(u, sl, 0)] } }
def failing (lay : Bool) : State := { at2 with quads := [(5, { failRun := [(5, 4)], layered := lay, spareReady := !lay })] }

theorem witness_Layering_1 :
    (1 < 4 ∧ 1 < 4 ∧ (decided 513 5).dev = DevMode.run ∧ (decided 513 5).asleep = false ∧ ((decided 513 5).quad (4 * 1 + 1)).spareReady = true ∧
     ((decided 513 5).quad (4 * 1 + 1)).layered = false ∧ ((decided 513 5).quad (4 * 1 + 1)).pending = none ∧
     (List.find? (fun d => d.fst == 256 * (1 + 1) + 1) (decided 513 5).layer.decided = some (256 * (1 + 1) + 1, 5, 0)) ∧
     List.find? (fun j => ((decided 513 5).quad (4 * 1 + 1)).serving j == 5) (List.range 16) = some 5) ∧
    (4 ≤ 1 ∨ 4 ≤ 1 ∨ at2.dev ≠ DevMode.run ∨ at2.asleep = true ∨ (at2.quad (4 * 1 + 1)).spareReady = false ∨ (at2.quad (4 * 1 + 1)).layered = true ∨ (at2.quad (4 * 1 + 1)).pending ≠ none ∨ ∀ (d : Nat × Nat × Time), d ∈ at2.layer.decided → d.fst ≠ 256 * (1 + 1) + 1) ∧
    (4 ≤ 1 ∨ 4 ≤ 1 ∨ (failing true).dev ≠ DevMode.run ∨ (failing true).asleep = true ∨ ((failing true).quad (4 * 1 + 1)).spareReady = false ∨ ((failing true).quad (4 * 1 + 1)).layered = true ∨ ((failing true).quad (4 * 1 + 1)).pending ≠ none ∨ ∀ (d : Nat × Nat × Time), d ∈ (failing true).layer.decided → d.fst ≠ 256 * (1 + 1) + 1) ∧
    (1 < 4 ∧ 1 < 4 ∧ ((failing false).quad (4 * 1 + 1)).failed = false ∧ ((failing false).quad (4 * 1 + 1)).pending = none ∧
     4 ≤ tget (fun _ => 0) ((failing false).quad (4 * 1 + 1)).failRun 5 ∧ (failing false).fault.stop = false ∧
     ((failing false).quad (4 * 1 + 1)).spareReady = true ∧ ((failing false).quad (4 * 1 + 1)).layered = false ∧ (failing false).dev = DevMode.run ∧
     List.find? (fun j => ((failing false).quad (4 * 1 + 1)).serving j == 5) (List.range 16) = some 5) ∧
    (1 < 4 ∧ 1 < 4 ∧ ((failing true).quad (4 * 1 + 1)).failed = false ∧ ((failing true).quad (4 * 1 + 1)).pending = none ∧
     4 ≤ tget (fun _ => 0) ((failing true).quad (4 * 1 + 1)).failRun 5 ∧ (failing true).fault.stop = false ∧
     (((failing true).quad (4 * 1 + 1)).spareReady = false ∨ ((failing true).quad (4 * 1 + 1)).layered = true) ∧
     ((failing true).dev = DevMode.run ∨ (failing true).dev = DevMode.faulted)) ∧
    ((4 ≤ 1 ∨ 4 ≤ 1 ∨ (at2.quad (4 * 1 + 1)).failed = true ∨ (at2.quad (4 * 1 + 1)).pending ≠ none ∨ tget (fun _ => 0) (at2.quad (4 * 1 + 1)).failRun 5 < 4) ∧
     at2.fault.stop = false) ∧
    (3 < 16 ∧ (decided 1795 7).dev = DevMode.run ∧ (decided 1795 7).farmRuns = true ∧ ((decided 1795 7).cluster 3).spareReady = true ∧
     ((decided 1795 7).cluster 3).layered = false ∧ ((decided 1795 7).cluster 3).empty = false ∧
     (List.find? (fun d => d.fst == 1792 + 3) (decided 1795 7).layer.decided = some (1792 + 3, 7, 0))) ∧
    (16 ≤ 3 ∨ at2.dev ≠ DevMode.run ∨ at2.farmRuns = false ∨ (at2.cluster 3).spareReady = false ∨ (at2.cluster 3).layered = true ∨ (at2.cluster 3).empty = true ∨ ∀ (d : Nat × Nat × Time), d ∈ at2.layer.decided → d.fst ≠ 1792 + 3) :=
  ⟨by decide +kernel, by decide +kernel, by decide +kernel, ⟨by decide +kernel, by decide +kernel⟩, by decide +kernel, by decide +kernel, by decide +kernel, by decide +kernel⟩

def laneWorn : State := { decided 0x0A01 6 with tail := { at2.tail with lanes := [(6, { st := 3, group := 1, slot := 2 }), (16, { st := 4, group := 6 })] } }
def pairWorn : State := { decided 0x0B00 18 with tail := { at2.tail with lanes := (pairLanes 4 true).map (fun l => (l, { st := 4, group := 4 })) } }
def phasesUsed : State := { at2 with gov := { at2.gov with phases := [(2, [2, 3])] } }
def mapIsDue : State := { at2 with layer := { at2.layer with mapDue := some 5 } }
def toFlash : State := { at2 with fault := { at2.fault with toFlash := [{ seq := 5 }, { seq := 6 }], flash := List.replicate 7 { seq := 1 } } }
def gone : State := { toFlash with gov := { at2.gov with off := true } }

theorem witness_Layering_2 :
    (1 < 4 ∧ laneWorn.dev = DevMode.run ∧ laneWorn.tailRuns = true ∧
     (List.find? (fun d => d.fst == 2560 + 1) laneWorn.layer.decided = some (2560 + 1, 6, 0)) ∧ laneWorn.readyLane = some 16 ∧ 16 ≠ 6) ∧
    ((4 = 4 ∨ 4 = 5) ∧ pairWorn.dev = DevMode.run ∧ pairWorn.tailRuns = true ∧ (pairWorn.link 4).spareIn = false ∧
     (∀ (m : Nat), m ∈ pairLanes 4 true → (pairWorn.lane m).st = 4) ∧
     (List.find? (fun d => d.fst == 2816 + (4 - 4)) pairWorn.layer.decided = some (2816 + (4 - 4), 18, 0))) ∧
    ((6 ≤ 1 ∨ at2.dev ≠ DevMode.run ∨ at2.tailRuns = false ∨ (∀ (d : Nat × Nat × Time), d ∈ at2.layer.decided → d.fst ≠ linkUnit 1) ∨ 1 < 4 ∧
     at2.readyLane = none ∨ 4 ≤ 1 ∧ (at2.link 1).spareIn = true)) ∧
    (2 < 6 ∧ 1 ∈ (decided 2306 1).inService (2304 + 2) ∧ (decided 2306 1).gov.off = false ∧ (decided 2306 1).fault.stop = false ∧
     ((decided 2306 1).retiredPhases 2).length < 2 ∧ (decided 2306 1).dev = DevMode.run) ∧
    (2 < 6 ∧ 1 ∈ (decided 2306 1).inService (2304 + 2) ∧ (decided 2306 1).gov.off = false ∧ (decided 2306 1).fault.stop = false ∧
     ((decided 2306 1).retiredPhases 2).length < 2 ∧ (decided 2306 1).dev = DevMode.run ∧
     ((decided 2306 1).layer.decided.any fun d => d.fst == 2304 + 2 && d.snd.fst == 1) = true) ∧
    (2 < 6 ∧ 1 ∈ phasesUsed.inService (2304 + 2) ∧ phasesUsed.gov.off = false ∧ phasesUsed.fault.stop = false ∧
     2 ≤ (phasesUsed.retiredPhases 2).length ∧ (phasesUsed.dev = DevMode.run ∨ phasesUsed.dev = DevMode.faulted)) ∧
    (phasesUsed.fault.stop = false ∧ (6 ≤ 2 ∨ ¬1 ∈ phasesUsed.inService (2304 + 2) ∨ phasesUsed.gov.off = true ∨ false = false ∧
     (2 ≤ (phasesUsed.retiredPhases 2).length ∨ phasesUsed.dev ≠ DevMode.run))) ∧
    ((mapIsDue.layer.mapDue ≠ none ∨ mapIsDue.layer.flash.time + hours 1 ≤ mapIsDue.wearTime) ∧ mapIsDue.gov.off = false) ∧
    ((at2.layer.mapDue = none ∧ at2.wearTime < at2.layer.flash.time + hours 1 ∨ at2.gov.off = true)) ∧
    toFlash.gov.off = false ∧
    gone.gov.off = true :=
  ⟨by decide +kernel, by decide +kernel, by decide +kernel, by decide +kernel, by decide +kernel, by decide +kernel, by decide +kernel, by decide +kernel, by decide +kernel, by decide +kernel, by decide +kernel⟩

/-! ### Witnesses: supply, start-up, power states -/

def gov (f : GovSt → GovSt) : State := { at2 with gov := f at2.gov }
def warned : State := gov (fun g => { g with vinLow := true, closedBy := 4 })
def noSupply : State := gov (fun g => { g with off := true, rails := [] })
def shutDown : State := gov (fun g => { g with off := true, rails := [], shutdown := 2, winSince := some 5 })
def groupDown : State := gov (fun g => { g with off := true, rails := [], winSince := some 5, retryAt := some 9 })
def starting (n : Nat) : State := gov (fun g => { g with off := true, rails := railOrder.take n, seqAt := some 5 })
def startsNow : State := gov (fun g => { g with off := true, rails := [], seqAt := some at2.clk.now })
def booting (n : Nat) : State := { at2 with dev := .boot, gov := { at2.gov with boot := n } }
def inReset : State := { booting 0 with gov := { at2.gov with boot := 0, resetHeld := true } }
def tooHot (n : Nat) : State := gov (fun g => { g with hot := [n] })
def bootCodes : BootIn := { codes := [List.replicate 16 0, List.replicate 16 0] }

theorem witness_Protection_1 :
    (0 < 2 ∧ at2.gov.off = false ∧ bit at2.gov.closedBy 2 = false ∧ at2.fault.stop = false) ∧
    (1 < 2 ∧ at2.gov.off = false ∧ bit at2.gov.closedBy 2 = false ∧ at2.fault.stop = false) :=
  ⟨by decide +kernel, by decide +kernel⟩

theorem witness_Protection_2 :
    0 < 2 ∧ warned.gov.off = false ∧ (0 = 0 → warned.gov.vinHigh = false) ∧ (0 = 1 → warned.gov.vinLow = false) ∧ warned.fault.stop = false := by decide +kernel

theorem witness_Protection_3 :
    (((2, 2) ∈ [(2, 2), (3, 1), (4, 3)]) ∧ at2.gov.off = false) ∧
    (((3, 1) ∈ [(2, 2), (3, 1), (4, 3)]) ∧ at2.gov.off = false) ∧
    (((4, 3) ∈ [(2, 2), (3, 1), (4, 3)]) ∧ at2.gov.off = false) :=
  ⟨by decide +kernel, by decide +kernel, by decide +kernel⟩

theorem witness_Protection_4 :
    (3 = 2 ∨ 3 = 3 ∨ 3 = 4) ∧ noSupply.gov.off = true ∧ noSupply.gov.rails = [] ∧ noSupply.fault.stop = false := by decide +kernel

theorem witness_Protection_5 :
    at2.gov.off = false ∧ at2.fault.stop = false := by decide +kernel

theorem witness_Protection_6 :
    (0 < 12 ∧ at2.gov.off = false ∧ ((if 0 = 0 then 900 else 1200) ≤ 900) ∧ (900 < if 0 = 0 then 950 else 1250) ∧ (¬0 ∈ at2.gov.hot) ∧
     (at2.dev = DevMode.run ∨ at2.dev = DevMode.faulted)) ∧
    (11 < 12 ∧ at2.gov.off = false ∧ ((if 11 = 0 then 900 else 1200) ≤ 1249) ∧ (1249 < if 11 = 0 then 950 else 1250) ∧ (¬11 ∈ at2.gov.hot) ∧
     (at2.dev = DevMode.run ∨ at2.dev = DevMode.faulted)) ∧
    (3 < 12 ∧ (tooHot 3).gov.off = false ∧ ((if 3 = 0 then 900 else 1200) ≤ 1200) ∧ (1200 < if 3 = 0 then 950 else 1250) ∧ 3 ∈ (tooHot 3).gov.hot ∧
     (tooHot 3).fault.stop = false) ∧
    (0 < 12 ∧ (tooHot 0).gov.off = false ∧ ((if 0 = 0 then 900 else 1200) ≤ 949) ∧ (949 < if 0 = 0 then 950 else 1250) ∧ 0 ∈ (tooHot 0).gov.hot ∧
     (tooHot 0).fault.stop = false) ∧
    (3 < 12 ∧ (tooHot 3).gov.off = false ∧ (1149 < if 3 = 0 then 850 else 1150) ∧ (tooHot 3).fault.stop = false) ∧
    (0 < 12 ∧ (tooHot 0).gov.off = false ∧ (849 < if 0 = 0 then 850 else 1150) ∧ (tooHot 0).fault.stop = false) ∧
    (0 < 12 ∧ at2.gov.off = false ∧ ((if 0 = 0 then 950 else 1250) ≤ 950)) ∧
    (11 < 12 ∧ at2.gov.off = false ∧ ((if 11 = 0 then 950 else 1250) ≤ 1250)) :=
  ⟨by decide +kernel, by decide +kernel, by decide +kernel, by decide +kernel, by decide +kernel, by decide +kernel, by decide +kernel, by decide +kernel⟩

theorem witness_Protection_7 :
    5 < 6 ∧ 5 ∈ at2.gov.rails ∧ at2.gov.seqAt = none ∧ at2.gov.off = false := by decide +kernel

theorem witness_Protection_8 :
    ((6 ≤ 5 ∨ ¬5 ∈ noSupply.gov.rails ∨ noSupply.gov.seqAt ≠ none) ∧ noSupply.fault.stop = false) ∧
    ((6 ≤ 6 ∨ ¬6 ∈ at2.gov.rails ∨ at2.gov.seqAt ≠ none) ∧ at2.fault.stop = false) ∧
    ((6 ≤ 0 ∨ ¬0 ∈ (starting 6).gov.rails ∨ (starting 6).gov.seqAt ≠ none) ∧ (starting 6).fault.stop = false) :=
  ⟨by decide +kernel, by decide +kernel, by decide +kernel⟩

theorem witness_StartUp_1 :
    noSupply.gov.off = true ∧ noSupply.gov.seqAt = none ∧ noSupply.gov.cause = 0 ∧ noSupply.gov.retryAt = none := by decide +kernel

theorem witness_StartUp_2 :
    at2.gov.off = false := by decide +kernel

theorem witness_StartUp_3 :
    (shutDown.gov.off = true ∧ shutDown.gov.seqAt = none ∧ shutDown.gov.restartDue = some (shutDown.gov.restartDue.getD 0) ∧
     shutDown.gov.restartDue.getD 0 ≤ shutDown.clk.now ∧ shutDown.gov.spent = false ∧
     (shutDown.gov.recent (shutDown.gov.restartDue.getD 0)).length < 3) ∧
    (groupDown.gov.off = true ∧ groupDown.gov.seqAt = none ∧ groupDown.gov.restartDue = some (groupDown.gov.restartDue.getD 0) ∧
     groupDown.gov.restartDue.getD 0 ≤ groupDown.clk.now ∧ groupDown.gov.spent = false ∧
     (groupDown.gov.recent (groupDown.gov.restartDue.getD 0)).length < 3) :=
  ⟨by decide +kernel, by decide +kernel⟩

theorem witness_StartUp_4 :
    ((noSupply.gov.off = false ∨ noSupply.gov.seqAt ≠ none ∨ noSupply.gov.restartDue = none ∨ noSupply.gov.spent = true ∨ ∃ d, noSupply.gov.restartDue = some d ∧
     (noSupply.clk.now < d ∨ 3 ≤ (noSupply.gov.recent d).length))) ∧
    ((at2.gov.off = false ∨ at2.gov.seqAt ≠ none ∨ at2.gov.restartDue = none ∨ at2.gov.spent = true ∨ ∃ d, at2.gov.restartDue = some d ∧
     (at2.clk.now < d ∨ 3 ≤ (at2.gov.recent d).length))) :=
  ⟨by decide +kernel, by decide +kernel⟩

theorem witness_StartUp_5 :
    shutDown.gov.winSince = some 5 ∧
    groupDown.gov.winSince = some 5 :=
  ⟨by decide +kernel, by decide +kernel⟩

theorem witness_StartUp_6 :
    shutDown.gov.off = true ∧ shutDown.gov.seqAt = none ∧ shutDown.gov.rails = [] ∧ shutDown.fault.stop = false := by decide +kernel

theorem witness_StartUp_7 :
    ((starting 0).gov.seqAt = some 5 ∧
     5 + ms 10 + ((starting 0).gov.rails.length + (starting 0).gov.railsBad.length) * 200000000 ≤ (starting 0).clk.now ∧
     railOrder[(starting 0).gov.rails.length + (starting 0).gov.railsBad.length]? = some 5) ∧
    ((starting 5).gov.seqAt = some 5 ∧
     5 + ms 10 + ((starting 5).gov.rails.length + (starting 5).gov.railsBad.length) * 200000000 ≤ (starting 5).clk.now ∧
     railOrder[(starting 5).gov.rails.length + (starting 5).gov.railsBad.length]? = some 4) :=
  ⟨by decide +kernel, by decide +kernel⟩

theorem witness_StartUp_8 :
    startsNow.gov.seqAt = some startsNow.clk.now ∧
    startsNow.clk.now < startsNow.clk.now + ms 10 + (startsNow.gov.rails.length + startsNow.gov.railsBad.length) * 200000000 := by decide +kernel

theorem witness_StartUp_9 :
    (starting 6).gov.seqAt = some 5 ∧ (starting 6).gov.rails.length + (starting 6).gov.railsBad.length = 6 ∧ 5 + ms 25 ≤ (starting 6).clk.now := by decide +kernel

theorem witness_StartUp_10 :
    ((starting 1).gov.seqAt = some 5 ∧ (starting 1).gov.rails.getLast? = some 5) ∧
    ((starting 2).gov.seqAt = some 5 ∧ (starting 2).gov.rails.getLast? = some ((starting 2).gov.rails.getLast?.getD 0)) :=
  ⟨by decide +kernel, by decide +kernel⟩

theorem witness_StartUp_11 :
    at2.gov.seqAt = none := by decide +kernel

theorem witness_StartUp_12 :
    1000 ≤ 1000 ∧ at2.gov.off = false := by decide +kernel

theorem witness_StartUp_13 :
    40 ≤ 40 := by decide +kernel

theorem witness_StartUp_14 :
    inReset.gov.resetHeld = true ∧ inReset.gov.off = false := by decide +kernel

theorem witness_StartUp_15 :
    at2.gov.resetHeld = false := by decide +kernel

theorem witness_StartUp_16 :
    (booting 1).dev = DevMode.boot ∧ (booting 1).gov.boot = 1 ∧ (booting 1).upd.sel.trial = false ∧ (booting 1).upd.sel.candidate = none ∧
    ((booting 1).bank (booting 1).upd.sel.active).startable = true := by decide +kernel

theorem witness_StartUp_17 :
    ((∀ (m : Nat) (c : List Int), m < 2 → ({} : BootIn).codes[m]? = some c → c.length = 16 → (∀ (o : Int), o ∈ (MonConv.calibrate c ((booting 2).conv m)).offsets → o.natAbs ≤ 64) ∧
     (MonConv.calibrate c ((booting 2).conv m)).corr.natAbs ≤ 2000) ∧ (booting 2).dev = DevMode.boot ∧ (booting 2).gov.boot = 2 ∧
     (booting 2).gov.railsBad = [] ∧ (booting 2).fault.stop = false ∧ (booting 2).fan.tb ≠ 4 ∧ ({} : BootIn).fails = [] ∧ ({} : BootIn).late = none) ∧
    ((∀ (m : Nat) (c : List Int), m < 2 → bootCodes.codes[m]? = some c → c.length = 16 → (∀ (o : Int), o ∈ (MonConv.calibrate c ((booting 2).conv m)).offsets → o.natAbs ≤ 64) ∧
     (MonConv.calibrate c ((booting 2).conv m)).corr.natAbs ≤ 2000) ∧ (booting 2).dev = DevMode.boot ∧ (booting 2).gov.boot = 2 ∧
     (booting 2).gov.railsBad = [] ∧ (booting 2).fault.stop = false ∧ (booting 2).fan.tb ≠ 4 ∧ bootCodes.fails = [] ∧ bootCodes.late = none) :=
  ⟨⟨(by intro m c hm hc; cases hc), by decide +kernel⟩, ⟨(by
    intro m c hm hc hl
    have : c = List.replicate 16 0 := by
      match m, hm with
      | 0, _ => exact (Option.some.inj hc).symm
      | 1, _ => exact (Option.some.inj hc).symm
    subst this
    revert m
    decide +kernel), by decide +kernel⟩⟩

def idle : State := gov (fun g => { g with power := 1, idleSince := some 5 })
def dozeSoon : State := idle.wr O.DOZE_AFTER 5
def dozed : State := gov (fun g => { g with power := 2 })
def dozeEnds : State := gov (fun g => { g with power := 2, rails := [1, 2, 3, 4, 5], dozeEnd := some 5 })
def busy : State := { idle with plans := [(0, { st := 1, cfg := {} })] }
def wayDown : State := { at2 with dev := .sleep, gov := { at2.gov with downAt := some 5 } }
def wokenDown : State := { wayDown with gov := { at2.gov with downAt := some 5, latched := 2 } }
def asleep : State := { at2 with dev := .sleep, gov := { at2.gov with power := 3, rails := [2] } }
def waking : State := { asleep with gov := { asleep.gov with wakeAt := some 5 } }
def wakesNow : State := { asleep with gov := { asleep.gov with wakeAt := some at2.clk.now } }
def wakesFaulted : State := { waking with fault := { at2.fault with cause := some 5 } }

theorem witness_PowerStates_1 :
    (Admitted dozed Path.sdo O.DOZE_NOW 1 ∧ dozed.gov.power = 2) ∧
    (Admitted busy Path.sdo O.DOZE_NOW 1 ∧ busy.gov.power ≠ 2 ∧ busy.mayDoze = false) ∧
    (Admitted idle Path.sdo O.DOZE_NOW 1 ∧ idle.gov.power ≠ 2 ∧ idle.mayDoze = true) :=
  ⟨⟨adm_of (by decide +kernel), by decide +kernel⟩, ⟨adm_of (by decide +kernel), by decide +kernel⟩, ⟨adm_of (by decide +kernel), by decide +kernel⟩⟩

theorem witness_PowerStates_2 :
    dozeSoon.gov.idleSince = some 5 ∧ dozeSoon.rdN O.DOZE_AFTER ≠ 0 ∧ dozeSoon.gov.power = 1 ∧ 5 + sec (dozeSoon.rdN O.DOZE_AFTER) ≤ dozeSoon.clk.now ∧
    dozeSoon.mayDoze = true := by decide +kernel

theorem witness_PowerStates_3 :
    (idle.gov.idleSince = none ∨ idle.rdN O.DOZE_AFTER = 0 ∨ idle.gov.power ≠ 1 ∨ idle.mayDoze = false) := by decide +kernel

theorem witness_PowerStates_4 :
    dozeEnds.gov.dozeEnd = some 5 ∧ dozeEnds.gov.power = 2 ∧ dozeEnds.dev ≠ DevMode.sleep ∧ (dozeEnds.loop 0).lostAt = none ∧
    (dozeEnds.loop 1).lostAt = none := by decide +kernel

theorem witness_PowerStates_5 :
    (at2.gov.dozeEnd = none ∨ at2.gov.power ≠ 2 ∨ at2.dev = DevMode.sleep) := by decide +kernel

theorem witness_PowerStates_6 :
    (wayDown.gov.downAt = some 5 ∧ wayDown.dev = DevMode.sleep ∧ wayDown.gov.power ≠ 3 ∧ wayDown.stopped 3 = false ∧ wayDown.layeringHeld = false ∧
     wayDown.pond.copy = none) ∧
    (wokenDown.gov.downAt = some 5 ∧ wokenDown.dev = DevMode.sleep ∧ wokenDown.gov.power ≠ 3 ∧ wokenDown.stopped 3 = false ∧
     wokenDown.layeringHeld = false ∧ wokenDown.pond.copy = none) :=
  ⟨by decide +kernel, by decide +kernel⟩

theorem witness_PowerStates_7 :
    (at2.gov.downAt = none ∨ at2.dev ≠ DevMode.sleep ∨ at2.gov.power = 3 ∨ at2.stopped 3 = true ∨ at2.layeringHeld = true) := by decide +kernel

theorem witness_PowerStates_8 :
    (200 ≤ 200 ∧ asleep.dev = DevMode.sleep ∧ asleep.gov.wakeAt = none) ∧
    (200 ≤ 200 ∧ wayDown.dev = DevMode.sleep ∧ wayDown.gov.wakeAt = none) :=
  ⟨by decide +kernel, by decide +kernel⟩

theorem witness_PowerStates_9 :
    (40 ≤ 40 ∨ asleep.dev ≠ DevMode.sleep) ∧
    (500 ≤ 40 ∨ at2.dev ≠ DevMode.sleep) :=
  ⟨by decide +kernel, by decide +kernel⟩

theorem witness_PowerStates_10 :
    asleep.dev = DevMode.sleep ∧ asleep.gov.wakeAt = none ∧ asleep.gov.power = 3 := by decide +kernel

theorem witness_PowerStates_11 :
    at2.dev ≠ DevMode.sleep := by decide +kernel

theorem witness_PowerStates_12 :
    (waking.gov.wakeAt = some 5 ∧ waking.dev = DevMode.sleep ∧ waking.fan.tb ≠ 4) ∧
    (wakesFaulted.gov.wakeAt = some 5 ∧ wakesFaulted.dev = DevMode.sleep ∧ wakesFaulted.fan.tb ≠ 4) ∧
    (waking.gov.wakeAt = some 5 ∧ waking.dev = DevMode.sleep ∧ 5 + ms 30 ≤ waking.clk.now) ∧
    (wakesNow.gov.wakeAt = some wakesNow.clk.now ∧ wakesNow.dev = DevMode.sleep ∧ wakesNow.clk.now < wakesNow.clk.now + ms 30 ∧
     wakesNow.fault.stop = false) :=
  ⟨by decide +kernel, by decide +kernel, by decide +kernel, by decide +kernel⟩

theorem witness_PowerStates_13 :
    (at2.gov.wakeAt = none ∨ at2.dev ≠ DevMode.sleep ∨ at2.fan.tb = 4) := by decide +kernel

def capped : State := (at2.wr O.POWER_CAP 50).wr O.LID_LIMIT 80
def cappedAt (f : GovSt → GovSt) : State := { capped with gov := f capped.gov }
def stepped : State := cappedAt (fun g => { g with step := 4, goodSince := some 5 })
def atFloor : State := cappedAt (fun g => { g with step := 11, overSince := some 5 })
def justStepped : State := cappedAt (fun g => { g with step := 4, stepped := true })
def steadyNow : State := cappedAt (fun g => { g with step := 4, goodSince := some capped.clk.now })
def parkable : State := cappedAt (fun g => { g with step := 3 })
def doubted (d : Time) : State := { capped with mon := { capped.mon with distrust := some d } }
def govA : Nat := 501
def govB : Nat := 100

theorem witness_GovernorSteps_1 :
    ((booting 1).clk.now < (booting 1).gov.evalAt + ms 10 ∨ (booting 1).dev = DevMode.boot ∨ (booting 1).gov.off = true ∨ (booting 1).gov.power = 3) := by decide +kernel

theorem witness_GovernorSteps_2 :
    (justStepped.gov.evalAt + ms 10 ≤ justStepped.clk.now ∧ justStepped.dev ≠ DevMode.boot ∧ justStepped.gov.off = false ∧ justStepped.gov.power ≠ 3 ∧
     justStepped.mon.distrust = none ∧ justStepped.gov.stepped = true) ∧
    (capped.gov.evalAt + ms 10 ≤ capped.clk.now ∧ capped.dev ≠ DevMode.boot ∧ capped.gov.off = false ∧ capped.gov.power ≠ 3 ∧
     capped.mon.distrust = none ∧ capped.gov.stepped = false ∧ capped.gov.step < 11 ∧
     (10 * capped.rdN O.POWER_CAP < govA ∨ 10 * capped.rd O.LID_LIMIT < capped.temperature 0 ∨ capped.gov.step < capped.topStep)) ∧
    (parkable.gov.evalAt + ms 10 ≤ parkable.clk.now ∧ parkable.dev ≠ DevMode.boot ∧ parkable.gov.off = false ∧ parkable.gov.power ≠ 3 ∧
     parkable.mon.distrust = none ∧ parkable.gov.stepped = false ∧ parkable.gov.step < 11 ∧
     (10 * parkable.rdN O.POWER_CAP < govA ∨ 10 * parkable.rd O.LID_LIMIT < parkable.temperature 0 ∨ parkable.gov.step < parkable.topStep)) ∧
    (steadyNow.gov.evalAt + ms 10 ≤ steadyNow.clk.now ∧ steadyNow.dev ≠ DevMode.boot ∧ steadyNow.gov.off = false ∧ steadyNow.gov.power ≠ 3 ∧
     steadyNow.mon.distrust = none ∧ steadyNow.gov.stepped = false ∧ govB ≤ 10 * steadyNow.rdN O.POWER_CAP ∧
     steadyNow.temperature 0 ≤ 10 * steadyNow.rd O.LID_LIMIT ∧ steadyNow.topStep ≤ steadyNow.gov.step ∧
     (∀ (since : Time), steadyNow.gov.goodSince = some since → steadyNow.clk.now < since + sec 1)) ∧
    (atFloor.gov.evalAt + ms 10 ≤ atFloor.clk.now ∧ atFloor.dev ≠ DevMode.boot ∧ atFloor.gov.off = false ∧ atFloor.gov.power ≠ 3 ∧
     atFloor.mon.distrust = none ∧ atFloor.gov.step = 11 ∧ atFloor.gov.overSince = some 5 ∧ 5 + ms 100 ≤ atFloor.clk.now ∧
     bit atFloor.gov.closedBy 1 = false ∧ 10 * atFloor.rdN O.POWER_CAP < govA) ∧
    (stepped.gov.evalAt + ms 10 ≤ stepped.clk.now ∧ stepped.dev ≠ DevMode.boot ∧ stepped.gov.off = false ∧ stepped.gov.power ≠ 3 ∧
     stepped.mon.distrust = none ∧ stepped.gov.stepped = false ∧ stepped.gov.goodSince = some 5 ∧ 5 + sec 1 ≤ stepped.clk.now ∧
     govB + 80 ≤ 10 * stepped.rdN O.POWER_CAP ∧ stepped.temperature 0 + 30 ≤ 10 * stepped.rd O.LID_LIMIT ∧ stepped.topStep < stepped.gov.step ∧
     stepped.roomAbove govB (stepped.railPower 4) = true) ∧
    ((doubted capped.clk.now).gov.evalAt + ms 10 ≤ (doubted capped.clk.now).clk.now ∧ (doubted capped.clk.now).dev ≠ DevMode.boot ∧
     (doubted capped.clk.now).gov.off = false ∧ (doubted capped.clk.now).gov.power ≠ 3 ∧
     (doubted capped.clk.now).mon.distrust = some (doubted capped.clk.now).clk.now ∧
     (doubted capped.clk.now).clk.now < (doubted capped.clk.now).clk.now + sec 1) ∧
    ((doubted 5).gov.evalAt + ms 10 ≤ (doubted 5).clk.now ∧ (doubted 5).dev ≠ DevMode.boot ∧ (doubted 5).gov.off = false ∧ (doubted 5).gov.power ≠ 3 ∧
     (doubted 5).mon.distrust = some 5 ∧ 5 + sec 1 ≤ (doubted 5).clk.now ∧ (doubted 5).gov.step < 11 ∧ bit (doubted 5).gov.closedBy 4 = false) :=
  ⟨by decide +kernel, by decide +kernel, by decide +kernel, ⟨by decide +kernel, by decide +kernel⟩, ⟨by decide +kernel, by decide +kernel⟩, ⟨by decide +kernel, by decide +kernel, by decide +kernel, by decide +kernel⟩, by decide +kernel, by decide +kernel⟩

/-! ### Witnesses: event timer, monitors -/

def tim (f : TimerSt → TimerSt) : State := { at2.wr O.TIMER_MODE 1 with timer := f at2.timer }
def running : State := tim id
def pairOf (isStart : Bool) : OpenPair := { isStart := isStart, k := 500, f := 3, ref := false, changes := 0 }
def paired (isStart : Bool) : State := tim (fun t => { t with pair := some (pairOf isStart) })
def pairRef : OpenPair := { pairOf true with ref := true }
def pairedRef : State := tim (fun t => { t with pair := some pairRef })
def pairedFull : State := tim (fun t => { t with pair := some (pairOf true), queue := List.replicate 16 { seq := 4 } })
def rearming : State := tim (fun t => { t with rearm := some 9999999 })
def queued : State := tim (fun t => { t with rearm := some 5, queue := [{ seq := 4 }, { seq := 5 }] })
def limited (b : Bool) : State := (paired b).wr O.PAIR_LIMIT 100
def justOver : State := { (paired false).wr O.PAIR_LIMIT 1 with clk := { r.clk with now := 502 * 200 } }
def rearmLater : State := tim (fun t => { t with rearm := some (4096 * at2.coarse + 1) })
def timerOut : State := { queued with fan := { queued.fan with loops := [(6, { dead := true })] } }
def tabled : State := { at2 with timer := { at2.timer with gen := 1, gens := [(1, [4, 5, 6], [7, 8, 9])] } }
def genGone : State := tabled.wr (win .od O.TT_GEN) 7

theorem witness_EventTimer_1 :
    (5 < 4096 ∧ rearming.rd O.TIMER_MODE ≠ 0 ∧ rearming.timerRuns = true ∧ (rearming.rdBit O.EDGE_SELECT (if true = true then 0 else 1) = false) ∧
     (∀ (o : OpenPair), rearming.timer.pair = some o → rearming.rdN O.PAIR_LIMIT = 0 ∨ 1000 - 1 < o.k + rearming.rdN O.PAIR_LIMIT) ∧
     rearming.timer.rearm = some 9999999 ∧ 4096 * 1000 - 5 < 9999999) ∧
    (5 < 4096 ∧ running.rd O.TIMER_MODE ≠ 0 ∧ running.timerRuns = true ∧ (running.rdBit O.EDGE_SELECT (if true = true then 0 else 1) = false) ∧
     (∀ (o : OpenPair), running.timer.pair = some o → running.rdN O.PAIR_LIMIT = 0 ∨ 1000 - 1 < o.k + running.rdN O.PAIR_LIMIT) ∧
     (∀ (r : Nat), running.timer.rearm = some r → r ≤ 4096 * 1000 - 5) ∧ running.timer.pair = none) ∧
    (5 < 4096 ∧ queued.rd O.TIMER_MODE ≠ 0 ∧ queued.timerRuns = true ∧ (queued.rdBit O.EDGE_SELECT (if false = true then 0 else 1) = false) ∧
     (∀ (o : OpenPair), queued.timer.pair = some o → queued.rdN O.PAIR_LIMIT = 0 ∨ 1000 - 1 < o.k + queued.rdN O.PAIR_LIMIT) ∧
     (∀ (r : Nat), queued.timer.rearm = some r → r ≤ 4096 * 1000 - 5) ∧ queued.timer.pair = none) ∧
    (5 < 4096 ∧ (paired true).rd O.TIMER_MODE ≠ 0 ∧ (paired true).timerRuns = true ∧
     ((paired true).rdBit O.EDGE_SELECT (if true = true then 0 else 1) = false) ∧
     (∀ (o : OpenPair), (paired true).timer.pair = some o → (paired true).rdN O.PAIR_LIMIT = 0 ∨ 1000 - 1 < o.k + (paired true).rdN O.PAIR_LIMIT) ∧
     (∀ (r : Nat), (paired true).timer.rearm = some r → r ≤ 4096 * 1000 - 5) ∧ (paired true).timer.pair = some (pairOf true) ∧
     (pairOf true).isStart = true) ∧
    (5 < 4096 ∧ (limited false).rd O.TIMER_MODE ≠ 0 ∧ (limited false).timerRuns = true ∧
     ((limited false).rdBit O.EDGE_SELECT (if false = true then 0 else 1) = false) ∧
     (∀ (o : OpenPair), (limited false).timer.pair = some o → (limited false).rdN O.PAIR_LIMIT = 0 ∨ 600 - 1 < o.k + (limited false).rdN O.PAIR_LIMIT) ∧
     (∀ (r : Nat), (limited false).timer.rearm = some r → r ≤ 4096 * 600 - 5) ∧ (limited false).timer.pair = some (pairOf false) ∧
     (pairOf false).isStart = false) ∧
    (5 < 4096 ∧ (paired true).rd O.TIMER_MODE ≠ 0 ∧ (paired true).timerRuns = true ∧
     ((paired true).rdBit O.EDGE_SELECT (if false = true then 0 else 1) = false) ∧
     (∀ (o : OpenPair), (paired true).timer.pair = some o → (paired true).rdN O.PAIR_LIMIT = 0 ∨ 1000 - 1 < o.k + (paired true).rdN O.PAIR_LIMIT) ∧
     (∀ (r : Nat), (paired true).timer.rearm = some r → r ≤ 4096 * 1000 - 5) ∧ (paired true).timer.pair = some (pairOf true) ∧
     (pairOf true).isStart ≠ false) ∧
    (5 < 4096 ∧ (paired false).rd O.TIMER_MODE ≠ 0 ∧ (paired false).timerRuns = true ∧
     ((paired false).rdBit O.EDGE_SELECT (if true = true then 0 else 1) = false) ∧
     (∀ (o : OpenPair), (paired false).timer.pair = some o → (paired false).rdN O.PAIR_LIMIT = 0 ∨ 1000 - 1 < o.k + (paired false).rdN O.PAIR_LIMIT) ∧
     (∀ (r : Nat), (paired false).timer.rearm = some r → r ≤ 4096 * 1000 - 5) ∧ (paired false).timer.pair = some (pairOf false) ∧
     (pairOf false).isStart ≠ true) ∧
    (5 < 4096 ∧ pairedRef.rd O.TIMER_MODE ≠ 0 ∧ pairedRef.timerRuns = true ∧ (pairedRef.rdBit O.EDGE_SELECT (if false = true then 0 else 1) = false) ∧
     (∀ (o : OpenPair), pairedRef.timer.pair = some o → pairedRef.rdN O.PAIR_LIMIT = 0 ∨ 1000 - 1 < o.k + pairedRef.rdN O.PAIR_LIMIT) ∧
     (∀ (r : Nat), pairedRef.timer.rearm = some r → r ≤ 4096 * 1000 - 5) ∧ pairedRef.timer.pair = some pairRef ∧ pairRef.isStart ≠ false) ∧
    (5 < 4096 ∧ pairedFull.rd O.TIMER_MODE ≠ 0 ∧ pairedFull.timerRuns = true ∧
     (pairedFull.rdBit O.EDGE_SELECT (if false = true then 0 else 1) = false) ∧
     (∀ (o : OpenPair), pairedFull.timer.pair = some o → pairedFull.rdN O.PAIR_LIMIT = 0 ∨ 1000 - 1 < o.k + pairedFull.rdN O.PAIR_LIMIT) ∧
     (∀ (r : Nat), pairedFull.timer.rearm = some r → r ≤ 4096 * 1000 - 5) ∧ pairedFull.timer.pair = some (pairOf true) ∧ (pairOf true).isStart ≠ false) :=
  ⟨by decide +kernel, by decide +kernel, by decide +kernel, by decide +kernel, by decide +kernel, by decide +kernel, by decide +kernel, by decide +kernel, by decide +kernel⟩

theorem witness_EventTimer_2 :
    (at2.timer.pair = none ∧ (at2.rd O.TIMER_MODE = 0 ∨ at2.timerRuns = false ∨ at2.rdBit O.EDGE_SELECT (if true = true then 0 else 1) ≠ false)) ∧
    (running.timer.pair = none ∧
     (running.rd O.TIMER_MODE = 0 ∨ running.timerRuns = false ∨ running.rdBit O.EDGE_SELECT (if true = true then 0 else 1) ≠ true)) :=
  ⟨by decide +kernel, by decide +kernel⟩

theorem witness_EventTimer_3 :
    ((limited true).timer.pair = some (pairOf true) ∧ (limited true).rdN O.PAIR_LIMIT ≠ 0 ∧ (limited true).timerRuns = true ∧
     (pairOf true).k + (limited true).rdN O.PAIR_LIMIT ≤ (limited true).coarse) ∧
    ((limited false).timer.pair = some (pairOf false) ∧ (limited false).rdN O.PAIR_LIMIT ≠ 0 ∧ (limited false).timerRuns = true ∧
     (pairOf false).k + (limited false).rdN O.PAIR_LIMIT ≤ (limited false).coarse) ∧
    (justOver.timer.pair = some (pairOf false) ∧ justOver.rdN O.PAIR_LIMIT ≠ 0 ∧ justOver.timerRuns = true ∧
     (pairOf false).k + justOver.rdN O.PAIR_LIMIT ≤ justOver.coarse) :=
  ⟨by decide +kernel, by decide +kernel, by decide +kernel⟩

theorem witness_EventTimer_4 :
    ((paired true).timer.pair = none ∨ (paired true).rdN O.PAIR_LIMIT = 0 ∨ (paired true).timerRuns = false ∨ ∃ o, (paired true).timer.pair = some o ∧
    (paired true).coarse < o.k + (paired true).rdN O.PAIR_LIMIT) := by decide +kernel

theorem witness_EventTimer_5 :
    queued.timer.rearm = some 5 ∧ 5 ≤ 4096 * queued.coarse := by decide +kernel

theorem witness_EventTimer_6 :
    (∀ (r : Nat), rearmLater.timer.rearm = some r → 4096 * rearmLater.coarse < r) := by decide +kernel

theorem witness_EventTimer_7 :
    (Admitted timerOut Path.sdo O.TIMER_MODE 1 ∧ 1 ≠ 0 ∧ timerOut.timerDead = true) ∧
    (Admitted queued Path.sdo O.TIMER_MODE 2 ∧ (2 = 0 ∨ queued.timerDead = false)) ∧
    (Admitted (paired true) Path.od O.TIMER_MODE 2 ∧ (2 = 0 ∨ (paired true).timerDead = false)) ∧
    (Admitted timerOut Path.sdo O.TIMER_MODE 0 ∧ (0 = 0 ∨ timerOut.timerDead = false)) :=
  ⟨⟨adm_of (by decide +kernel), by decide +kernel⟩, ⟨adm_of (by decide +kernel), by decide +kernel⟩, ⟨adm_of (by decide +kernel), by decide +kernel⟩, ⟨adm_of (by decide +kernel), by decide +kernel⟩⟩

theorem witness_EventTimer_8 :
    (queued.admits Path.sdo = true ∧ queued.waits (O.STAMP_NEXT / 256 % 65536) = false ∧ (queued.timer.queue = [{ seq := 4 }, { seq := 5 }])) ∧
    (at2.admits Path.sdo = true ∧ at2.waits (O.STAMP_NEXT / 256 % 65536) = false ∧ at2.timer.queue = []) :=
  ⟨by decide +kernel, by decide +kernel⟩

theorem witness_EventTimer_9 :
    (Admitted tabled Path.od O.TT_ROW 2 ∧
     (tabled.timerTables (if tabled.rdN (win Path.od O.TT_GEN) = 0 then tabled.timer.gen else tabled.rdN (win Path.od O.TT_GEN)) = some ([4, 5, 6], [7, 8, 9]))) ∧
    (Admitted genGone Path.od O.TT_ROW 2 ∧
     (genGone.timerTables (if genGone.rdN (win Path.od O.TT_GEN) = 0 then genGone.timer.gen else genGone.rdN (win Path.od O.TT_GEN)) = none)) :=
  ⟨⟨adm_of (by decide +kernel), by decide +kernel⟩, ⟨adm_of (by decide +kernel), by decide +kernel⟩⟩

def conv (m : Nat) (c : MonConv) : State := { at2 with mon := { at2.mon with conv := [(m, c)] } }
def distrusting : State := { at2 with mon := { at2.mon with distrust := some 4 } }
def codes16 : List Int := List.replicate 16 2000
def ownNext : List (Nat × Nat × Nat) := [(3, 1, 0)]

theorem witness_Monitors_1 :
    (1 < 2 ∧ at2.monOn = true ∧ (at2.conv 1).inSequence = false) ∧
    (1 < 2 ∧ ((conv 1 { next := some ownNext, pos := 23 }).monOn = true) ∧ (((conv 1 { next := some ownNext, pos := 23 }).conv 1).inSequence = false)) :=
  ⟨by decide +kernel, by decide +kernel⟩

theorem witness_Monitors_2 :
    (2 ≤ 1 ∨ (conv 1 { seqUntil := some 5 }).monOn = false ∨ ((conv 1 { seqUntil := some 5 }).conv 1).inSequence = true) ∧
    (2 ≤ 2 ∨ at2.monOn = false ∨ (at2.conv 2).inSequence = true) :=
  ⟨by decide +kernel, by decide +kernel⟩

theorem witness_Monitors_3 :
    1 < 2 ∧ ((conv 1 { seqUntil := some 5 }).conv 1).seqUntil = some 5 ∧ codes16.length = 16 ∧ (conv 1 { seqUntil := some 5 }).monOn = true ∧
    5 ≤ (conv 1 { seqUntil := some 5 }).clk.now := by decide +kernel

theorem witness_Monitors_4 :
    ((∀ (due : Time), (at2.conv 1).seqUntil = some due → at2.clk.now < due) ∨ at2.monOn = false) ∧
    ((∀ (due : Time), ((conv 1 { seqUntil := some (sec 101) }).conv 1).seqUntil = some due → (conv 1 { seqUntil := some (sec 101) }).clk.now < due) ∨ (conv 1 { seqUntil := some (sec 101) }).monOn = false) :=
  ⟨by decide +kernel, by decide +kernel⟩

theorem witness_Monitors_5 :
    Admitted at2 Path.sdo O.MON_TEST 2 ∧
    Admitted (conv 1 { seqUntil := some (sec 101) }) Path.sdo O.MON_TEST 3 :=
  ⟨adm_of (by decide +kernel), adm_of (by decide +kernel)⟩

theorem witness_Monitors_6 :
    (at2.monOn = true ∧ at2.mon.crossAt ≤ at2.clk.now ∧ (at2.conv 0).inSequence = false ∧ (at2.conv 1).inSequence = false) ∧
    (distrusting.monOn = true ∧ distrusting.mon.crossAt ≤ distrusting.clk.now ∧ (distrusting.conv 0).inSequence = false ∧
     (distrusting.conv 1).inSequence = false) :=
  ⟨by decide +kernel, by decide +kernel⟩

theorem witness_Monitors_7 :
    ((conv 1 { seqUntil := some 5 }).monOn = false ∨ (conv 1 { seqUntil := some 5 }).clk.now < (conv 1 { seqUntil := some 5 }).mon.crossAt ∨ ((conv 1 { seqUntil := some 5 }).conv 0).inSequence = true ∨ ((conv 1 { seqUntil := some 5 }).conv 1).inSequence = true) := by decide +kernel

theorem witness_Monitors_8 :
    (Admitted at2 Path.sdo O.INJ_REQUEST 263 ∧ Int.toNat 263 % 32 ≤ 23 ∧ (at2.conv (Int.toNat 263 / 256 % 2)).inj = none) ∧
    (Admitted at2 Path.sdo O.INJ_REQUEST 24 ∧ 23 < Int.toNat 24 % 32) ∧
    ((Admitted (conv 1 { inj := some (7, 3) }) Path.sdo O.INJ_REQUEST 263) ∧ Int.toNat 263 % 32 ≤ 23 ∧
     (((conv 1 { inj := some (7, 3) }).conv (Int.toNat 263 / 256 % 2)).inj = some (7, 3))) :=
  ⟨⟨adm_of (by decide +kernel), by decide +kernel⟩, ⟨adm_of (by decide +kernel), by decide +kernel⟩, ⟨adm_of (by decide +kernel), by decide +kernel⟩⟩

theorem witness_Monitors_9 :
    1 < 2 ∧ ((conv 1 { inj := some (7, 3) }).monOn = true) ∧ (((conv 1 { inj := some (7, 3) }).conv 1).inj = some (7, 3)) ∧
    (((conv 1 { inj := some (7, 3) }).conv 1).inSequence = false ∨ ((conv 1 { inj := some (7, 3) }).conv 1).woken = false) := by decide +kernel

theorem witness_Monitors_10 :
    ((2 ≤ 1 ∨ at2.monOn = false ∨ (at2.conv 1).inj = none ∨ (at2.conv 1).inSequence = true ∧ (at2.conv 1).woken = true)) ∧
    ((2 ≤ 1 ∨ (conv 1 { seqUntil := some 5, woken := true, inj := some (7, 3) }).monOn = false ∨ ((conv 1 { seqUntil := some 5, woken := true, inj := some (7, 3) }).conv 1).inj = none ∨ ((conv 1 { seqUntil := some 5, woken := true, inj := some (7, 3) }).conv 1).inSequence = true ∧
     ((conv 1 { seqUntil := some 5, woken := true, inj := some (7, 3) }).conv 1).woken = true)) :=
  ⟨by decide +kernel, by decide +kernel⟩

theorem witness_Monitors_11 :
    (Admitted at2 Path.sdo O.MT_APPLY 1 ∧
     (∀ (i : Nat), i ∈ neededInputs (at2.rdN O.MT_CONVERTER) → i ∈ List.map (fun e => e.fst) (List.take (at2.conv (at2.rdN O.MT_CONVERTER)).shadowLen (at2.conv (at2.rdN O.MT_CONVERTER)).shadow))) ∧
    (Admitted (conv 0 { shadowLen := 3 }) Path.sdo O.MT_APPLY 1 ∧ 19 ∈ neededInputs ((conv 0 { shadowLen := 3 }).rdN O.MT_CONVERTER) ∧
     (¬19 ∈ List.map (fun e => e.fst) (List.take ((conv 0 { shadowLen := 3 }).conv ((conv 0 { shadowLen := 3 }).rdN O.MT_CONVERTER)).shadowLen ((conv 0 { shadowLen := 3 }).conv ((conv 0 { shadowLen := 3 }).rdN O.MT_CONVERTER)).shadow))) :=
  ⟨⟨adm_of (by decide +kernel), by decide +kernel⟩, ⟨adm_of (by decide +kernel), by decide +kernel⟩⟩

theorem witness_Monitors_12 :
    Admitted at2 Path.od O.SQ_ROW 3 :=
  adm_of (by decide +kernel)

/-! ### Witnesses: field network -/

def net (f : NetSt → NetSt) : State := { at2 with net := f at2.net }
def xferA : Xfer := { idx := 0x5604, sub := 1, write := true, size := 100, moved := 0, data := 0, last := 0 }
def xferEnd : Xfer := { idx := 0x1017, sub := 0, write := true, size := 2, moved := 1, data := 7, last := 0 }
def xferRead : Xfer := { idx := 0x5604, sub := 1, write := false, size := 100, moved := 0, data := 99, last := 0 }
def transferring (x : Xfer) : State := net (fun n => { n with xfer := some x })
def xferNow : State := net (fun n => { n with xfer := some { xferA with last := at2.clk.now } })
def odReqA : OdReq := { group := 1, tag := 5, op := 0, idx := 0x1017, sub := 0, data := [] }
def odQueued : State := { at2 with tail := { at2.tail with odQueue := [odReqA] } }
def odBlocked : State := { odQueued with tail := { odQueued.tail with out := List.replicate 8 (1, { typ := 7, seq := 0 }) } }

theorem witness_SdoAndOdRequests_1 :
    (stoppedNet.admits Path.sdo = false ∨ stoppedNet.stopped 4 = true) := by decide +kernel

theorem witness_SdoAndOdRequests_2 :
    Admitted at2 Path.sdo O.HEARTBEAT_TIME 7 ∧ O.HEARTBEAT_TIME ∈ plainObjects :=
  ⟨adm_of (by decide +kernel), by decide +kernel⟩

theorem witness_SdoAndOdRequests_3 :
    at2.serves Path.sdo (O.HEARTBEAT_TIME / 256) ∧ O.HEARTBEAT_TIME ∈ plainObjects :=
  ⟨ser_of (by decide +kernel), by decide +kernel⟩

theorem witness_SdoAndOdRequests_4 :
    (at2.admits Path.sdo = true ∧ at2.stopped 4 = false) ∧
    ((transferring xferA).admits Path.sdo = true ∧ (transferring xferA).stopped 4 = false ∧ (transferring xferA).net.xfer = some xferA ∧
     xferA.write = true ∧ 50 ≤ sdoSegment ∧ xferA.moved + 50 ≤ xferA.size) ∧
    (Admitted (transferring xferEnd) Path.sdo O.HEARTBEAT_TIME ((xferEnd.data + 1 % 256 ^ 1 * 256 ^ xferEnd.moved : Nat) : Int) ∧
     (transferring xferEnd).admits Path.sdo = true ∧ (transferring xferEnd).stopped 4 = false ∧ (transferring xferEnd).net.xfer = some xferEnd ∧
     xferEnd.write = true ∧ 1 ≤ sdoSegment ∧ xferEnd.moved + 1 = xferEnd.size ∧ O.HEARTBEAT_TIME ∈ plainObjects ∧ xferEnd.idx = O.HEARTBEAT_TIME / 256 ∧
     xferEnd.sub = O.HEARTBEAT_TIME % 256 ∧ xferEnd.size = natLen O.HEARTBEAT_TIME) ∧
    ((transferring xferA).admits Path.sdo = true ∧ (transferring xferA).stopped 4 = false ∧ (transferring xferA).net.xfer = some xferA ∧
     xferA.write = true ∧ 50 ≤ sdoSegment ∧ (xferA.size < xferA.moved + 50 ∨ true = true ∧ xferA.moved + 50 ≠ xferA.size)) ∧
    ((transferring xferEnd).admits Path.sdo = true ∧ (transferring xferEnd).stopped 4 = false ∧ (transferring xferEnd).net.xfer = some xferEnd ∧
     xferEnd.write = true ∧ 2 ≤ sdoSegment ∧ (xferEnd.size < xferEnd.moved + 2 ∨ false = true ∧ xferEnd.moved + 2 ≠ xferEnd.size)) ∧
    ((transferring xferRead).admits Path.sdo = true ∧ (transferring xferRead).stopped 4 = false ∧ (transferring xferRead).net.xfer = some xferRead ∧
     xferRead.write = false ∧ min sdoSegment 100 = min sdoSegment (xferRead.size - xferRead.moved)) ∧
    (at2.admits Path.sdo = true ∧ at2.stopped 4 = false ∧ at2.net.xfer = none) ∧
    ((transferring xferA).admits Path.sdo = true ∧ (transferring xferA).stopped 4 = false) :=
  ⟨by decide +kernel, by decide +kernel, ⟨adm_of (by decide +kernel), by decide +kernel, by decide +kernel⟩, by decide +kernel, by decide +kernel, by decide +kernel, by decide +kernel, by decide +kernel⟩

theorem witness_SdoAndOdRequests_5 :
    (transferring xferA).net.xfer = some xferA ∧ xferA.last + sec 1 ≤ (transferring xferA).clk.now := by decide +kernel

theorem witness_SdoAndOdRequests_6 :
    (∀ (x : Xfer), xferNow.net.xfer = some x → xferNow.clk.now < x.last + sec 1) := by decide +kernel

theorem witness_SdoAndOdRequests_7 :
    odQueued.serves Path.od odReqA.idx ∧ odQueued.tail.odQueue = [odReqA] ∧ (List.filter (fun e => decide (e.fst < 4)) odQueued.tail.out).length < 8 ∧
    O.HEARTBEAT_TIME ∈ plainObjects ∧ odReqA.op = 0 ∧ odReqA.idx = O.HEARTBEAT_TIME / 256 ∧ odReqA.sub = O.HEARTBEAT_TIME % 256 :=
  ⟨ser_of (by decide +kernel), by decide +kernel⟩

theorem witness_SdoAndOdRequests_8 :
    odBlocked.tail.odQueue = [odReqA] ∧
    (odBlocked.waits odReqA.idx = true ∨ 8 ≤ (List.filter (fun e => decide (e.fst < 4)) odBlocked.tail.out).length) := by decide +kernel

theorem witness_SdoAndOdRequests_9 :
    at2.tail.odQueue = [] := by decide +kernel

def beating : State := (net (fun n => { n with hbAt := some 0, nmt := .operational })).wr 0x101700 1000
def beatsLater : State := (net (fun n => { n with hbAt := some (sec 100), nmt := .operational })).wr 0x101700 1000
def emcyA : Emcy := { code := 0xFF05, reg := 1, unit := 7, seq := 3, hist := 3 }
def emcyOver : Emcy := { emcyA with code := 0 }
def telling (m : Emcy) : State := { at2 with fault := { at2.fault with emcy := [m, m] } }
def busOff : State := net (fun n => { n with busOff := true })
def passive : State := net (fun n => { n with passive := true })
def canStopped : State := { at2 with fan := { at2.fan with loops := [(4, { gate := false })] } }
def recovered : State := { (net (fun n => { n with activeSince := some 5 })) with fault := { at2.fault with canBit := true } }
def recovering : State := { (net (fun n => { n with activeSince := some (sec 100) })) with fault := { at2.fault with canBit := true, canUntil := some 5 } }

theorem witness_NetworkManagement_1 :
    at2.nmtMine 0 = true ∧
    beating.nmtMine 33 = true ∧
    at2.nmtMine 33 = true :=
  ⟨by decide +kernel, by decide +kernel, by decide +kernel⟩

theorem witness_NetworkManagement_2 :
    at2.nmtMine 34 = false ∧
    (Instr.resetCommunication 34 5 ∈ [Instr.startRemoteNode 34, Instr.stopRemoteNode 34, Instr.enterPreOperational 34, Instr.resetNode 34, Instr.resetCommunication 34 5]) := by decide +kernel

theorem witness_NetworkManagement_3 :
    beating.canSends = true ∧ beating.net.nmt ≠ Nmt.init ∧ beating.rdN 1054464 ≠ 0 ∧ beating.net.hbAt = some 0 ∧
    0 + ms (beating.rdN 1054464 - 1) ≤ beating.clk.now := by decide +kernel

theorem witness_NetworkManagement_4 :
    ((beatsLater.canSends = false ∨ beatsLater.net.nmt = Nmt.init ∨ beatsLater.rdN 1054464 = 0 ∨ ∃ due, beatsLater.net.hbAt = some due ∧
     beatsLater.clk.now < due + ms (beatsLater.rdN 1054464 - 1))) ∧
    ((canStopped.canSends = false ∨ canStopped.net.nmt = Nmt.init ∨ canStopped.rdN 1054464 = 0 ∨ ∃ due, canStopped.net.hbAt = some due ∧
     canStopped.clk.now < due + ms (canStopped.rdN 1054464 - 1))) :=
  ⟨by decide +kernel, by decide +kernel⟩

theorem witness_NetworkManagement_5 :
    (((telling emcyA).fault.emcy = [emcyA, emcyA]) ∧ (telling emcyA).emcyFree = true) ∧
    (((telling emcyOver).fault.emcy = [emcyOver, emcyOver]) ∧ (telling emcyOver).emcyFree = true) :=
  ⟨by decide +kernel, by decide +kernel⟩

theorem witness_NetworkManagement_6 :
    (at2.fault.emcy = [] ∨ at2.emcyFree = false) := by decide +kernel

theorem witness_NetworkManagement_7 :
    at2.canOn = true ∧ at2.dev ≠ DevMode.sleep := by decide +kernel

theorem witness_NetworkManagement_8 :
    canStopped.canOn = false ∧ canStopped.dev ≠ DevMode.sleep := by decide +kernel

theorem witness_NetworkManagement_9 :
    canStopped.canOn = false := by decide +kernel

theorem witness_NetworkManagement_10 :
    (at2.canOn = true ∧ at2.net.passive = false ∧ at2.net.busOff = false ∧ at2.fault.emcy.length < 16) ∧
    (passive.canOn = true ∧ passive.net.busOff = false) ∧
    (busOff.canOn = true ∧ busOff.net.busOff = true ∧ busOff.fault.emcy.length < 16) ∧
    (passive.canOn = true ∧ passive.net.passive = true ∧ passive.net.busOff = false) :=
  ⟨by decide +kernel, by decide +kernel, by decide +kernel, by decide +kernel⟩

def operational : State := net (fun n => { n with nmt := .operational })
/-- RPDO 3 of transmission type `ty`, mapped to 1017h alone. -/
def rpdo (ty : Nat) : State :=
  (((operational.wr (pdoKey false 2 1) 0x201).wr (pdoKey false 2 2) ty).wr (mapKey false 2 0) 1).wr (mapKey false 2 1) 0x10170010
def rpdoFull : State := { rpdo 1 with net := { (rpdo 1).net with rpdos := List.replicate 16 (0, 2, [1, 2]) } }
def rpdoOne : State := { rpdo 1 with net := { (rpdo 1).net with rpdos := [(0, 2, [1, 2])] } }
/-- TPDO 4 of transmission type `ty`, mapped to 1017h alone. -/
def tpdo (ty : Nat) : State :=
  ((((operational.wr (pdoKey true 3 1) 0x281).wr (pdoKey true 3 2) ty).wr (mapKey true 3 0) 1).wr (mapKey true 3 1) 0x10170010).wr 0x101700 77
/-- A state with one SYNC more. -/
def synced (s : State) : State := { s with net := { s.net with syncCount := s.net.syncCount + 1 } }
def tpdoDue : State := { (tpdo 255).wr (pdoKey true 3 5) 10 with net := { (tpdo 255).net with tpdo := [(3, { sentAt := some 5 })] } }

theorem witness_ProcessDataAndStores_1 :
    (at2.canServes = false ∨ at2.net.nmt ≠ Nmt.operational ∨ 8 ≤ 2 ∨ at2.pdoValid false 2 = false) := by decide +kernel

theorem witness_ProcessDataAndStores_2 :
    ((rpdo 255).canServes = true ∧ (rpdo 255).net.nmt = Nmt.operational ∧ 2 < 8 ∧ (rpdo 255).pdoValid false 2 = true ∧
     [1].length ≠ mapLen ((rpdo 255).mapping false 2)) ∧
    ((rpdo 1).canServes = true ∧ (rpdo 1).net.nmt = Nmt.operational ∧ 2 < 8 ∧ (rpdo 1).pdoValid false 2 = true ∧
     ([1, 2].length = mapLen ((rpdo 1).mapping false 2)) ∧ ((rpdo 1).pdoType false 2 ≤ 240 ∨ (rpdo 1).net.held ≠ []) ∧ (rpdo 1).net.rpdos.length < 16) ∧
    (rpdoFull.canServes = true ∧ rpdoFull.net.nmt = Nmt.operational ∧ 2 < 8 ∧ rpdoFull.pdoValid false 2 = true ∧
     ([1, 2].length = mapLen (rpdoFull.mapping false 2)) ∧ (rpdoFull.pdoType false 2 ≤ 240 ∨ rpdoFull.net.held ≠ []) ∧ 16 ≤ rpdoFull.net.rpdos.length) ∧
    ((Admitted (rpdo 255) Path.rpdo O.HEARTBEAT_TIME ((ofLe [1, 2] : Nat) : Int)) ∧ (rpdo 255).canServes = true ∧ (rpdo 255).net.nmt = Nmt.operational ∧
     2 < 8 ∧ (rpdo 255).pdoValid false 2 = true ∧ (rpdo 255).mapping false 2 = [269942800] ∧
     mapIdx 269942800 * 256 + mapSub 269942800 = O.HEARTBEAT_TIME ∧ O.HEARTBEAT_TIME ∈ plainObjects ∧ mapBytes 269942800 = natLen O.HEARTBEAT_TIME ∧
     ([1, 2].length = mapBytes 269942800) ∧ 240 < (rpdo 255).pdoType false 2) :=
  ⟨by decide +kernel, by decide +kernel, by decide +kernel, ⟨adm_of (by decide +kernel), by decide +kernel, by decide +kernel⟩⟩

theorem witness_ProcessDataAndStores_3 :
    (stoppedNet.canServes = false ∨ stoppedNet.net.nmt ≠ Nmt.preOp ∧ stoppedNet.net.nmt ≠ Nmt.operational) := by decide +kernel

theorem witness_ProcessDataAndStores_4 :
    at2.canServes = true ∧ at2.net.nmt = Nmt.preOp := by decide +kernel

theorem witness_ProcessDataAndStores_5 :
    (Admitted rpdoOne Path.rpdo O.HEARTBEAT_TIME ((ofLe [1, 2] : Nat) : Int)) ∧ rpdoOne.canServes = true ∧ rpdoOne.net.nmt = Nmt.operational ∧
    (∀ (m : Nat), m < 16 → rpdoOne.pdoValid true m = false) ∧ (rpdoOne.net.rpdos = [(0, 2, [1, 2])]) ∧ 2 < 8 ∧ rpdoOne.pdoType false 2 ≤ 240 ∧
    rpdoOne.mapping false 2 = [269942800] ∧ mapIdx 269942800 * 256 + mapSub 269942800 = O.HEARTBEAT_TIME ∧ O.HEARTBEAT_TIME ∈ plainObjects ∧
    mapBytes 269942800 = natLen O.HEARTBEAT_TIME ∧ ([1, 2].length = mapBytes 269942800) :=
  ⟨adm_of (by decide +kernel), by decide +kernel, by decide +kernel, by decide +kernel⟩

theorem witness_ProcessDataAndStores_6 :
    ((tpdo 1).canServes = true ∧ (tpdo 1).net.nmt = Nmt.operational ∧ (tpdo 1).net.busOff = false ∧ (tpdo 1).net.rpdos = [] ∧ 3 < 16 ∧
     (∀ (m : Nat), m < 16 → ((tpdo 1).pdoValid true m = true ↔ m = 3)) ∧ 1 ≤ (tpdo 1).pdoType true 3 ∧ (tpdo 1).pdoType true 3 ≤ 240 ∧
     (tpdo 1).rdN (pdoKey true 3 6) = 0 ∧ synced (tpdo 1) = { (tpdo 1) with net := { (tpdo 1).net with syncCount := (tpdo 1).net.syncCount + 1 } } ∧
     (tpdo 1).pdoType true 3 ≤ ((tpdo 1).tpdoSt 3).syncs + 1) ∧
    ((tpdo 240).canServes = true ∧ (tpdo 240).net.nmt = Nmt.operational ∧ (tpdo 240).net.busOff = false ∧ (tpdo 240).net.rpdos = [] ∧ 3 < 16 ∧
     (∀ (m : Nat), m < 16 → ((tpdo 240).pdoValid true m = true ↔ m = 3)) ∧ 1 ≤ (tpdo 240).pdoType true 3 ∧ (tpdo 240).pdoType true 3 ≤ 240 ∧
     (tpdo 240).rdN (pdoKey true 3 6) = 0 ∧
     synced (tpdo 240) = { (tpdo 240) with net := { (tpdo 240).net with syncCount := (tpdo 240).net.syncCount + 1 } } ∧
     ((tpdo 240).tpdoSt 3).syncs + 1 < (tpdo 240).pdoType true 3) :=
  ⟨⟨by decide +kernel, by decide +kernel, by decide +kernel⟩, ⟨by decide +kernel, by decide +kernel, by decide +kernel⟩⟩

theorem witness_ProcessDataAndStores_7 :
    tpdoDue.canSends = true ∧ tpdoDue.net.nmt = Nmt.operational ∧ 3 < 16 ∧ tpdoDue.pdoValid true 3 = true ∧ 254 ≤ tpdoDue.pdoType true 3 ∧
    (tpdoDue.tpdoSt 3).sentAt = some 5 ∧ tpdoDue.rdN (pdoKey true 3 5) ≠ 0 ∧ 5 + ms (tpdoDue.rdN (pdoKey true 3 5)) ≤ tpdoDue.clk.now ∧
    5 + us (100 * tpdoDue.rdN (pdoKey true 3 3)) ≤ tpdoDue.clk.now := by decide +kernel

theorem witness_ProcessDataAndStores_8 :
    (at2.canSends = false ∨ at2.net.nmt ≠ Nmt.operational ∨ 16 ≤ 3 ∨ at2.pdoValid true 3 = false ∨ at2.pdoType true 3 < 254) := by decide +kernel

theorem witness_ProcessDataAndStores_9 :
    Admitted at2 Path.od 3080194 40 ∧
    Admitted at2 Path.od 3080196 1 ∧
    (3 ≠ 2 ∧ 3 ≠ 4) ∧
    (Admitted at2 Path.sdo 1052674 1702257011 ∧ 1702257011 = 1702257011) ∧
    (Admitted at2 Path.sdo 1052674 5 ∧ 5 ≠ 1702257011) ∧
    (Admitted at2 Path.sdo 1052930 1684107116 ∧ 1684107116 = 1684107116) ∧
    (Admitted at2 Path.od 1052930 5 ∧ 5 ≠ 1684107116) ∧
    Admitted at2 Path.sdo 1049344 0 :=
  ⟨adm_of (by decide +kernel), adm_of (by decide +kernel), by decide +kernel, ⟨adm_of (by decide +kernel), by decide +kernel⟩, ⟨adm_of (by decide +kernel), by decide +kernel⟩, ⟨adm_of (by decide +kernel), by decide +kernel⟩, ⟨adm_of (by decide +kernel), by decide +kernel⟩, adm_of (by decide +kernel)⟩

/-! ### Witnesses: lanes and groups -/

def lanes (l : List (Nat × Lane)) (k : List (Nat × Link)) : State := { at2 with tail := { at2.tail with lanes := l, links := k } }
def laneUp (l : Nat) : Lane :=
  { laneRest l with st := if l < 16 then 3 else if l < 18 then 4 else if (l - 18) % 4 < 2 then 3 else 4, rxOk := true, partner := true, okSince := some 7 }
/-- Every lane in service, or ready where it is a spare. -/
def up : State := lanes ((List.range 26).map (fun l => (l, laneUp l))) ((List.range 6).map (fun g => (g, {})))
def lostLane (l since : Nat) (s : State) : State := s.modLane l (fun x => { x with st := 5, rxOk := false, lost := some (since, 3) })
def oneLane (p : Bool) : State := lanes [(5, { laneRest 5 with partner := p })] []
def listening : State := lanes ([4, 6, 7].map (fun l => (l, { laneRest l with st := 1 }))) [(1, {})]
def refusedOnce : State := up.modLane 5 (fun x => { x with refused := 1 })
def goodCheck (e : Nat) : Nat := crc8 [5, 0x5A, 1, 2, e, 0]

theorem witness_LaneTraining_1 :
    (5 < 26 ∧ (oneLane false).tailRuns = true ∧ ((oneLane false).lane 5).on = true ∧ ((oneLane false).lane 5).st ≠ 7 ∧
     ((oneLane false).lane 5).rxOk = false ∧ 100 ≤ 128) ∧
    (5 < 26 ∧ (oneLane true).tailRuns = true ∧ ((oneLane true).lane 5).on = true ∧ ((oneLane true).lane 5).st ≠ 7 ∧
     ((oneLane true).lane 5).rxOk = false ∧ 128 ≤ 128) :=
  ⟨by decide +kernel, by decide +kernel⟩

theorem witness_LaneTraining_2 :
    5 < 26 ∧ (oneLane true).tailRuns = true ∧ ((oneLane true).lane 5).on = true ∧ ((oneLane true).lane 5).st ≠ 7 ∧
    (128 < 129 ∨ ((oneLane true).lane 5).rxOk = true) := by decide +kernel

theorem witness_LaneTraining_3 :
    (5 < 26 ∧ up.tailRuns = true ∧ (up.lane 5).on = true ∧ (up.lane 5).st ≠ 7 ∧ (goodCheck 1 + 1 ≠ crc8 [5, 90, 1, 2, 1, 0])) ∧
    (5 < 26 ∧ up.tailRuns = true ∧ (up.lane 5).on = true ∧ (up.lane 5).st ≠ 7 ∧ (goodCheck 1 = crc8 [5, 90, 1, 2, 1, 0]) ∧
     (bit 1 0 = true ∨ (up.lane 5).st ≠ 3 ∨ (up.lane 5).refused = 0)) ∧
    (5 < 26 ∧ up.tailRuns = true ∧ (up.lane 5).on = true ∧ (up.lane 5).st ≠ 7 ∧ (goodCheck 0 = crc8 [5, 90, 1, 2, 0, 0]) ∧
     (bit 0 0 = true ∨ (up.lane 5).st ≠ 3 ∨ (up.lane 5).refused = 0)) ∧
    (5 < 26 ∧ refusedOnce.tailRuns = true ∧ (refusedOnce.lane 5).on = true ∧ (refusedOnce.lane 5).st ≠ 7 ∧ (goodCheck 0 = crc8 [5, 90, 1, 2, 0, 0]) ∧
     bit 0 0 = false ∧ (refusedOnce.lane 5).st = 3 ∧ (refusedOnce.lane 5).refused = 1 ∧ (refusedOnce.lane 5).group < 4 ∧ (∃ m, m < 26 ∧ m ≠ 5 ∧
     (refusedOnce.lane m).st = 3 ∧ (refusedOnce.lane m).group = (refusedOnce.lane 5).group)) :=
  ⟨by decide +kernel, by decide +kernel, by decide +kernel, ⟨by decide +kernel, by decide +kernel⟩⟩

theorem witness_LaneTraining_4 :
    (5 < 26 ∧ (oneLane true).tailRuns = true ∧ ((oneLane true).lane 5).on = true ∧ ((oneLane true).lane 5).st ≠ 7 ∧
     ((oneLane true).lane 5).rxOk = false ∧ ((oneLane true).lane 5).st ≠ 6 ∧ ((oneLane true).lane 5).trainFrom + ms 10 ≤ (oneLane true).clk.now) ∧
    (5 < 26 ∧ listening.tailRuns = true ∧ (listening.lane 5).on = true ∧ (listening.lane 5).st ≠ 7 ∧ (listening.lane 5).rxOk = false ∧
     (listening.lane 5).st ≠ 6 ∧ (listening.lane 5).trainFrom + ms 10 ≤ listening.clk.now ∧ (listening.lane 5).lost = none ∧
     (listening.lane 5).group < 6 ∧ (listening.link (listening.lane 5).group).listening = false ∧
     (listening.link (listening.lane 5).group).quiet = false ∧
     (∀ (m : Nat), m < 26 → m ≠ 5 → (listening.lane m).group = (listening.lane 5).group → (listening.lane m).on = true → (listening.lane m).st = 1 ∨ (listening.lane m).st = 7) ∧
     listening.fault.emcy.length < 16) :=
  ⟨by decide +kernel, ⟨by decide +kernel, by decide +kernel, by decide +kernel, by decide +kernel, by decide +kernel⟩⟩

theorem witness_LaneTraining_5 :
    5 < 26 ∧ up.tailRuns = true ∧ (up.lane 5).on = true ∧ (up.lane 5).st ≠ 7 ∧
    ((up.lane 5).rxOk = true ∨ (up.lane 5).st = 6 ∨ up.clk.now < (up.lane 5).trainFrom + ms 10) := by decide +kernel

def lastLane : State := [4, 6, 7].foldl (fun s l => lostLane l (sec 100 - us 10) s) up
def pairLost : State := (lostLane 22 (sec 100 - us 10) up).modLane 23 (fun x => { x with st := 2 })

theorem witness_LaneLosses_1 :
    5 < 26 ∧ (oneLane true).tailRuns = true ∧ ((oneLane true).lane 5).on = true ∧ ((oneLane true).lane 5).rxOk = false := by decide +kernel

theorem witness_LaneLosses_2 :
    5 < 26 ∧ up.tailRuns = true ∧ (up.lane 5).on = true ∧ (up.lane 5).rxOk = true ∧ (up.lane 5).st = 3 ∧ (up.lane 5).group < 4 ∧ (∃ m, m < 26 ∧ m ≠ 5 ∧
    (up.lane m).st = 3 ∧ (up.lane m).group = (up.lane 5).group) := by decide +kernel

theorem witness_LaneLosses_3 :
    17 < 26 ∧ up.tailRuns = true ∧ (up.lane 17).on = true ∧ (up.lane 17).rxOk = true ∧
    ((up.lane 17).st = 4 ∨ (up.lane 17).st = 5 ∨ (up.lane 17).st = 6) := by decide +kernel

theorem witness_LaneLosses_4 :
    (∀ (m : Nat), (lastLane.lane m).repl = none) ∧ 5 < 26 ∧ lastLane.tailRuns = true ∧ (lastLane.lane 5).on = true ∧ (lastLane.lane 5).rxOk = true ∧
    1 < 4 ∧ lastLane.stripe 1 = [5] ∧ (lastLane.lane 5).group = 1 ∧ (lastLane.link 1).listening = false ∧ (lastLane.link 1).quiet = false ∧
    (∀ (a : Time), a ∈ lastLane.losses 1 → a ≤ lastLane.clk.now + us 10 ∧ lastLane.clk.now ≤ a + us 10 ∧
    ∀ (b : Time), b ∈ lastLane.losses 1 → a ≤ b + us 10) :=
  ⟨fun m => lanes_of (s := lastLane) (Q := fun _ => True) (P := fun x => x.repl = none) (by decide +kernel) (fun m => (rest_clear m).2) m trivial, by decide +kernel, by decide +kernel⟩

theorem witness_LaneLosses_5 :
    22 < 26 ∧ up.tailRuns = true ∧ (up.lane 22).on = true ∧ (up.lane 22).rxOk = true ∧ (5 = 4 ∨ 5 = 5) ∧ (up.lane 22).group = 5 ∧ (up.lane 22).st = 3 ∧
    (up.stripe 5 = [22, 23] ∨ up.stripe 5 = [23, 22]) ∧ up.losses 5 = [] := by decide +kernel

theorem witness_LaneLosses_6 :
    (∀ (m : Nat), (pairLost.lane m).repl = none) ∧ 23 < 26 ∧ pairLost.tailRuns = true ∧ (pairLost.lane 23).on = true ∧ (pairLost.lane 23).rxOk = true ∧
    (5 = 4 ∨ 5 = 5) ∧ (pairLost.lane 23).group = 5 ∧ (pairLost.lane 23).st = 2 ∧ pairLost.losses 5 = [sec 100 - us 10] ∧
    (pairLost.lane 23).lost = none ∧ sec 100 - us 10 ≤ pairLost.clk.now ∧ pairLost.clk.now ≤ sec 100 - us 10 + us 10 ∧
    (pairLost.link 5).listening = false ∧ (pairLost.link 5).quiet = false :=
  ⟨fun m => lanes_of (s := pairLost) (Q := fun _ => True) (P := fun x => x.repl = none) (by decide +kernel) (fun m => (rest_clear m).2) m trivial, by decide +kernel, by decide +kernel, by decide +kernel, by decide +kernel, by decide +kernel⟩

def joining : State := lanes ([4, 5].map (fun l => (l, { laneRest l with st := 2, rxOk := true, partner := true }))) [(1, { listening := true })]
def lateLane : State := lostLane 5 (sec 100 - us 10) up
def freshLane : State := lostLane 5 (sec 100 - us 9) up
def replaced : State := lateLane.modLane 5 (fun x => { x with repl := some 16 })
def noSpares : State := [16, 17].foldl (fun s l => s.modLane l (fun x => { x with st := 7 })) lateLane
def sideLost : State := lostLane 22 (sec 100 - us 10) up
def sideSpent : State := sideLost.modLane 24 (fun x => { x with st := 2 })
def noTail : State := { up with fan := { up.fan with loops := [(5, { gate := false })] } }

theorem witness_MarkerBoundaries_1 :
    (noTail.tailRuns = false ∨ noTail.clk.now < noTail.tail.markerAt) := by decide +kernel

theorem witness_MarkerBoundaries_2 :
    (up.tailRuns = true ∧ up.tail.markerAt ≤ up.clk.now) ∧
    ((∀ (m : Nat), (joining.lane m).lost = none) ∧ joining.tailRuns = true ∧ joining.tail.markerAt ≤ joining.clk.now ∧
     (∀ (l : Nat), l < 26 → (joining.lane l).on = joining.laneEnabled l) ∧ 1 < 4 ∧ (joining.link 1).degraded = false) ∧
    ((∀ (m : Nat), m ≠ 5 → (freshLane.lane m).lost = none) ∧ freshLane.tailRuns = true ∧ freshLane.tail.markerAt ≤ freshLane.clk.now ∧
     (∀ (l : Nat), l < 26 → (freshLane.lane l).on = freshLane.laneEnabled l) ∧ 5 < 18 ∧ ((freshLane.lane 5).lost = some (sec 100 - us 9, 3)) ∧
     (freshLane.lane 5).st = 5 ∧ (freshLane.lane 5).group < 4 ∧ (freshLane.lane 5).repl = none ∧ freshLane.readyLane = some 16 ∧
     freshLane.clk.now < sec 100 - us 9 + us 10) ∧
    ((∀ (m : Nat), m ≠ 5 → (replaced.lane m).lost = none) ∧ replaced.tailRuns = true ∧ replaced.tail.markerAt ≤ replaced.clk.now ∧
     (∀ (l : Nat), l < 26 → (replaced.lane l).on = replaced.laneEnabled l) ∧ 5 < 18 ∧ ((replaced.lane 5).lost = some (sec 100 - us 10, 3)) ∧
     (replaced.lane 5).st = 5 ∧ (replaced.lane 5).group < 4 ∧ (replaced.lane 5).repl = some 16 ∧ sec 100 - us 10 + us 10 ≤ replaced.clk.now) ∧
    ((∀ (m : Nat), m ≠ 5 → (noSpares.lane m).lost = none) ∧ noSpares.tailRuns = true ∧ noSpares.tail.markerAt ≤ noSpares.clk.now ∧
     (∀ (l : Nat), l < 26 → (noSpares.lane l).on = noSpares.laneEnabled l) ∧ 5 < 18 ∧ ((noSpares.lane 5).lost = some (sec 100 - us 10, 3)) ∧
     (noSpares.lane 5).st = 5 ∧ (noSpares.lane 5).group < 4 ∧ (noSpares.lane 5).repl = none ∧ noSpares.readyLane = none ∧
     sec 100 - us 10 + us 10 ≤ noSpares.clk.now) ∧
    ((∀ (m : Nat), m ≠ 22 → (sideLost.lane m).lost = none) ∧ sideLost.tailRuns = true ∧ sideLost.tail.markerAt ≤ sideLost.clk.now ∧
     (∀ (l : Nat), l < 26 → (sideLost.lane l).on = sideLost.laneEnabled l) ∧ (5 = 4 ∨ 5 = 5) ∧ 22 ∈ pairLanes 5 (sideLost.link 5).spareIn ∧
     (sideLost.lane 22).group = 5 ∧ ((sideLost.lane 22).lost = some (sec 100 - us 10, 3)) ∧ sec 100 - us 10 + us 10 ≤ sideLost.clk.now ∧
     (sideLost.link 5).spareIn = false ∧ (∀ (m : Nat), m ∈ pairLanes 5 true → (sideLost.lane m).st = 4)) ∧
    ((∀ (m : Nat), m ≠ 22 → (sideSpent.lane m).lost = none) ∧ sideSpent.tailRuns = true ∧ sideSpent.tail.markerAt ≤ sideSpent.clk.now ∧
     (∀ (l : Nat), l < 26 → (sideSpent.lane l).on = sideSpent.laneEnabled l) ∧ (5 = 4 ∨ 5 = 5) ∧ 22 ∈ pairLanes 5 (sideSpent.link 5).spareIn ∧
     (sideSpent.lane 22).group = 5 ∧ ((sideSpent.lane 22).lost = some (sec 100 - us 10, 3)) ∧ sec 100 - us 10 + us 10 ≤ sideSpent.clk.now ∧
     ((sideSpent.link 5).spareIn = true ∨ ∃ m, m ∈ pairLanes 5 true ∧ (sideSpent.lane m).st ≠ 4)) :=
  ⟨by decide +kernel, ⟨fun m => lanes_of (s := joining) (Q := fun _ => True) (P := fun x => x.lost = none) (by decide +kernel) (fun m => (rest_clear m).1) m trivial, by decide +kernel⟩, ⟨lanes_of (s := freshLane) (Q := fun m => m ≠ 5) (P := fun x => x.lost = none) (by decide +kernel) (fun m => (rest_clear m).1), by decide +kernel, by decide +kernel⟩, ⟨lanes_of (s := replaced) (Q := fun m => m ≠ 5) (P := fun x => x.lost = none) (by decide +kernel) (fun m => (rest_clear m).1), by decide +kernel⟩, ⟨lanes_of (s := noSpares) (Q := fun m => m ≠ 5) (P := fun x => x.lost = none) (by decide +kernel) (fun m => (rest_clear m).1), by decide +kernel, by decide +kernel⟩, ⟨lanes_of (s := sideLost) (Q := fun m => m ≠ 22) (P := fun x => x.lost = none) (by decide +kernel) (fun m => (rest_clear m).1), by decide +kernel, by decide +kernel⟩, ⟨lanes_of (s := sideSpent) (Q := fun m => m ≠ 22) (P := fun x => x.lost = none) (by decide +kernel) (fun m => (rest_clear m).1), by decide +kernel⟩⟩

def rejoining : State := (up.setLink 1 { degraded := true }).modLane 5 (fun x => { x with st := 5 })
def pairBack : State :=
  (up.setLink 5 { out := true, spareIn := false, listening := true }).modLane 22 (fun x => { x with st := 2 }) |>.modLane 23 (fun x => { x with st := 2 })
def roleTaken : State := up.wr (O.CTB_ROLE 2) 3
def answering : State := { up.wr O.CTB_ANSWER_PLANS 1 with plans := [(0, { st := 1 })] }
def recordA : List Nat := leBytes 4 3 ++ leBytes 4 900 ++ leBytes 4 700 ++ leBytes 2 100 ++ [2, 0]
def epochRecorded : State := { up with tail := { up.tail with sides := [(0, { record := some (1000, recordA) })] }, fan := { up.fan with tb := 2 } }

theorem witness_RejoiningAndRoles_1 :
    5 < 18 ∧ rejoining.tailRuns = true ∧ (rejoining.lane 5).group = 1 ∧ 1 < 4 ∧ (rejoining.lane 5).okSince = some 7 ∧ 7 + ms 1 ≤ rejoining.clk.now ∧
    (rejoining.lane 5).usable = true ∧ (rejoining.lane 5).lost = none ∧ (rejoining.link 1).degraded = true ∧
    ((rejoining.lane 5).st = 1 ∨ (rejoining.lane 5).st = 2 ∨ (rejoining.lane 5).st = 5) :=
  ⟨by decide +kernel, by decide +kernel⟩

theorem witness_RejoiningAndRoles_2 :
    (26 ≤ 5 ∨ lateLane.tailRuns = false ∨ (lateLane.lane 5).okSince = none ∨ (lateLane.lane 5).usable = false ∨ (lateLane.lane 5).lost ≠ none ∨ ∃ since, (lateLane.lane 5).okSince = some since ∧
    lateLane.clk.now < since + ms 1) := by decide +kernel

theorem witness_RejoiningAndRoles_3 :
    (5 = 4 ∨ 5 = 5) ∧ 22 ∈ pairLanes 5 (pairBack.link 5).spareIn ∧ pairBack.tailRuns = true ∧ (pairBack.lane 22).group = 5 ∧
    (pairBack.link 5).out = true ∧ (pairBack.lane 22).lost = none ∧
    (∀ (m : Nat), m ∈ pairLanes 5 (pairBack.link 5).spareIn → (pairBack.lane m).usable = true ∧ ∃ since, (pairBack.lane m).okSince = some since ∧
    since + ms 1 ≤ pairBack.clk.now) := by decide +kernel

theorem witness_RejoiningAndRoles_4 :
    Admitted up Path.sdo O.LANE_ENABLE 5 :=
  adm_of (by decide +kernel)

theorem witness_RejoiningAndRoles_5 :
    (Admitted roleTaken Path.sdo (5701888 + 1) 3 ∧ 1 ≤ 1 ∧ 1 ≤ 6 ∧ 1 ≤ 4 ∧ 2 ≤ 3 ∧ (∃ i, i < 4 ∧ i + 1 ≠ 1 ∧ roleTaken.rd (O.CTB_ROLE i) = 3)) ∧
    (Admitted answering Path.sdo (5701888 + 1) 3 ∧ 1 ≤ 1 ∧ 1 ≤ 6 ∧ (1 ≤ 4 → 2 ≤ 3 → ∀ (i : Nat), i < 4 → i + 1 ≠ 1 → answering.rd (O.CTB_ROLE i) ≠ 3) ∧
     (∃ q, q < 16 ∧ bit (answering.rdN O.CTB_ANSWER_PLANS) q = true ∧ armedSt (answering.plan q).entering = true)) ∧
    (Admitted up Path.sdo (5701888 + 6) 3 ∧ 1 ≤ 6 ∧ 6 ≤ 6 ∧ (6 ≤ 4 → 2 ≤ 3 → ∀ (i : Nat), i < 4 → i + 1 ≠ 6 → up.rd (O.CTB_ROLE i) ≠ 3) ∧
     (∀ (q : Nat), q < 16 → bit (up.rdN O.CTB_ANSWER_PLANS) q = true → armedSt (up.plan q).entering = false)) :=
  ⟨⟨adm_of (by decide +kernel), by decide +kernel⟩, ⟨adm_of (by decide +kernel), by decide +kernel⟩, ⟨adm_of (by decide +kernel), by decide +kernel⟩⟩

theorem witness_RejoiningAndRoles_6 :
    (7 = 0 ∨ 6 < 7) := by decide +kernel

theorem witness_RejoiningAndRoles_7 :
    (4 = 4 ∨ 4 = 5) ∧ ((epochRecorded.nb 4).record = some (1000, recordA)) ∧
    wrapU 32 (1000 - ((fieldOf recordA 8 4 : Nat) : Int) - ((fieldOf recordA 12 2 : Nat) : Int)) / 2 = wrapU 32 (↑1000 - ((fieldOf recordA 8 4 : Nat) : Int) - ((fieldOf recordA 12 2 : Nat) : Int)) / 2 ∧
    wrapS 32 (((fieldOf recordA 4 4 : Nat) : Int) + ((wrapU 32 (1000 - ((fieldOf recordA 8 4 : Nat) : Int) - ((fieldOf recordA 12 2 : Nat) : Int)) : Nat) : Int) / 2 - 1000) = wrapS 32 (((fieldOf recordA 4 4 : Nat) : Int) + ((wrapU 32 (1000 - ((fieldOf recordA 8 4 : Nat) : Int) - ((fieldOf recordA 12 2 : Nat) : Int)) / 2 : Nat) : Int) - ↑1000) := by decide +kernel

theorem witness_RejoiningAndRoles_8 :
    (3 < 4 ∨ 6 ≤ 3 ∨ (up.nb 3).record = none) := by decide +kernel

/-! ### Witnesses: frames, replay, deliveries -/

def sentA (i : Nat) : Sent := { frame := { seq := i, typ := 7, data := [i] }, first := sec 100 - us 50, last := sec 100 - us 20 }
/-- Every group and side up, with three frames not acknowledged and the next received one number 65535. -/
def linked : State :=
  { up with tail := { up.tail with links := (List.range 6).map (fun g => (g, { replay := (List.range 3).map sentA, nextTx := 3, nextRx := 65535 })) } }
def frameA : Frame := { typ := 6, seq := 65535, ack := 1, creditStream := 1, creditTotal := 5,
                        data := [9, 0, 1, 0, 0x17, 0x10, 0, 0, 2, 0, 0, 0] ++ List.replicate 12 0 ++ [7, 8] }
def frameU : Frame := { frameA with typ := 8 }
def frameN : Frame := { frameA with typ := 3, flags := 4 }
def frameO : Frame := { frameA with seq := 3 }
def frameC : Frame := { frameA with typ := 0, creditStream := 5, creditTotal := 10 }
def asRead (f : Frame) : Frame := (Frame.parse f.bytes).getD {}
def odFull : State := { linked with tail := { linked.tail with odQueue := List.replicate 8 odReqA } }
def updFull : State := { linked with tail := { linked.tail with updQueue := List.replicate 256 (1, { typ := 8, data := List.replicate 60 1 }) } }

theorem witness_FramesReceived_1 :
    (6 ≤ 6 ∨ linked.tailRuns = false ∨ linked.linkActive 6 = false) := by decide +kernel

theorem witness_FramesReceived_2 :
    (0 < 6 ∧ linked.tailRuns = true ∧ linked.linkActive 0 = true ∧ linked.gov.boot ≠ 3 ∧ (linked.link 0).nextRx < 65536 ∧
     (Frame.parse [251, 3] = none)) ∧
    (5 < 6 ∧ linked.tailRuns = true ∧ linked.linkActive 5 = true ∧ linked.gov.boot ≠ 3 ∧ (linked.link 5).nextRx < 65536 ∧
     (Frame.parse [251, 3] = none)) ∧
    (1 < 6 ∧ linked.tailRuns = true ∧ linked.linkActive 1 = true ∧ linked.gov.boot ≠ 3 ∧ (linked.link 1).nextRx < 65536 ∧
     Frame.parse frameA.bytes = some (asRead frameA) ∧ bit (asRead frameA).flags 2 = false) ∧
    (1 < 6 ∧ linked.tailRuns = true ∧ linked.linkActive 1 = true ∧ linked.gov.boot ≠ 3 ∧ (linked.link 1).nextRx < 65536 ∧
     Frame.parse frameN.bytes = some (asRead frameN) ∧ bit (asRead frameN).flags 2 = true) ∧
    (1 < 6 ∧ linked.tailRuns = true ∧ linked.linkActive 1 = true ∧ linked.gov.boot ≠ 3 ∧ (linked.link 1).nextRx < 65536 ∧
     Frame.parse frameA.bytes = some (asRead frameA) ∧ (asRead frameA).typ ≠ 0 ∧ (asRead frameA).seq % 65536 = (linked.link 1).nextRx ∧ 1 < 4) ∧
    (5 < 6 ∧ linked.tailRuns = true ∧ linked.linkActive 5 = true ∧ linked.gov.boot ≠ 3 ∧ (linked.link 5).nextRx < 65536 ∧
     Frame.parse frameU.bytes = some (asRead frameU) ∧ (asRead frameU).typ ≠ 0 ∧ (asRead frameU).seq % 65536 = (linked.link 5).nextRx ∧
     (asRead frameU).typ = 8) ∧
    (1 < 6 ∧ linked.tailRuns = true ∧ linked.linkActive 1 = true ∧ linked.gov.boot ≠ 3 ∧ (linked.link 1).nextRx < 65536 ∧
     Frame.parse frameU.bytes = some (asRead frameU) ∧ (asRead frameU).typ ≠ 0 ∧ (asRead frameU).seq % 65536 = (linked.link 1).nextRx ∧
     (asRead frameU).typ = 8 ∧ linked.updUsed 1 + ceilDiv (asRead frameU).len 64 ≤ 256) ∧
    (1 < 6 ∧ updFull.tailRuns = true ∧ updFull.linkActive 1 = true ∧ updFull.gov.boot ≠ 3 ∧ (updFull.link 1).nextRx < 65536 ∧
     Frame.parse frameU.bytes = some (asRead frameU) ∧ (asRead frameU).typ ≠ 0 ∧ (asRead frameU).seq % 65536 = (updFull.link 1).nextRx ∧
     (asRead frameU).typ = 8 ∧ 256 < updFull.updUsed 1 + ceilDiv (asRead frameU).len 64) ∧
    (1 < 6 ∧ linked.tailRuns = true ∧ linked.linkActive 1 = true ∧ linked.gov.boot ≠ 3 ∧ (linked.link 1).nextRx < 65536 ∧
     Frame.parse frameA.bytes = some (asRead frameA) ∧ (asRead frameA).typ ≠ 0 ∧ (asRead frameA).seq % 65536 = (linked.link 1).nextRx ∧ 1 < 4 ∧
     (asRead frameA).typ = 6 ∧ linked.tail.odQueue.length < 8) ∧
    (1 < 6 ∧ odFull.tailRuns = true ∧ odFull.linkActive 1 = true ∧ odFull.gov.boot ≠ 3 ∧ (odFull.link 1).nextRx < 65536 ∧
     Frame.parse frameA.bytes = some (asRead frameA) ∧ (asRead frameA).typ ≠ 0 ∧ (asRead frameA).seq % 65536 = (odFull.link 1).nextRx ∧ 1 < 4 ∧
     (asRead frameA).typ = 6 ∧ 8 ≤ odFull.tail.odQueue.length) ∧
    (4 < 6 ∧ linked.tailRuns = true ∧ linked.linkActive 4 = true ∧ linked.gov.boot ≠ 3 ∧ (linked.link 4).nextRx < 65536 ∧
     Frame.parse frameA.bytes = some (asRead frameA) ∧ (asRead frameA).typ ≠ 0 ∧ (asRead frameA).seq % 65536 = (linked.link 4).nextRx ∧
     (asRead frameA).typ ≠ 8 ∧ (4 ≤ 4 ∨ (asRead frameA).typ ≠ 6)) ∧
    (1 < 6 ∧ linked.tailRuns = true ∧ linked.linkActive 1 = true ∧ linked.gov.boot ≠ 3 ∧ (linked.link 1).nextRx < 65536 ∧
     Frame.parse frameN.bytes = some (asRead frameN) ∧ (asRead frameN).typ ≠ 0 ∧ (asRead frameN).seq % 65536 = (linked.link 1).nextRx ∧
     (asRead frameN).typ ≠ 8 ∧ (4 ≤ 1 ∨ (asRead frameN).typ ≠ 6)) ∧
    (1 < 6 ∧ linked.tailRuns = true ∧ linked.linkActive 1 = true ∧ linked.gov.boot ≠ 3 ∧ (linked.link 1).nextRx < 65536 ∧
     Frame.parse frameO.bytes = some (asRead frameO) ∧ ((asRead frameO).typ = 0 ∨ (asRead frameO).seq % 65536 ≠ (linked.link 1).nextRx)) ∧
    (1 < 6 ∧ linked.tailRuns = true ∧ linked.linkActive 1 = true ∧ linked.gov.boot ≠ 3 ∧ (linked.link 1).nextRx < 65536 ∧
     Frame.parse frameC.bytes = some (asRead frameC) ∧ 1 < 4 ∧
     10 = ((asRead frameC).creditTotal + 65536 - (linked.stream (asRead frameC).creditStream).granted) % 65536 ∧ 0 < 10 ∧ 10 ≤ 32768) :=
  ⟨by decide +kernel, by decide +kernel, by decide +kernel, by decide +kernel, by decide +kernel, by decide +kernel, ⟨by decide +kernel, by decide +kernel⟩, ⟨by decide +kernel, by decide +kernel⟩, ⟨by decide +kernel, by decide +kernel, by decide +kernel⟩, ⟨by decide +kernel, by decide +kernel, by decide +kernel⟩, ⟨by decide +kernel, by decide +kernel⟩, ⟨by decide +kernel, by decide +kernel⟩, by decide +kernel, ⟨by decide +kernel, by decide +kernel⟩⟩

def earlier : State := { linked with clk := { linked.clk with now := sec 100 - us 1 } }

theorem witness_ReplayAndEscalation_1 :
    (2 < 6 ∧ linked.tailRuns = true ∧ linked.linkActive 2 = true ∧
     3 = (List.filter (fun e => decide (e.last + us 20 ≤ linked.clk.now)) (linked.link 2).replay).length ∧ 0 < 3) ∧
    (5 < 6 ∧ linked.tailRuns = true ∧ linked.linkActive 5 = true ∧
     3 = (List.filter (fun e => decide (e.last + us 20 ≤ linked.clk.now)) (linked.link 5).replay).length ∧ 0 < 3) ∧
    (2 < 6 ∧ linked.tailRuns = true ∧ linked.linkActive 2 = true ∧ (∃ e, e ∈ (linked.link 2).replay ∧ e.first + us 50 ≤ linked.clk.now)) :=
  ⟨by decide +kernel, by decide +kernel, by decide +kernel⟩

theorem witness_ReplayAndEscalation_2 :
    (earlier.tailRuns = false ∨ earlier.linkActive 2 = false ∨ ∀ (e : Sent), e ∈ (earlier.link 2).replay → earlier.clk.now < e.last + us 20) := by decide +kernel

theorem witness_ReplayAndEscalation_3 :
    (6 ≤ 2 ∨ earlier.tailRuns = false ∨ earlier.linkActive 2 = false ∨ ∀ (e : Sent), e ∈ (earlier.link 2).replay → earlier.clk.now < e.first + us 50) := by decide +kernel

def streaming (x : Stream) : State := ((linked.wr O.STREAM_ROW 5).setLink 1 {}).setStream 5 x
def recsStream (st granted : Nat) : Stream := { kind := 4, state := st, group := 1, a := 3, b := 70, granted := granted }
def openStream (st granted : Nat) : State := streaming (recsStream st granted)
def doneStream (k : Nat) : State := streaming { kind := k, frames := 7, state := 3, group := 1 }
def snapStream : State := streaming { kind := 5, a := 2 }
def snapStream2 : State := { snapStream with farm := { snapStream.farm with planes := [(2, { cfg := { kind := 1 } })] } }
def snapStream3 : State := { snapStream2.wr O.PLANE_FRAMES 0 with farm := { snapStream2.farm with snaps := (List.range 16).map (fun i => { plane := 1, frame := i, touched := 0 }) } }
/-- What the next frame of stream 5 is made of. -/
def nextOf (s : State) : Stream × Nat × List Nat × List Nat × Bool × Bool :=
  match s.nextFrame 5 with
  | .frame y typ sub recs missing last => (y, typ, sub, recs, missing, last)
  | .skip y => (y, 0, [], [], false, false)
  | .wait => ({}, 0, [], [], false, false)
def frameOf (x : Stream × Nat × List Nat × List Nat × Bool × Bool) : Frame :=
  { typ := x.2.1, stream := 5, flags := at_ x.2.2.2.2.2 0 + at_ x.2.2.2.2.1 3, data := padTo 16 x.2.2.1 ++ x.2.2.2.1 }
def noRoom : State := (openStream 1 1000).setLink 1 { replay := [{ frame := { data := List.replicate 65500 0 }, first := 0, last := 0 }] }
def noStoreCredit : State := { openStream 1 1000 with pond := { at2.pond with credit4 := 0, creditAt := at2.clk.now } }
def starved : State := streaming { recsStream 1 10 with lackSince := some 5 }
def starvesNow : State := streaming { recsStream 1 10 with lackSince := some at2.clk.now }
/-- Stream 5 delivers the grains of entry 0; its second entry is open; the third has gone. -/
def grainStream (b : Nat) : Stream := { kind := 1, state := 1, group := 1, a := 0, b := b, chans := 3, granted := 1000 }
def grainsDue (b : Nat) : State := { streaming (grainStream b) with dir := { at2.dir with rows := [(0, { entA with seq := 0 })], nextSeq := 1 } }
def grainsSkipped : State := (grainsDue 3).setStream 5 { grainStream 3 with chans := 0 }
def grainEnt : Entry := { entA with seq := 0 }

theorem witness_Deliveries_1 :
    (Admitted (openStream 2 0) Path.sdo O.STREAM_GO 1 ∧ 5 = (openStream 2 0).streamRow ∧ ((openStream 2 0).stream 5).open_ = true) ∧
    (Admitted (doneStream 0) Path.sdo O.STREAM_GO 1 ∧ 5 = (doneStream 0).streamRow ∧ ((doneStream 0).stream 5).open_ = false ∧
     ((doneStream 0).stream 5).kind = 0) ∧
    (Admitted (doneStream 1) Path.sdo O.STREAM_GO 1 ∧ 5 = (doneStream 1).streamRow ∧ ((doneStream 1).stream 5).open_ = false ∧
     ((doneStream 1).stream 5).kind ≠ 0 ∧ ((doneStream 1).stream 5).kind ≠ 5) ∧
    (Admitted (doneStream 6) Path.od O.STREAM_GO 1 ∧ 5 = (doneStream 6).streamRow ∧ ((doneStream 6).stream 5).open_ = false ∧
     ((doneStream 6).stream 5).kind ≠ 0 ∧ ((doneStream 6).stream 5).kind ≠ 5) ∧
    (Admitted snapStream Path.sdo O.STREAM_GO 1 ∧ 5 = snapStream.streamRow ∧ (snapStream.stream 5).open_ = false ∧ (snapStream.stream 5).kind = 5 ∧
     snapStream.planeInUse (snapStream.stream 5).a = false) ∧
    (Admitted snapStream3 Path.sdo O.STREAM_GO 1 ∧ 5 = snapStream3.streamRow ∧ (snapStream3.stream 5).open_ = false ∧ (snapStream3.stream 5).kind = 5 ∧
     snapStream3.planeInUse (snapStream3.stream 5).a = true ∧ snapStream3.snapFrame = none) ∧
    (Admitted snapStream2 Path.sdo O.STREAM_GO 1 ∧ 5 = snapStream2.streamRow ∧ (snapStream2.stream 5).open_ = false ∧ (snapStream2.stream 5).kind = 5 ∧
     snapStream2.planeInUse (snapStream2.stream 5).a = true ∧ snapStream2.snapFrame = some 0) ∧
    (Admitted (openStream 1 0) Path.sdo O.STREAM_ABORT 1 ∧ 5 = (openStream 1 0).streamRow ∧ ((openStream 1 0).stream 5).open_ = true) ∧
    (Admitted (doneStream 1) Path.sdo O.STREAM_ABORT 1 ∧ 5 = (doneStream 1).streamRow ∧ ((doneStream 1).stream 5).open_ = false) :=
  ⟨⟨adm_of (by decide +kernel), by decide +kernel⟩, ⟨adm_of (by decide +kernel), by decide +kernel⟩, ⟨adm_of (by decide +kernel), by decide +kernel⟩, ⟨adm_of (by decide +kernel), by decide +kernel⟩, ⟨adm_of (by decide +kernel), by decide +kernel⟩, ⟨adm_of (by decide +kernel), by decide +kernel⟩, ⟨adm_of (by decide +kernel), by decide +kernel⟩, ⟨adm_of (by decide +kernel), by decide +kernel⟩, ⟨adm_of (by decide +kernel), by decide +kernel⟩⟩

theorem witness_Deliveries_2 :
    (2 ≤ 5 ∧ 5 < 16 ∧ (noRoom.stream 5).state = 1 ∧ noRoom.storeServes = true ∧
     State.nextFrame 5 noRoom = NextFrame.frame (nextOf noRoom).fst (nextOf noRoom).snd.fst (nextOf noRoom).snd.snd.fst (nextOf noRoom).snd.snd.snd.fst (nextOf noRoom).snd.snd.snd.snd.fst (nextOf noRoom).snd.snd.snd.snd.snd ∧
     (frameOf (nextOf noRoom) = { typ := (nextOf noRoom).snd.fst, stream := 5, flags := at_ (nextOf noRoom).snd.snd.snd.snd.snd 0 + at_ (nextOf noRoom).snd.snd.snd.snd.fst 3, data := padTo 16 (nextOf noRoom).snd.snd.fst ++ (nextOf noRoom).snd.snd.snd.fst }) ∧
     (noRoom.stream 5).group < 4 ∧ noRoom.roomFor (noRoom.stream 5).group (frameOf (nextOf noRoom)).len = false) ∧
    (2 ≤ 5 ∧ 5 < 16 ∧ ((openStream 1 10).stream 5).state = 1 ∧ (openStream 1 10).storeServes = true ∧
     State.nextFrame 5 (openStream 1 10) = NextFrame.frame (nextOf (openStream 1 10)).fst (nextOf (openStream 1 10)).snd.fst (nextOf (openStream 1 10)).snd.snd.fst (nextOf (openStream 1 10)).snd.snd.snd.fst (nextOf (openStream 1 10)).snd.snd.snd.snd.fst (nextOf (openStream 1 10)).snd.snd.snd.snd.snd ∧
     (frameOf (nextOf (openStream 1 10)) = { typ := (nextOf (openStream 1 10)).snd.fst, stream := 5, flags := at_ (nextOf (openStream 1 10)).snd.snd.snd.snd.snd 0 + at_ (nextOf (openStream 1 10)).snd.snd.snd.snd.fst 3, data := padTo 16 (nextOf (openStream 1 10)).snd.snd.fst ++ (nextOf (openStream 1 10)).snd.snd.snd.fst }) ∧
     ((openStream 1 10).stream 5).group < 4 ∧
     (openStream 1 10).roomFor ((openStream 1 10).stream 5).group (frameOf (nextOf (openStream 1 10))).len = true ∧
     ((openStream 1 10).stream 5).credit < Frame.cost ((openStream 1 10).stream 5).group (frameOf (nextOf (openStream 1 10)))) ∧
    (2 ≤ 5 ∧ 5 < 16 ∧ (noStoreCredit.stream 5).state = 1 ∧ noStoreCredit.storeServes = true ∧
     State.nextFrame 5 noStoreCredit = NextFrame.frame (nextOf noStoreCredit).fst (nextOf noStoreCredit).snd.fst (nextOf noStoreCredit).snd.snd.fst (nextOf noStoreCredit).snd.snd.snd.fst (nextOf noStoreCredit).snd.snd.snd.snd.fst (nextOf noStoreCredit).snd.snd.snd.snd.snd ∧
     (frameOf (nextOf noStoreCredit) = { typ := (nextOf noStoreCredit).snd.fst, stream := 5, flags := at_ (nextOf noStoreCredit).snd.snd.snd.snd.snd 0 + at_ (nextOf noStoreCredit).snd.snd.snd.snd.fst 3, data := padTo 16 (nextOf noStoreCredit).snd.snd.fst ++ (nextOf noStoreCredit).snd.snd.snd.fst }) ∧
     (noStoreCredit.stream 5).group < 4 ∧ noStoreCredit.roomFor (noStoreCredit.stream 5).group (frameOf (nextOf noStoreCredit)).len = true ∧
     Frame.cost (noStoreCredit.stream 5).group (frameOf (nextOf noStoreCredit)) ≤ (noStoreCredit.stream 5).credit ∧
     (State.takeCredit 4 (nextOf noStoreCredit).snd.snd.snd.fst.length noStoreCredit).snd = false) ∧
    (2 ≤ 5 ∧ 5 < 16 ∧ ((openStream 1 1000).stream 5).state = 1 ∧ (openStream 1 1000).storeServes = true ∧
     State.nextFrame 5 (openStream 1 1000) = NextFrame.frame (nextOf (openStream 1 1000)).fst (nextOf (openStream 1 1000)).snd.fst (nextOf (openStream 1 1000)).snd.snd.fst (nextOf (openStream 1 1000)).snd.snd.snd.fst (nextOf (openStream 1 1000)).snd.snd.snd.snd.fst (nextOf (openStream 1 1000)).snd.snd.snd.snd.snd ∧
     (frameOf (nextOf (openStream 1 1000)) = { typ := (nextOf (openStream 1 1000)).snd.fst, stream := 5, flags := at_ (nextOf (openStream 1 1000)).snd.snd.snd.snd.snd 0 + at_ (nextOf (openStream 1 1000)).snd.snd.snd.snd.fst 3, data := padTo 16 (nextOf (openStream 1 1000)).snd.snd.fst ++ (nextOf (openStream 1 1000)).snd.snd.snd.fst }) ∧
     ((openStream 1 1000).stream 5).group < 4 ∧
     (openStream 1 1000).roomFor ((openStream 1 1000).stream 5).group (frameOf (nextOf (openStream 1 1000))).len = true ∧
     Frame.cost ((openStream 1 1000).stream 5).group (frameOf (nextOf (openStream 1 1000))) ≤ ((openStream 1 1000).stream 5).credit ∧
     (openStream 1 1000).pond.credit4 = creditMax) :=
  ⟨by decide +kernel, by decide +kernel, ⟨by decide +kernel, by decide +kernel⟩, ⟨by decide +kernel, by decide +kernel⟩⟩

theorem witness_Deliveries_3 :
    (5 < 2 ∨ 16 ≤ 5 ∨ ((doneStream 1).stream 5).state ≠ 1 ∨ (doneStream 1).storeServes = false ∨ State.nextFrame 5 (doneStream 1) = NextFrame.wait) := by decide +kernel

theorem witness_Deliveries_4 :
    ((openStream 1 10).stream 5).kind = 4 ∧ ((openStream 1 10).stream 5).unit < ((openStream 1 10).stream 5).b ∧
    ((openStream 1 10).stream 5).a + ((openStream 1 10).stream 5).b ≤ 2097152 ∧
    63 = min 63 (((openStream 1 10).stream 5).b - ((openStream 1 10).stream 5).unit) ∧
    3 = ((openStream 1 10).stream 5).a + ((openStream 1 10).stream 5).unit := by decide +kernel

theorem witness_Deliveries_5 :
    (starved.stream 5).state = 1 ∧ (starved.stream 5).lackSince = some 5 ∧ 5 + ms (starved.rdN O.CREDIT_TIMEOUT) < starved.clk.now := by decide +kernel

theorem witness_Deliveries_6 :
    ((starvesNow.stream 5).state ≠ 1 ∨ ∀ (since : Time), (starvesNow.stream 5).lackSince = some since → starvesNow.clk.now ≤ since + ms (starvesNow.rdN O.CREDIT_TIMEOUT)) := by decide +kernel

theorem witness_Deliveries_7 :
    ((grainsDue 1).stream 5).kind = 1 ∧ ((grainsDue 1).stream 5).b ≠ 0 ∧ 0 = (((grainsDue 1).stream 5).a + ((grainsDue 1).stream 5).unit) % 2 ^ 32 ∧
    (grainsDue 1).entryOf 0 = some grainEnt ∧ grainEnt.state ≠ 1 ∧
    (List.filter (fun c => bit grainEnt.seg.chset c) (onesBelow ((grainsDue 1).stream 5).chans 4))[((grainsDue 1).stream 5).ch]? = some 0 ∧
    2 = min 42 (grainEnt.count - ((grainsDue 1).stream 5).pos) := by decide +kernel

theorem witness_Deliveries_8 :
    2 ≤ 5 ∧ 5 < 16 ∧ (grainsSkipped.stream 5).state = 1 ∧ grainsSkipped.storeServes = true ∧
    State.nextFrame 5 grainsSkipped = NextFrame.skip (nextOf grainsSkipped).fst := by decide +kernel

/-- Records of a bulk gate load: gate 7 enabled on channel 0; the same without a channel; the same with a reserved byte that is not 0. -/
def bulkA : List Nat :=
  leBytes 2 7 ++ [1, 0, 0, 0] ++ leBytes 2 2 ++ leBytes 4 0 ++ leBytes 2 65535 ++ leBytes 2 65535 ++ leBytes 8 4 ++ leBytes 8 500 ++ leBytes 4 1 ++
    [3, 0] ++ leBytes 2 65535 ++ leBytes 2 0 ++ List.replicate 6 0
def bulkB : List Nat := bulkA.set 36 0
def bulkC : List Nat := bulkA.set 42 1
def bulkVal (l : List (List Nat)) : Int := ofLe l.flatten
def cfgOf (l : List Nat) : GateCfg := match bulkCfg l with | .ok c => c | .error _ => {}

theorem witness_BulkGateLoads_1 :
    up.serves Path.od 22020 ∧ (∃ r, writeCheck 22020 1 49 (bulkVal [bulkA]) = Except.ok r) ∧ 49 % 48 ≠ 0 :=
  ⟨ser_of (by decide +kernel), ok_of (by decide +kernel), by decide +kernel⟩

theorem witness_BulkGateLoads_2 :
    (up.serves Path.od 22020 ∧ (∃ r, writeCheck 22020 1 48 (bulkVal [bulkA]) = Except.ok r) ∧
     List.map bulkCfg [bulkA] = List.map (fun c => Except.ok c) [cfgOf bulkA] ∧ 48 % 48 = 0 ∧
     piecesOf 48 (48 / 48) (leBytes 48 (bulkVal [bulkA]).toNat) = [bulkA] ++ [] ∧ (∀ (c : GateCfg), c ∈ [cfgOf bulkA] → c.refused = none) ∧
     ([] : List (List Nat)) = []) ∧
    (up.serves Path.od 22020 ∧ (∃ r, writeCheck 22020 1 96 (bulkVal [bulkA, bulkB]) = Except.ok r) ∧
     List.map bulkCfg [bulkA] = List.map (fun c => Except.ok c) [cfgOf bulkA] ∧ ((∃ e, bulkCfg bulkB = Except.error e ∧ 101253168 = e.abort ∧
     Why.GATE_CHANNELS = e.reason) ∨ ∃ c, bulkCfg bulkB = Except.ok c ∧ c.refused = some Why.GATE_CHANNELS ∧ 101253168 = 101253168) ∧ 96 % 48 = 0 ∧
     (piecesOf 48 (96 / 48) (leBytes 96 (bulkVal [bulkA, bulkB]).toNat) = [bulkA] ++ [bulkB]) ∧
     (∀ (c : GateCfg), c ∈ [cfgOf bulkA] → c.refused = none) ∧ [bulkB] = [bulkB]) ∧
    (up.serves Path.od 22020 ∧ (∃ r, writeCheck 22020 1 96 (bulkVal [bulkA, bulkC]) = Except.ok r) ∧
     List.map bulkCfg [bulkA] = List.map (fun c => Except.ok c) [cfgOf bulkA] ∧ ((∃ e, bulkCfg bulkC = Except.error e ∧ 101253168 = e.abort ∧
     Why.RESERVED_VALUE = e.reason) ∨ ∃ c, bulkCfg bulkC = Except.ok c ∧ c.refused = some Why.RESERVED_VALUE ∧ 101253168 = 101253168) ∧ 96 % 48 = 0 ∧
     (piecesOf 48 (96 / 48) (leBytes 96 (bulkVal [bulkA, bulkC]).toNat) = [bulkA] ++ [bulkC]) ∧
     (∀ (c : GateCfg), c ∈ [cfgOf bulkA] → c.refused = none) ∧ [bulkC] = [bulkC]) :=
  ⟨⟨ser_of (by decide +kernel), ok_of (by decide +kernel), congrArg (fun x => [x]) (ok_eq (by decide +kernel)), by decide +kernel⟩, ⟨ser_of (by decide +kernel), ok_of (by decide +kernel), congrArg (fun x => [x]) (ok_eq (by decide +kernel)), .inr ⟨cfgOf bulkB, ok_eq (by decide +kernel), by decide +kernel, rfl⟩, by decide +kernel⟩, ⟨ser_of (by decide +kernel), ok_of (by decide +kernel), congrArg (fun x => [x]) (ok_eq (by decide +kernel)), .inl ⟨{ abort := Why.badValue, reason := Why.RESERVED_VALUE }, err_eq (by decide +kernel), by decide +kernel, rfl⟩, by decide +kernel⟩⟩

/-! ### Witnesses: firmware update and trace -/

def ub (len dig : Nat) (s : State) : State := (s.wr (win .sdo O.UPD_LENGTH) len).wr (win .sdo O.UPD_DIGEST) dig
def sesA : Session := { source := 1, len := 300, digest := 77, last := 0 }
def session (x : Session) (s : State) : State := { s with upd := { s.upd with session := some x, source := x.source, state := 1 } }
def trial (s : State) : State := { s with upd := { s.upd with sel := { s.upd.sel with trial := true }, trialEnd := some 5 } }
def trialLater : State := { up with upd := { up.upd with sel := { up.upd.sel with trial := true }, trialEnd := some (sec 101) } }
def banked : State := { ub 300 78 up with upd := { up.upd with banks := [(0, { marker := some (256, 0) }), (1, { marker := some (300, 78) })] } }
def sesB : Session := { sesA with source := 3 }
def sesTail : Session := { sesA with source := 2 }

theorem witness_UpdateCommands_1 :
    ((ub 255 5 up).judges Path.sdo ∧ 255 = (ub 255 5 up).rdN (win Path.sdo O.UPD_LENGTH) ∧ 5 = (ub 255 5 up).rdN (win Path.sdo O.UPD_DIGEST) ∧
     (ub 255 5 up).cell 48 = Cell.accept ∧ (255 < 256 ∨ 50331648 < 255)) ∧
    ((ub 50331649 5 up).judges Path.sdo ∧ 50331649 = (ub 50331649 5 up).rdN (win Path.sdo O.UPD_LENGTH) ∧
     5 = (ub 50331649 5 up).rdN (win Path.sdo O.UPD_DIGEST) ∧ (ub 50331649 5 up).cell 48 = Cell.accept ∧ (50331649 < 256 ∨ 50331648 < 50331649)) ∧
    ((session sesB (ub 300 77 up)).judges Path.sdo ∧ 300 = (session sesB (ub 300 77 up)).rdN (win Path.sdo O.UPD_LENGTH) ∧
     77 = (session sesB (ub 300 77 up)).rdN (win Path.sdo O.UPD_DIGEST) ∧ (session sesB (ub 300 77 up)).cell 48 = Cell.accept ∧ 256 ≤ 300 ∧
     300 ≤ 50331648 ∧ (session sesB (ub 300 77 up)).upd.session = some sesB ∧ sesB.digest = 77) ∧
    ((session sesA (ub 300 77 up)).judges Path.sdo ∧ 300 = (session sesA (ub 300 77 up)).rdN (win Path.sdo O.UPD_LENGTH) ∧
     77 = (session sesA (ub 300 77 up)).rdN (win Path.sdo O.UPD_DIGEST) ∧ (session sesA (ub 300 77 up)).cell 48 = Cell.accept ∧ 256 ≤ 300 ∧
     300 ≤ 50331648 ∧ (session sesA (ub 300 77 up)).upd.session = some sesA ∧ sesA.digest = 77) ∧
    ((session sesA (ub 300 78 up)).judges Path.sdo ∧ 300 = (session sesA (ub 300 78 up)).rdN (win Path.sdo O.UPD_LENGTH) ∧
     78 = (session sesA (ub 300 78 up)).rdN (win Path.sdo O.UPD_DIGEST) ∧ (session sesA (ub 300 78 up)).cell 48 = Cell.accept ∧ 256 ≤ 300 ∧
     300 ≤ 50331648 ∧ ((∃ x, (session sesA (ub 300 78 up)).upd.session = some x ∧ x.digest ≠ 78) ∨ (session sesA (ub 300 78 up)).upd.session = none ∧
     (session sesA (ub 300 78 up)).upd.sel.trial = true)) ∧
    ((trial (ub 300 78 up)).judges Path.sdo ∧ 300 = (trial (ub 300 78 up)).rdN (win Path.sdo O.UPD_LENGTH) ∧
     78 = (trial (ub 300 78 up)).rdN (win Path.sdo O.UPD_DIGEST) ∧ (trial (ub 300 78 up)).cell 48 = Cell.accept ∧ 256 ≤ 300 ∧ 300 ≤ 50331648 ∧
     ((∃ x, (trial (ub 300 78 up)).upd.session = some x ∧ x.digest ≠ 78) ∨ (trial (ub 300 78 up)).upd.session = none ∧
     (trial (ub 300 78 up)).upd.sel.trial = true)) ∧
    (banked.judges Path.sdo ∧ 300 = banked.rdN (win Path.sdo O.UPD_LENGTH) ∧ 78 = banked.rdN (win Path.sdo O.UPD_DIGEST) ∧
     banked.cell 48 = Cell.accept ∧ 256 ≤ 300 ∧ 300 ≤ 50331648 ∧ banked.upd.session = none ∧ banked.upd.sel.trial = false ∧
     ((banked.bank banked.upd.sel.active).digest = some 78 ∨ banked.spareBankReady = true ∧ (banked.bank banked.upd.inactive).digest = some 78)) ∧
    ((ub 256 79 banked).judges Path.sdo ∧ 256 = (ub 256 79 banked).rdN (win Path.sdo O.UPD_LENGTH) ∧
     79 = (ub 256 79 banked).rdN (win Path.sdo O.UPD_DIGEST) ∧ (ub 256 79 banked).cell 48 = Cell.accept ∧ 256 ≤ 256 ∧ 256 ≤ 50331648 ∧
     (ub 256 79 banked).upd.session = none ∧ (ub 256 79 banked).upd.sel.trial = false ∧
     ((ub 256 79 banked).bank (ub 256 79 banked).upd.sel.active).digest ≠ some 79 ∧
     ((ub 256 79 banked).spareBankReady = false ∨ ((ub 256 79 banked).bank (ub 256 79 banked).upd.inactive).digest ≠ some 79)) :=
  ⟨⟨jud_of (by decide +kernel), by decide +kernel⟩, ⟨jud_of (by decide +kernel), by decide +kernel⟩, ⟨jud_of (by decide +kernel), by decide +kernel⟩, ⟨jud_of (by decide +kernel), by decide +kernel⟩, ⟨jud_of (by decide +kernel), by decide +kernel⟩, ⟨jud_of (by decide +kernel), by decide +kernel⟩, ⟨jud_of (by decide +kernel), by decide +kernel⟩, ⟨jud_of (by decide +kernel), by decide +kernel⟩⟩

theorem witness_UpdateCommands_2 :
    (up.judges Path.sdo ∧ up.cell 49 = Cell.accept ∧ (∀ (x : Session), up.upd.session = some x → x.source ≠ pathSource Path.sdo ∨ x.due ≠ none)) ∧
    ((session sesA up).judges Path.sdo ∧ (session sesA up).cell 49 = Cell.accept ∧ (session sesA up).upd.session = some sesA ∧
     sesA.source = pathSource Path.sdo ∧ sesA.due = none ∧ List.length (session sesA up).upd.staging < sesA.len) :=
  ⟨⟨jud_of (by decide +kernel), by decide +kernel⟩, ⟨jud_of (by decide +kernel), by decide +kernel⟩⟩

def staged (x : Session) : State :=
  { session x up with upd := { (session x up).upd with staging := (List.range 300).map (fun i => (i, i % 256)) } }
def damaged (x : Session) : State := { staged x with pond := { up.pond with stagingDamaged := true } }

theorem witness_UpdateCommands_3 :
    ((damaged sesA).judges Path.sdo ∧ (damaged sesA).cell 49 = Cell.accept ∧ (damaged sesA).upd.session = some sesA ∧
     sesA.source = pathSource Path.sdo ∧ sesA.due = none ∧ sesA.len ≤ List.length (damaged sesA).upd.staging ∧
     (damaged sesA).pond.stagingDamaged = true) ∧
    ((staged sesA).judges Path.sdo ∧ (staged sesA).cell 49 = Cell.accept ∧ (staged sesA).upd.session = some sesA ∧ sesA.source = pathSource Path.sdo ∧
     sesA.due = none ∧ sesA.len ≤ List.length (staged sesA).upd.staging ∧ (staged sesA).pond.stagingDamaged = false ∧ (staged sesA).gov.boot ≠ 3) :=
  ⟨⟨jud_of (by decide +kernel), by decide +kernel⟩, ⟨jud_of (by decide +kernel), by decide +kernel⟩⟩

def staged10 : State := (staged sesA).wr (win .sdo O.UPD_OFFSET) 10
def staged298 : State := (staged sesA).wr (win .sdo O.UPD_OFFSET) 298
def sesDup : Session := { sesB with dups := [1] }
def dupA : State := session sesDup up
def accA : Acc := { path := .sdo, write := true, idx := 0x5800, sub := 6, len := 4, v := 0x08070605 }
def updA : Frame := updFrame 20 [1, 2, 3]
def updQueued (x : Session) : State := session x { up with tail := { up.tail with updQueue := [(1, updA), (4, updA)] } }
def sesDue : Session := { sesA with due := some 5 }
def sesFresh : Session := { sesA with last := at2.clk.now }

theorem witness_ImageData_1 :
    (staged10.serves Path.sdo 22528 ∧ (∃ r, writeCheck 22528 6 4 134678021 = Except.ok r) ∧
     (accA = { path := Path.sdo, write := true, idx := 22528, sub := 6, len := 4, v := 134678021 }) ∧ staged10.upd.session = some sesA ∧
     sesA.source = pathSource Path.sdo ∧ 10 = staged10.rdN (win Path.sdo O.UPD_OFFSET) ∧ 10 + 4 ≤ sesA.len) ∧
    (staged298.serves Path.sdo 22528 ∧ (∃ r, writeCheck 22528 6 4 134678021 = Except.ok r) ∧
     (accA = { path := Path.sdo, write := true, idx := 22528, sub := 6, len := 4, v := 134678021 }) ∧ staged298.upd.session = some sesA ∧
     sesA.source = pathSource Path.sdo ∧ sesA.len < staged298.rdN (win Path.sdo O.UPD_OFFSET) + 4) ∧
    (up.serves Path.sdo 22528 ∧ (∃ r, writeCheck 22528 6 4 134678021 = Except.ok r) ∧
     (accA = { path := Path.sdo, write := true, idx := 22528, sub := 6, len := 4, v := 134678021 }) ∧
     (∀ (x : Session), up.upd.session = some x → x.source ≠ pathSource Path.sdo ∧ ¬pathSource Path.sdo ∈ x.dups)) ∧
    (dupA.serves Path.sdo 22528 ∧ (∃ r, writeCheck 22528 6 4 134678021 = Except.ok r) ∧
     (accA = { path := Path.sdo, write := true, idx := 22528, sub := 6, len := 4, v := 134678021 }) ∧ dupA.upd.session = some sesDup ∧
     sesDup.source ≠ pathSource Path.sdo ∧ pathSource Path.sdo ∈ sesDup.dups) :=
  ⟨⟨ser_of (by decide +kernel), ok_of (by decide +kernel), by decide +kernel⟩, ⟨ser_of (by decide +kernel), ok_of (by decide +kernel), by decide +kernel⟩, ⟨ser_of (by decide +kernel), ok_of (by decide +kernel), by decide +kernel⟩, ⟨ser_of (by decide +kernel), ok_of (by decide +kernel), by decide +kernel⟩⟩

theorem witness_ImageData_2 :
    (up.tail.updQueue = [] ∨ up.storeServes = false ∧ up.gov.boot ≠ 3) := by decide +kernel

theorem witness_ImageData_3 :
    ((updQueued sesTail).storeServes = true ∧ ((updQueued sesTail).tail.updQueue = [(1, updA), (4, updA)]) ∧ 20 = fieldOf updA.data 0 4 ∧
     (2 = if 1 < 4 then 2 else 1 - 1) ∧ (1 < 4 ∨ 20 ≠ offerAt ∧ 20 ≠ answerAt ∧ 20 ≠ endAt) ∧ (updQueued sesTail).upd.session = some sesTail ∧
     sesTail.source = 2 ∧ 20 + updA.image.length ≤ sesTail.len ∧ 20 < offerAt) ∧
    ((updQueued sesB).storeServes = true ∧ ((updQueued sesB).tail.updQueue = [(1, updA), (4, updA)]) ∧ 20 = fieldOf updA.data 0 4 ∧
     (2 = if 1 < 4 then 2 else 1 - 1) ∧ (1 < 4 ∨ 20 ≠ offerAt ∧ 20 ≠ answerAt ∧ 20 ≠ endAt) ∧
     (∀ (x : Session), (updQueued sesB).upd.session = some x → x.source ≠ 2 ∨ x.len < 20 + updA.image.length ∨ offerAt ≤ 20)) :=
  ⟨by decide +kernel, by decide +kernel⟩

theorem witness_ImageData_4 :
    (session sesA up).upd.session = some sesA ∧ sesA.due = none ∧ sesA.last + sec 60 ≤ (session sesA up).clk.now := by decide +kernel

theorem witness_ImageData_5 :
    (∀ (x : Session), (session sesFresh up).upd.session = some x → x.due ≠ none ∨ (session sesFresh up).clk.now < x.last + sec 60) := by decide +kernel

theorem witness_ImageData_6 :
    (Admitted (session sesA up) Path.sdo O.UPD_ABORT 1 ∧ (session sesA up).upd.session = some sesA ∧ sesA.source = pathSource Path.sdo ∧
     sesA.due = none) ∧
    (Admitted (session sesA up) Path.od O.UPD_ABORT 1 ∧ (∀ (x : Session), (session sesA up).upd.session = some x → x.source ≠ pathSource Path.od)) ∧
    (Admitted (session sesDue up) Path.sdo O.UPD_ABORT 1 ∧ (session sesDue up).upd.session = some sesDue ∧ sesDue.source = pathSource Path.sdo ∧
     sesDue.due ≠ none) :=
  ⟨⟨adm_of (by decide +kernel), by decide +kernel⟩, ⟨adm_of (by decide +kernel), by decide +kernel⟩, ⟨adm_of (by decide +kernel), by decide +kernel⟩⟩

def sesWrites (src : Nat) : Session := { sesA with source := src, due := some 5 }
def written (src : Nat) : State := (staged (sesWrites src)).wr O.FORWARD_ENABLE 3
def hdrA : List Nat := List.replicate 16 0 ++ leBytes 4 300 ++ List.replicate 12 0 ++ leBytes 32 99 ++ List.replicate 192 0
def offerA : Frame := updFrame offerAt hdrA
def endA : Frame := updFrame endAt []
def answerA (c : Nat) : Frame := updFrame answerAt [c, 0, 0, 0]
def offered (g : Nat) : State := { up with upd := banked.upd, tail := { up.tail with updQueue := [(g, offerA)] } }
def offerBlocked : State := { offered 4 with tail := { (offered 4).tail with out := [(4, endA)] } }
def offerBusy : State := session sesA (offered 4)
def sesTwice : Session := { sesA with digest := 99 }
def offerTwice : State := session sesTwice (offered 4)
def offerHeld : State := { offered 4 with upd := { up.upd with banks := [(0, { marker := some (300, 99) }), (1, { marker := some (300, 78) })] } }
def ended (g : Nat) (s : State) : State := { s with tail := { s.tail with updQueue := [(g, endA)] } }
def endBlocked : State := { ended 4 up with tail := { (ended 4 up).tail with out := [(4, endA)] } }
def told (k c st fl : Nat) : State :=
  { up with tail := { up.tail with updQueue := [(4 + k, answerA c)] },
            upd := { up.upd with staged := some (300, 77), staging := (List.range 300).map (fun i => (i, 1)),
                                 fwd := [(k, { state := st, asked := some 5, failed := fl })] } }
def retrying : State := { up with upd := { up.upd with fwd := [(1, { state := 2, retryAt := some 5, failed := 1 })] } }
def sideDown : State := { retrying with tail := { up.tail with out := [(5, endA)] } }
def retryLater : State := { up with upd := { up.upd with fwd := [(1, { state := 2, retryAt := some (sec 101), failed := 1 })] } }

theorem witness_BankAndForwarding_1 :
    ((written 1).upd.session = some (sesWrites 1) ∧ (sesWrites 1).due = some 5 ∧ 5 ≤ (written 1).clk.now ∧ (written 1).gov.boot ≠ 3 ∧
     (written 1).tail.out = []) ∧
    ((written 3).upd.session = some (sesWrites 3) ∧ (sesWrites 3).due = some 5 ∧ 5 ≤ (written 3).clk.now ∧ (written 3).gov.boot ≠ 3 ∧
     (written 3).tail.out = []) ∧
    ((written 3).upd.session = some (sesWrites 3) ∧ (sesWrites 3).due = some 5 ∧ 5 ≤ (written 3).clk.now ∧ (written 3).gov.boot ≠ 3) :=
  ⟨by decide +kernel, by decide +kernel, by decide +kernel⟩

theorem witness_BankAndForwarding_2 :
    (∀ (x : Session), up.upd.session = some x → ∀ (d : Time), x.due = some d → up.clk.now < d) := by decide +kernel

theorem witness_BankAndForwarding_3 :
    ((offerBlocked.tail.updQueue = [(4, offerA)]) ∧ (4 = 4 ∨ 4 = 5) ∧ fieldOf offerA.data 0 4 = offerAt ∧
     (offerBlocked.dev = DevMode.sleep ∨ offerBlocked.outWaits 4 = true)) ∧
    (((offered 4).tail.updQueue = [(4, offerA)]) ∧ (4 = 4 ∨ 4 = 5) ∧ fieldOf offerA.data 0 4 = offerAt ∧ (offered 4).dev ≠ DevMode.sleep ∧
     (offered 4).outWaits 4 = false) ∧
    (((offered 5).tail.updQueue = [(5, offerA)]) ∧ (5 = 4 ∨ 5 = 5) ∧ fieldOf offerA.data 0 4 = offerAt ∧ (offered 5).dev ≠ DevMode.sleep ∧
     (offered 5).outWaits 5 = false ∧ (offered 5).judgeUpdate (fieldOf offerA.image 16 4) (fieldOf offerA.image 32 32) = Verdict.opened) ∧
    ((offerHeld.tail.updQueue = [(4, offerA)]) ∧ (4 = 4 ∨ 4 = 5) ∧ fieldOf offerA.data 0 4 = offerAt ∧ offerHeld.dev ≠ DevMode.sleep ∧
     offerHeld.outWaits 4 = false ∧ offerHeld.judgeUpdate (fieldOf offerA.image 16 4) (fieldOf offerA.image 32 32) = Verdict.held) ∧
    ((offerTwice.tail.updQueue = [(4, offerA)]) ∧ (4 = 4 ∨ 4 = 5) ∧ fieldOf offerA.data 0 4 = offerAt ∧ offerTwice.dev ≠ DevMode.sleep ∧
     offerTwice.outWaits 4 = false ∧ offerTwice.judgeUpdate (fieldOf offerA.image 16 4) (fieldOf offerA.image 32 32) = Verdict.dup ∧
     offerTwice.upd.session = some sesTwice) ∧
    ((offerBusy.tail.updQueue = [(4, offerA)]) ∧ (4 = 4 ∨ 4 = 5) ∧ fieldOf offerA.data 0 4 = offerAt ∧ offerBusy.dev ≠ DevMode.sleep ∧
     offerBusy.outWaits 4 = false ∧
     (offerBusy.judgeUpdate (fieldOf offerA.image 16 4) (fieldOf offerA.image 32 32) ∈ [Verdict.tooLarge, Verdict.busy])) :=
  ⟨by decide +kernel, by decide +kernel, by decide +kernel, by decide +kernel, by decide +kernel, by decide +kernel⟩

theorem witness_BankAndForwarding_4 :
    ((endBlocked.tail.updQueue = [(4, endA)]) ∧ (4 = 4 ∨ 4 = 5) ∧ fieldOf endA.data 0 4 = endAt ∧
     (endBlocked.dev = DevMode.sleep ∨ endBlocked.outWaits 4 = true)) ∧
    (((ended 4 (staged sesB)).tail.updQueue = [(4, endA)]) ∧ (4 = 4 ∨ 4 = 5) ∧ fieldOf endA.data 0 4 = endAt ∧
     (ended 4 (staged sesB)).dev ≠ DevMode.sleep ∧ (ended 4 (staged sesB)).outWaits 4 = false ∧ (ended 4 (staged sesB)).upd.session = some sesB ∧
     sesB.source = 4 - 1 ∧ sesB.due = none ∧ sesB.len ≤ List.length (ended 4 (staged sesB)).upd.staging ∧
     (ended 4 (staged sesB)).pond.stagingDamaged = false ∧ (ended 4 (staged sesB)).gov.boot ≠ 3) ∧
    (((ended 4 (damaged sesB)).tail.updQueue = [(4, endA)]) ∧ (4 = 4 ∨ 4 = 5) ∧ fieldOf endA.data 0 4 = endAt ∧
     (ended 4 (damaged sesB)).dev ≠ DevMode.sleep ∧ (ended 4 (damaged sesB)).outWaits 4 = false ∧ (ended 4 (damaged sesB)).upd.session = some sesB ∧
     sesB.source = 4 - 1 ∧ sesB.due = none ∧ sesB.len ≤ List.length (ended 4 (damaged sesB)).upd.staging ∧
     (ended 4 (damaged sesB)).pond.stagingDamaged = true) ∧
    (((ended 4 (session sesB up)).tail.updQueue = [(4, endA)]) ∧ (4 = 4 ∨ 4 = 5) ∧ fieldOf endA.data 0 4 = endAt ∧
     (ended 4 (session sesB up)).dev ≠ DevMode.sleep ∧ (ended 4 (session sesB up)).outWaits 4 = false ∧
     (ended 4 (session sesB up)).upd.session = some sesB ∧ sesB.source = 4 - 1 ∧ sesB.due = none ∧
     List.length (ended 4 (session sesB up)).upd.staging < sesB.len) ∧
    (((ended 5 up).tail.updQueue = [(5, endA)]) ∧ (5 = 4 ∨ 5 = 5) ∧ fieldOf endA.data 0 4 = endAt ∧ (ended 5 up).dev ≠ DevMode.sleep ∧
     (ended 5 up).outWaits 5 = false ∧ (∀ (x : Session), (ended 5 up).upd.session = some x → x.source ≠ 5 - 1 ∨ x.due ≠ none)) :=
  ⟨by decide +kernel, ⟨by decide +kernel, by decide +kernel, by decide +kernel⟩, ⟨by decide +kernel, by decide +kernel⟩, by decide +kernel, by decide +kernel⟩

theorem witness_BankAndForwarding_5 :
    (1 < 2 ∧ ((told 1 0 2 2).tail.updQueue = [(4 + 1, answerA 0)]) ∧ fieldOf (answerA 0).data 0 4 = answerAt ∧
     (((told 1 0 2 2).fwd 1).state = 2 ∨ ((told 1 0 2 2).fwd 1).state = 3) ∧ ((told 1 0 2 2).fwd 1).state = 2 ∧ fieldOf (answerA 0).image 0 1 = 0) ∧
    (1 < 2 ∧ ((told 1 1 2 2).tail.updQueue = [(4 + 1, answerA 1)]) ∧ fieldOf (answerA 1).data 0 4 = answerAt ∧
     (((told 1 1 2 2).fwd 1).state = 2 ∨ ((told 1 1 2 2).fwd 1).state = 3) ∧ (fieldOf (answerA 1).image 0 1 = 1 ∨ fieldOf (answerA 1).image 0 1 = 3)) ∧
    (1 < 2 ∧ ((told 1 3 3 2).tail.updQueue = [(4 + 1, answerA 3)]) ∧ fieldOf (answerA 3).data 0 4 = answerAt ∧
     (((told 1 3 3 2).fwd 1).state = 2 ∨ ((told 1 3 3 2).fwd 1).state = 3) ∧ (fieldOf (answerA 3).image 0 1 = 1 ∨ fieldOf (answerA 3).image 0 1 = 3)) ∧
    (1 < 2 ∧ ((told 1 2 2 2).tail.updQueue = [(4 + 1, answerA 2)]) ∧ fieldOf (answerA 2).data 0 4 = answerAt ∧
     (((told 1 2 2 2).fwd 1).state = 2 ∨ ((told 1 2 2 2).fwd 1).state = 3) ∧ fieldOf (answerA 2).image 0 1 = 2) ∧
    (1 < 2 ∧ ((told 1 4 2 2).tail.updQueue = [(4 + 1, answerA 4)]) ∧ fieldOf (answerA 4).data 0 4 = answerAt ∧
     (((told 1 4 2 2).fwd 1).state = 2 ∨ ((told 1 4 2 2).fwd 1).state = 3) ∧ fieldOf (answerA 4).image 0 1 = 4) ∧
    (1 < 2 ∧ ((told 1 5 2 2).tail.updQueue = [(4 + 1, answerA 5)]) ∧ fieldOf (answerA 5).data 0 4 = answerAt ∧
     (((told 1 5 2 2).fwd 1).state = 2 ∨ ((told 1 5 2 2).fwd 1).state = 3) ∧ fieldOf (answerA 5).image 0 1 = 5) ∧
    (0 < 2 ∧ ((told 0 5 3 1).tail.updQueue = [(4 + 0, answerA 5)]) ∧ fieldOf (answerA 5).data 0 4 = answerAt ∧
     (((told 0 5 3 1).fwd 0).state = 2 ∨ ((told 0 5 3 1).fwd 0).state = 3) ∧ fieldOf (answerA 5).image 0 1 = 5) ∧
    (1 < 2 ∧ ((told 1 0 5 0).tail.updQueue = [(4 + 1, answerA 0)]) ∧ fieldOf (answerA 0).data 0 4 = answerAt ∧ ((told 1 0 5 0).fwd 1).state ≠ 2 ∧
     ((told 1 0 5 0).fwd 1).state ≠ 3) :=
  ⟨by decide +kernel, by decide +kernel, by decide +kernel, by decide +kernel, by decide +kernel, by decide +kernel, by decide +kernel, by decide +kernel⟩

theorem witness_BankAndForwarding_6 :
    (1 < 2 ∧ ((told 1 0 2 0).fwd 1).asked = some 5 ∧ 5 + sec 1 ≤ (told 1 0 2 0).clk.now) ∧
    (1 < 2 ∧ (retrying.fwd 1).asked = none ∧ (retrying.fwd 1).retryAt = some 5 ∧ 5 ≤ retrying.clk.now ∧ retrying.tailRuns = true ∧
     retrying.linkActive (4 + 1) = true ∧ retrying.outWaits (4 + 1) = false) ∧
    (1 < 2 ∧ (sideDown.fwd 1).asked = none ∧ (sideDown.fwd 1).retryAt = some 5 ∧ 5 ≤ sideDown.clk.now ∧
     (sideDown.tailRuns = false ∨ sideDown.linkActive (4 + 1) = false ∨ sideDown.outWaits (4 + 1) = true)) ∧
    (1 < 2 ∧ (∀ (since : Time), (retryLater.fwd 1).asked = some since → retryLater.clk.now < since + sec 1) ∧
     ((retryLater.fwd 1).asked = none → ∀ (at_ : Time), (retryLater.fwd 1).retryAt = some at_ → retryLater.clk.now < at_)) :=
  ⟨by decide +kernel, by decide +kernel, by decide +kernel, by decide +kernel⟩

theorem witness_TrialAndTrace_1 :
    (Admitted (trial up) Path.sdo O.CONFIRM 1 ∧ (trial up).upd.sel.trial = true) ∧
    (Admitted up Path.sdo O.CONFIRM 1 ∧ up.upd.sel.trial = false) :=
  ⟨⟨adm_of (by decide +kernel), by decide +kernel⟩, ⟨adm_of (by decide +kernel), by decide +kernel⟩⟩

theorem witness_TrialAndTrace_2 :
    (trial up).upd.trialEnd = some 5 ∧ 5 ≤ (trial up).clk.now ∧ (trial up).gov.off = false := by decide +kernel

theorem witness_TrialAndTrace_3 :
    ((∀ (due : Time), trialLater.upd.trialEnd = some due → trialLater.clk.now < due) ∨ trialLater.gov.off = true) := by decide +kernel

def traceA : TraceEnt := { seq := 65540, event := 2 }
def tracing (en : Int) : State :=
  { (up.wr O.TRC_ENABLE en).wr O.TRC_MASK 4 with
    trace := { up.trace with queue := [traceA, { seq := 65541 }], wroteAt := some (sec 100 - 5000), port := [{ seq := 3 }] } }
def tracingNow : State := { tracing 0 with trace := { (tracing 0).trace with wroteAt := some (sec 100 - 4999) } }

theorem witness_TrialAndTrace_4 :
    (((tracing 0).trace.queue = [traceA, { seq := 65541 }]) ∧ (tracing 0).storeServes = true ∧
     (∀ (w : Time), (tracing 0).trace.wroteAt = some w → w + 5000 ≤ (tracing 0).clk.now)) ∧
    (((tracing 1).trace.queue = [traceA, { seq := 65541 }]) ∧ (tracing 1).storeServes = true ∧
     (∀ (w : Time), (tracing 1).trace.wroteAt = some w → w + 5000 ≤ (tracing 1).clk.now)) :=
  ⟨by decide +kernel, by decide +kernel⟩

theorem witness_TrialAndTrace_5 :
    (tracingNow.trace.queue = [] ∨ tracingNow.storeServes = false ∨ ∃ w, tracingNow.trace.wroteAt = some w ∧ tracingNow.clk.now < w + 5000) := by decide +kernel

theorem witness_TrialAndTrace_6 :
    (tracing 1).trace.port = [{ seq := 3 }] ∧ (tracing 1).portOn = true := by decide +kernel

theorem witness_TrialAndTrace_7 :
    ((tracing 0).trace.port = [] ∨ (tracing 0).portOn = false) := by decide +kernel

/-! ### Steps of single commands -/

/-- No row of the table has bits. -/
theorem test_no_word : decodeTableWord 32 1 = none := by decide +kernel

/-- One grain of 0.8 ns passes while no command waits (log entry 3). -/
theorem test_idle_step : (match step r with | .next t => t.clk.now | _ => 0) = r.clk.now + 64 := by decide +kernel

/-- R391: an empty plan mask is refused with PLAN_MASK_EMPTY. -/
theorem test_arm_empty_mask : (run (.arm .sdo 0 0) r).net.last = { path := .sdo, idx := 0x2100, sub := 1, abort := 0x06090030, reason := 0x0103 } := by decide +kernel

/-- R392, R409: STOP has no effect in Faulted, and is recorded. -/
theorem test_stop_in_faulted : (run (.stop .sdo 0 1) faulted).net.lastCmd = 0x00010002 ∧ (run (.stop .sdo 0 1) faulted).net.cmds = 1 := by decide +kernel

/-- R392: DRESS is refused in Faulted. -/
theorem test_dress_in_faulted : (run (.dress .sdo 0 0x0100) faulted).net.last.abort = 0x08000022 := by decide +kernel

/-- R401: the data length is judged first. -/
theorem test_object_length : (run (.objectWrite .sdo 0x1017 0 4 7) r).net.last.abort = 0x06070010 := by decide +kernel

/-- R402: OBJECT_WRITE stores the value. -/
theorem test_object_write : (run (.objectWrite .od 0x1017 0 2 500) r).rd 0x101700 = 500 := by decide +kernel

/-- R399: an index outside the dictionary. -/
theorem test_object_unknown : (run (.objectWrite .sdo 0x3FFF 0 4 7) r).net.last.abort = 0x06020000 := by decide +kernel

/-- R68: RANGE of a disabled channel applies at once. -/
theorem test_range_disabled : ((run (.rangeOffsetWrite .sdo 2 false 3) chOff).chan 2).rangeApplied = 3 := by decide +kernel

/-- R63: the first grain after a switch carries SETTLING. -/
theorem test_range_switch : ((run (.rangeSwitch 1) switching).chan 1).settleNext = true := by decide +kernel

/-- R67: 1.0 ms after its enable a channel is ready. -/
theorem test_channel_ready : ((run (.channelReady 1) switching).chan 1).ready = true := by decide +kernel

/-- R85: a third swap is refused with BOLTER_SWAP_PENDING. -/
theorem test_swap_pending : (run (.bankSwap .sdo 1 1) swapping).net.last.reason = 0x0205 := by decide +kernel

/-- R86: the other bank serves once the swap is complete. -/
theorem test_swap_complete : ((run (.swapComplete 1) swapping).chan 1).bank = 1 := by decide +kernel

/-- R112: a value written to RASTER_FRAME_COUNT waits for the next frame edge. -/
theorem test_raster_frame : (run (.rasterFrameEdge { at_ := 1000 }) rastered).sluice.raster.now.frame = 9 := by decide +kernel

/-- R112: a line edge fewer than 64 samples after the frame edge starts no line. -/
theorem test_raster_line_near : (run (.rasterLineEdge { at_ := 963 }) rastered).sluice.raster.now.line = some 3 := by decide +kernel

/-- R112: one 64 samples after it does. -/
theorem test_raster_line : (run (.rasterLineEdge { at_ := 964 }) rastered).sluice.raster.now.line = some 4 := by decide +kernel

/-- R141: HOLD takes a PENDING plan to FINISHING. -/
theorem test_hold_pending : ((run (.planCommandEffect 0) (cmdDue 3 3)).plan 0).st = 4 := by decide +kernel

/-- R146: after its one segment a plan under POLICY single is RETAINING. -/
theorem test_segment_single : ((run (.segmentEnd 0) (segDone 3 0)).plan 0).st = 5 := by decide +kernel

/-- R150: the segment obtains the next directory row. -/
theorem test_entry_open : (run .directoryWrite (segDone 3 0)).dir.nextSeq = 1 := by decide +kernel

/-- R152: once its grains are in the store the entry is COMPLETE. -/
theorem test_entry_complete : ((run (.entryComplete 4) entryOpen).plan 0).done = 1 := by decide +kernel

/-- R157: a value behind the one before is refused. -/
theorem test_ack_backward : (run (.hostAckSeqWrite .sdo 3) acked).net.last.reason = 0x040A := by decide +kernel

/-- R279: an edge at SYNC_IN is ignored and counted while disabled. -/
theorem test_sync_ignored : (run .syncInEdge (r.wr O.SYNC_IN_ENABLE 0)).rd O.SYNC_IGNORED = 1 := by decide +kernel

/-- R278: sample 0 of the new epoch is now. -/
theorem test_epoch_start : (run .epochStart epochDue).clk.epochBase = 6400000 := by decide +kernel

/-- R180: a write-back is counted. -/
theorem test_write_back : (run (.writeBack .clean) writingBack).place 200 = 1 := by decide +kernel

/-- R187, R308: PC_LOSS, covered by the spare. -/
theorem test_pc_loss : (tfind (run (.pcHardFailure 17 3) at1).fault.log 0).map (fun f => (f.kind, f.outcome)) = some (3, 1) := by decide +kernel

/-- R219: after 2^32 - 1 the sequence goes on at 1. -/
theorem test_result_sequence : ((run (.resultWriteEvent 1) gates).gate 1).seq = 1 := by decide +kernel

/-- R242: the tile's increments join the plane. -/
theorem test_tile_spill : ((run (.tileSpill 3 1 2 []) tiled).planeOf 1).bins = [(9, 4)] := by decide +kernel

/-- R258: HOLDOVER once the reference is absent. -/
theorem test_reference_lost : (run .refEdgeTimeout (present 2)).fan.tb = 3 := by decide +kernel

/-- R274, R275: the standby takes over; 2,516 grains pass unsampled. -/
theorem test_twin_exchange : (run .twinLossOfLock at2).fan.active = 1 ∧ ((tfind (run .twinLossOfLock at2).fault.log 0).map (fun f => f.interruption)) = some 2013 := by decide +kernel

/-- R288: REJECTED_DISAGREE. -/
theorem test_pass_disagrees : ((run (.passCompare 0x0100 []) (dressed (passCmp 3 2000000))).passOf 0x0100).map (fun p => p.outcome) = some 2 := by decide +kernel

/-- R291: a trim moves by one tap towards its target. -/
theorem test_apply_step : (run (.applyStep 0x0100) (applyingA applyA)).trimNow 0x0100 1 = -1 := by decide +kernel

/-- R309: the spare, slice 16, serves in its place. -/
theorem test_slice_failure : ((run (.sliceHardFailure 1 1 5) (failing false)).quad 5).serving 5 = 16 := by decide +kernel

/-- R330: the lid at 90 °C stops acquisition and takes rail group 0 away. -/
theorem test_thermal_stop : (run (.thermalCondition 0 900) at2).dev = .faulted ∧ (run (.thermalCondition 0 900) at2).gov.rails = [1, 2, 3, 4, 5] := by decide +kernel

/-- R331: a die at 125 °C shuts down, cause 7. -/
theorem test_thermal_off : (run (.thermalCondition 3 1250) at2).gov.cause = 7 := by decide +kernel

/-- R339: rail group 2 alone in Sleep. -/
theorem test_sleep_reached : (run .sleepReached wayDown).gov.rails = [2] := by decide +kernel

/-- R341: above the cap, one step down. -/
theorem test_governor_down : (run (.governorEvaluation govA) capped).gov.step = 1 := by decide +kernel

/-- R350: an edge on the other input closes the pair. -/
theorem test_timer_pair : ((run (.timerEdge true ((paired false).rdBit O.EDGE_SELECT 0) 1000 5) (paired false)).timer.queue.map (fun x => (x.startK, x.stopK))) = [(1000, 500)] := by decide +kernel

/-- R387: the heartbeat of an operational node carries 05h. -/
theorem test_heartbeat : tfind (run .heartbeat beating).net.sent (0x700 + 33) = some { len := 1, data := 0x05 } := by decide +kernel

/-- R384: an RPDO of an asynchronous type is applied at once, low byte first. -/
theorem test_rpdo_applied : (run (.rpdoReceived 2 [1, 2]) (rpdo 255)).rd 0x101700 = 0x0201 := by decide +kernel

/-- R422: a lane skewed by more than 128 symbols counts as not locked. -/
theorem test_skew : (run (.symbolLock 5 129) listening).tail = listening.tail := by decide +kernel

/-- R425: a frame's bytes carry it, with its CRC. -/
theorem test_frame_round : (Frame.parse frameA.bytes).map (fun f => (f.typ, f.seq, f.flags, f.creditTotal)) = some (6, 65535, 0, 5) := by decide +kernel

/-- R429: a damaged frame has NAK go with the next. -/
theorem test_frame_bad : ((run (.frameReceived 1 [0xFB, 3]) linked).link 1).nak = true := by decide +kernel

/-- R429: 20 us after their last sending, three frames are sent again. -/
theorem test_replay : (run (.replayTimeout 1) linked).rd O.REPLAYS = 3 := by decide +kernel

/-- R434: a delivery without credit is STALLED. -/
theorem test_stalled : ((run (.creditTimeout 5) starved).stream 5).state = 2 := by decide +kernel

/-- R453: more than 48 MiB is refused. -/
theorem test_update_too_large : (run (.updateBegin .sdo 0 0) (ub 50331649 5 up)).net.last.abort = 0x06090030 := by decide +kernel

/-- R462: CONFIRM ends the trial. -/
theorem test_confirm : (run (.confirm .sdo 1) (trial up)).upd.outcome = 5 := by decide +kernel

/-- R470: entry 65,540 goes to row 4. -/
theorem test_trace_row : tfind (run .traceWrite (tracing 0)).trace.ring 4 = some traceA := by decide +kernel

/-- R438: the latency is half the round trip less the neighbour's turnaround. -/
theorem test_neighbour : ((run (.hedgeEpochRecord 4) epochRecorded).nb 4).latency = 100 := by decide +kernel

end Sys2Proof.Tests
end

section
/-!
PROOF. The front end's writes (R63 to R68): how range and offset switching and the channel enable act on a channel, and
`Obligations.FrontEndWrites` from that.
-/

namespace Sys2Proof.Machine

/-! ### One channel of the state -/

theorem State.chan_of_chans {s t : State} (h : t.chans = s.chans) (d : Nat) : t.chan d = s.chan d := by simp [State.chan, h]

@[simp] theorem State.chan_setChan_same (c : Nat) (x : Chan) (s : State) : (s.setChan c x).chan c = x := by
  simp [State.chan, State.setChan]

@[simp] theorem State.chan_setChan_other {c d : Nat} (h : d ≠ c) (x : Chan) (s : State) : (s.setChan c x).chan d = s.chan d := by
  simp [State.chan, State.setChan, h]

@[simp] theorem State.chan_modChan_same (c : Nat) (f : Chan → Chan) (s : State) : (s.modChan c f).chan c = f (s.chan c) := by
  simp [State.modChan]

@[simp] theorem State.chan_modChan_other {c d : Nat} (h : d ≠ c) (f : Chan → Chan) (s : State) :
    (s.modChan c f).chan d = s.chan d := by
  simp [State.modChan, h]

@[simp] theorem State.chan_wr (k : Nat) (v : Int) (s : State) (d : Nat) : (s.wr k v).chan d = s.chan d := rfl

/-! ### What serving an access reads as before -/

@[simp] theorem State.dropXfer_chan (p : Path) (s : State) (d : Nat) : (s.dropXfer p).chan d = s.chan d :=
  State.chan_of_chans (by simp) d

@[simp] theorem State.dropXfer_rd (p : Path) (s : State) (k : Nat) : (s.dropXfer p).rd k = s.rd k := State.rd_of_od (by simp) k

@[simp] theorem State.dropXfer_rdN (p : Path) (s : State) (k : Nat) : (s.dropXfer p).rdN k = s.rdN k := by simp [State.rdN]

@[simp] theorem State.dropXfer_idx (p : Path) (s : State) : (s.dropXfer p).idx = s.idx := by simp [State.idx, State.idxAt]

@[simp] theorem State.dropXfer_dressingCh (p : Path) (s : State) (c : Nat) : (s.dropXfer p).dressingCh c = s.dressingCh c := by
  simp [State.dressingCh]

@[simp] theorem State.dropXfer_inUse (p : Path) (s : State) (c : Nat) : (s.dropXfer p).inUse c = s.inUse c := by
  simp [State.inUse, State.plan]

/-! ### Commands that change channels -/

/-- A command of the GRAIN domain whose meaning changes channels and nothing else. -/
theorem State.done_of_chans {s u : State} (h : ∃ C, u = { s with chans := C }) :
    ∃ t, s.done u = .next t ∧ (∀ d, t.chan d = u.chan d) ∧ KeepsBut [.chans] s t := by
  obtain ⟨C, rfl⟩ := h
  refine ⟨_, s.done_eq _, State.chan_of_chans (by simp), KeepsBut.after fun x hx => ?_⟩
  cases x
  case chans => exact absurd (by decide) hx
  all_goals simp [Part.same, State.rd, State.place]

/-- A refused write of one object. -/
theorem State.write_refusedWith {s : State} {p : Path} {k : Nat} {v : Int} {f : State → WRes} {reason : Nat} (h : Admitted s p k v)
    (e : f (s.dropXfer p) = notNow reason) :
    ∃ t, s.done (s.write p k v f) = .next t ∧ RefusedWith (accOf p k v) 0 0x08000022 reason 255 s t := by
  rw [State.write_refused h e]
  exact State.refused_done (a := accOf p k v) _ 0

/-- A write of one object whose effect is to store the value and to change channels, perhaps taking a free value. -/
theorem State.write_of_chans {s u : State} {p : Path} {k : Nat} {v : Int} {f : State → WRes} (h : Admitted s p k v)
    (hk : k ≠ O.EMCY_LOST) (e : f (s.dropXfer p) = .ok u)
    (hu : ∃ C n, u = { (s.dropXfer p).wr k v with chans := C, free := n }) :
    ∃ t, s.done (s.write p k v f) = .next t ∧ t.rd k = v ∧ (∀ d, t.chan d = u.chan d) ∧ OdBut [k] s t ∧ Written p k s t ∧
      KeepsBut [.net, .ctr, .free, .od, .chans] s t := by
  obtain ⟨t, ht, hnet, hctr, hpend, hsame⟩ := State.write_done h e
  obtain ⟨C, n, rfl⟩ := hu
  have hod : ∀ j, j ≠ O.EMCY_LOST → t.rd j = ((s.dropXfer p).wr k v).rd j := hsame .od (by decide)
  refine ⟨t, ht, ?_, ?_, ?_, ⟨hnet rfl, ?_⟩, hpend, ?_⟩
  · rw [hod k hk, State.rd_wr_same]
  · exact State.chan_of_chans (hsame .chans (by decide))
  · intro j hj hj'
    rw [hod j hj', State.rd_wr_other (by simpa using hj), State.dropXfer_rd]
  · intro m hm h1 h2
    rw [hctr m hm h1 h2]
    exact State.place_of_ctr (State.dropXfer_ctr p s) m
  · intro x hx
    have hx' : x ∉ accessParts := fun hm => hx (by revert hm; cases x <;> decide)
    refine Part.same_trans (State.dropXfer_same p s fun hm => hx (by simp [hm])) (Part.same_trans ?_ (hsame x hx'))
    cases x
    case od | chans | free => exact absurd (by decide) hx
    all_goals simp [Part.same, State.place]

/-! ### The objects of a channel -/

theorem rangeObject_ne_emcyLost {c : Nat} (h : c < 4) (isOffset : Bool) :
    (if isOffset then O.OFFSET c else O.RANGE c) ≠ O.EMCY_LOST := by
  cases isOffset <;> simp [O.RANGE, O.OFFSET, O.EMCY_LOST] <;> omega

theorem chEnable_ne_emcyLost {c : Nat} (h : c < 4) : O.CH_ENABLE c ≠ O.EMCY_LOST := by
  simp [O.CH_ENABLE, O.EMCY_LOST]; omega

@[simp] theorem State.rd_chEnable_wr_rangeObject (c : Nat) (isOffset : Bool) (v : Int) (s : State) :
    (s.wr (if isOffset then O.OFFSET c else O.RANGE c) v).rd (O.CH_ENABLE c) = s.rd (O.CH_ENABLE c) :=
  State.rd_wr_other (by cases isOffset <;> simp [O.CH_ENABLE, O.RANGE, O.OFFSET]) v s

@[simp] theorem State.rd_offset_wr_rangeObject (c : Nat) (isOffset : Bool) (v : Int) (s : State) :
    (s.wr (if isOffset then O.OFFSET c else O.RANGE c) v).rd (O.OFFSET c) = if isOffset then v else s.rd (O.OFFSET c) := by
  cases isOffset
  · exact State.rd_wr_other (by simp [O.RANGE, O.OFFSET]) v s
  · exact State.rd_wr_same _ v s

@[simp] theorem State.rdN_range_wr_rangeObject (c : Nat) (isOffset : Bool) (v : Int) (s : State) :
    (s.wr (if isOffset then O.OFFSET c else O.RANGE c) v).rdN (O.RANGE c) = if isOffset then s.rdN (O.RANGE c) else v.toNat := by
  cases isOffset
  · exact congrArg Int.toNat (State.rd_wr_same _ v s)
  · exact congrArg Int.toNat (State.rd_wr_other (by simp [O.RANGE, O.OFFSET]) v s)

@[simp] theorem State.rd_offset_wr_chEnable (c : Nat) (v : Int) (s : State) :
    (s.wr (O.CH_ENABLE c) v).rd (O.OFFSET c) = s.rd (O.OFFSET c) :=
  State.rd_wr_other (by simp [O.CH_ENABLE, O.OFFSET]) v s

@[simp] theorem State.rdN_range_wr_chEnable (c : Nat) (v : Int) (s : State) :
    (s.wr (O.CH_ENABLE c) v).rdN (O.RANGE c) = s.rdN (O.RANGE c) :=
  congrArg Int.toNat (State.rd_wr_other (by simp [O.CH_ENABLE, O.RANGE]) v s)

/-! ### Values that apply (R63, R68) -/

@[simp] theorem State.chan_applyRange_same (c : Nat) (i : Int) (range : Nat) (offset : Int) (s : State) :
    (s.applyRange c i range offset).chan c =
      { s.chan c with rangeApplied := range, offsetApplied := offset, prep := none,
                      ranges := (s.dir.epochs % 256, i, range, offset) :: (s.chan c).ranges } :=
  State.chan_modChan_same _ _ s

@[simp] theorem State.chan_applyRange_other {c d : Nat} (h : d ≠ c) (i : Int) (range : Nat) (offset : Int) (s : State) :
    (s.applyRange c i range offset).chan d = s.chan d :=
  State.chan_modChan_other h _ s

@[simp] theorem State.chan_applyObjects_same (c : Nat) (s : State) :
    (s.applyObjects c).chan c =
      { s.chan c with rangeApplied := s.rdN (O.RANGE c), offsetApplied := s.rd (O.OFFSET c), prep := none, writes := [],
                      ranges := (s.dir.epochs % 256, s.idx, s.rdN (O.RANGE c), s.rd (O.OFFSET c)) :: (s.chan c).ranges } := by
  simp [State.applyObjects]

@[simp] theorem State.chan_applyObjects_other {c d : Nat} (h : d ≠ c) (s : State) : (s.applyObjects c).chan d = s.chan d := by
  simp [State.applyObjects, h]

/-! ### RANGE and OFFSET written (R63, R64, R68) -/

theorem writeRange_dressing {s : State} {c : Nat} (h : s.dressingCh c = true) (isOffset : Bool) (v : Int) :
    writeRange c isOffset v s = notNow Why.CHANNEL_DRESSING := by
  simp [writeRange, h]

theorem writeRange_disabled {s : State} {c : Nat} (h : s.dressingCh c = false) (he : s.rd (O.CH_ENABLE c) = 0) (isOffset : Bool)
    (v : Int) :
    writeRange c isOffset v s = .ok ((s.wr (if isOffset then O.OFFSET c else O.RANGE c) v).applyObjects c) := by
  simp [writeRange, h, he]

/-- The transfer that a write of RANGE or OFFSET on an enabled channel starts: both objects' values, on their way behind earlier ones. -/
def State.rangeTransfer (s : State) (c : Nat) (isOffset : Bool) (v : Int) : RangeWrite :=
  { at_ := ((s.chan c).writes.map (fun w => w.at_)).foldl max (s.clk.now + (s.fv 4000 + 1)),
    range := if isOffset then s.rdN (O.RANGE c) else v.toNat,
    offset := if isOffset then v else s.rd (O.OFFSET c) }

theorem writeRange_enabled {s : State} {c : Nat} (h : s.dressingCh c = false) (he : s.rd (O.CH_ENABLE c) ≠ 0) (isOffset : Bool)
    (v : Int) :
    writeRange c isOffset v s =
      .ok ((s.wr (if isOffset then O.OFFSET c else O.RANGE c) v).setChan c
        { s.chan c with writes := (s.chan c).writes ++ [s.rangeTransfer c isOffset v] }).adv := by
  simp [writeRange, h, he, State.rangeTransfer, State.fv, Nat.add_assoc]

theorem rangeOffsetWrite_disabled {p : Path} {c : Nat} {isOffset : Bool} {v : Int} {s : State} (hc : c < 4)
    (ha : Admitted s p (if isOffset then O.OFFSET c else O.RANGE c) v) (h : s.dressingCh c = false) (he : s.rd (O.CH_ENABLE c) = 0) :
    ∃ t, exec (.rangeOffsetWrite p c isOffset v) s = .next t ∧ t.rd (if isOffset then O.OFFSET c else O.RANGE c) = v ∧
      (∃ range offset, range = (if isOffset then s.rdN (O.RANGE c) else v.toNat) ∧
        offset = (if isOffset then v else s.rd (O.OFFSET c)) ∧
        t.chan c = { s.chan c with rangeApplied := range, offsetApplied := offset, prep := none, writes := [],
                                   ranges := (s.dir.epochs % 256, s.idx, range, offset) :: (s.chan c).ranges }) ∧
      (∀ d, d ≠ c → t.chan d = s.chan d) ∧ OdBut [if isOffset then O.OFFSET c else O.RANGE c] s t ∧
      Written p (if isOffset then O.OFFSET c else O.RANGE c) s t ∧ KeepsBut [.net, .ctr, .free, .od, .chans] s t := by
  have e := writeRange_disabled (s := s.dropXfer p) (c := c) (by simpa using h) (by simpa using he) isOffset v
  obtain ⟨t, ht, hv, hch, hod, hw, hkeep⟩ := State.write_of_chans ha (rangeObject_ne_emcyLost hc isOffset) e ⟨_, _, rfl⟩
  refine ⟨t, ht, hv, ⟨_, _, rfl, rfl, ?_⟩, fun d hd => ?_, hod, hw, hkeep⟩
  · rw [hch]; simp [State.idx, State.idxAt]
  · rw [hch]; simp [hd]

theorem rangeOffsetWrite_enabled {p : Path} {c : Nat} {isOffset : Bool} {v : Int} {s : State} (hc : c < 4)
    (ha : Admitted s p (if isOffset then O.OFFSET c else O.RANGE c) v) (h : s.dressingCh c = false) (he : s.rd (O.CH_ENABLE c) ≠ 0) :
    ∃ t, exec (.rangeOffsetWrite p c isOffset v) s = .next t ∧ t.rd (if isOffset then O.OFFSET c else O.RANGE c) = v ∧
      t.chan c = { s.chan c with writes := (s.chan c).writes ++ [s.rangeTransfer c isOffset v] } ∧
      (∀ d, d ≠ c → t.chan d = s.chan d) ∧ OdBut [if isOffset then O.OFFSET c else O.RANGE c] s t ∧
      Written p (if isOffset then O.OFFSET c else O.RANGE c) s t ∧ KeepsBut [.net, .ctr, .free, .od, .chans] s t := by
  have e := writeRange_enabled (s := s.dropXfer p) (c := c) (by simpa using h) (by simpa using he) isOffset v
  obtain ⟨t, ht, hv, hch, hod, hw, hkeep⟩ := State.write_of_chans ha (rangeObject_ne_emcyLost hc isOffset) e ⟨_, _, rfl⟩
  have hadv : ∀ (u : State) d, u.adv.chan d = u.chan d := fun _ _ => rfl
  refine ⟨t, ht, hv, ?_, fun d hd => ?_, hod, hw, hkeep⟩
  · rw [hch, hadv]; simp [State.rangeTransfer, State.fv]
  · rw [hch, hadv]; simp [hd]

/-! ### The GRAIN domain's part (R63 to R65) -/

/-- A write that arrives before the switch grain of what is pending, if anything is. -/
theorem State.rangeArrives_of_later {s : State} {c : Nat} {w : RangeWrite} (h : ∀ p, (s.chan c).prep = some p → w.at_ < p.at_) :
    s.rangeArrives c w =
      if (s.chan c).startsNothing w then s
      else s.setChan c { s.chan c with
        prep := some { at_ := s.clk.epochBase + (w.at_ - s.clk.epochBase) / 64 * 64 + 2560 * 64, range := w.range, offset := w.offset } } := by
  unfold State.rangeArrives
  cases hp : (s.chan c).prep with
  | none => rfl
  | some p => simp [Nat.not_le.mpr (h p hp)]

theorem Chan.startsNothing_iff (ch : Chan) (w : RangeWrite) :
    ch.startsNothing w = true ↔ ch.prep = none ∧ w.range = ch.rangeApplied ∧ w.offset = ch.offsetApplied := by
  simp [Chan.startsNothing, and_assoc]

section
variable {s : State} {c : Nat} {w : RangeWrite} (h : ∀ p, (s.chan c).prep = some p → w.at_ < p.at_)
include h

theorem State.rangeArrives_chans : ∃ C, s.rangeArrives c w = { s with chans := C } := by
  rw [State.rangeArrives_of_later h]
  split <;> exact ⟨_, rfl⟩

theorem State.chan_rangeArrives_same :
    (s.rangeArrives c w).chan c = { s.chan c with
      prep := if (s.chan c).prep = none ∧ w.range = (s.chan c).rangeApplied ∧ w.offset = (s.chan c).offsetApplied then none
              else some { at_ := s.clk.epochBase + (w.at_ - s.clk.epochBase) / 64 * 64 + 2560 * 64,
                          range := w.range, offset := w.offset } } := by
  rw [State.rangeArrives_of_later h]
  simp only [Chan.startsNothing_iff]
  split
  · next hn => rw [← hn.1]
  · simp

theorem State.chan_rangeArrives_other {d : Nat} (hd : d ≠ c) : (s.rangeArrives c w).chan d = s.chan d := by
  rw [State.rangeArrives_of_later h]
  split
  · rfl
  · exact State.chan_setChan_other hd _ s

end

/-- One write has arrived, and no switch is due after it: its arrival is all that happens. -/
theorem State.rangeSwitch_of_write {s u : State} {c : Nat} {w : RangeWrite} (hw : (s.chan c).writes = [w]) (hn : w.at_ < s.clk.now)
    (hu : (s.setChan c { s.chan c with writes := [] }).rangeArrives c w = u) (hd : ∀ p, (u.chan c).prep = some p → u.clk.now < p.at_) :
    s.rangeSwitch c = u := by
  have hpart : [w].partition (fun w => decide (w.at_ < s.clk.now)) = ([w], []) := by simp [List.partition_eq_filter_filter, hn]
  unfold State.rangeSwitch
  simp only [hw, hpart, List.foldl_cons, List.foldl_nil]
  rw [hu]
  cases hp : (u.chan c).prep with
  | none => rfl
  | some p => simp [State.due, Nat.not_le.mpr (hd p hp)]

/-- No write is on its way, and a preparation's switch is due. -/
theorem State.rangeSwitch_of_due {s : State} {c : Nat} {p : Prep} (hw : (s.chan c).writes = []) (hp : (s.chan c).prep = some p)
    (hd : p.at_ ≤ s.clk.now) : s.rangeSwitch c = (s.setChan c (s.chan c)).doSwitch c p := by
  have hpart : (s.chan c).writes.partition (fun w => decide (w.at_ < s.clk.now)) = ([], (s.chan c).writes) := by simp [hw]
  have hdue : (s.setChan c (s.chan c)).due p.at_ = true := by simp [State.due, hd]
  unfold State.rangeSwitch
  simp only [hpart, List.foldl_nil, State.chan_setChan_same, hp]
  rw [← hp]
  exact if_pos hdue

@[simp] theorem State.traceAt_chan (i : Int) (ev u sl d : Nat) (s : State) (c : Nat) : (s.traceAt i ev u sl d).chan c = s.chan c :=
  State.chan_of_chans (by simp) c

theorem State.chan_doSwitch_same (c : Nat) (p : Prep) (s : State) :
    (s.doSwitch c p).chan c =
      { s.chan c with
        rangeApplied := p.range, offsetApplied := p.offset, prep := none, lastSwitch := s.idxAt p.at_, settleNext := true,
        switchNext := true, ranges := (s.dir.epochs % 256, s.idxAt p.at_, p.range, p.offset) :: (s.chan c).ranges } := by
  unfold State.doSwitch
  rw [State.chan_of_chans (State.bump_chans _ _)]
  simp

theorem State.chan_doSwitch_other {c d : Nat} (h : d ≠ c) (p : Prep) (s : State) : (s.doSwitch c p).chan d = s.chan d := by
  unfold State.doSwitch
  rw [State.chan_of_chans (State.bump_chans _ _)]
  simp [h]

theorem State.modChan_same (c : Nat) (f : Chan → Chan) (s : State) {x : Part} (h : x ≠ .chans) : x.same s (s.modChan c f) := by
  cases x
  case chans => exact absurd rfl h
  all_goals simp [Part.same, State.rd, State.place]

theorem State.bump_same (n : Nat) (s : State) {x : Part} (h : x ≠ .ctr) : x.same s (s.bump n) := by
  cases x
  case ctr => exact absurd rfl h
  all_goals simp [Part.same, State.rd]

/-- A switch leaves its trace entry, its count, and the channel's new setting, and nothing else. -/
theorem State.doSwitch_same (c : Nat) (p : Prep) (s : State) {x : Part} (h : x ∉ [Part.chans, .ctr]) : x.same s (s.doSwitch c p) := by
  obtain ⟨hchans, hctr⟩ : x ≠ .chans ∧ x ≠ .ctr := by simpa using h
  unfold State.doSwitch
  exact Part.same_trans (State.modChan_same _ _ _ hchans) (Part.same_trans (State.modChan_same _ _ _ hchans)
    (Part.same_trans (State.traceAs_same _ _ _ _ _ _ _ x) (State.bump_same _ _ hctr)))

theorem State.traceAs_place (i : Int) (fl ev u sl d : Nat) (s : State) {n : Nat} (h : n ≠ 467) :
    (s.traceAs i fl ev u sl d).place n = s.place n := by
  unfold State.traceAs
  split
  · rfl
  · rw [State.place_bump_other h]; rfl

theorem State.doSwitch_place_same {c : Nat} (hc : c < 4) (p : Prep) (s : State) :
    (s.doSwitch c p).place (16 * c + 7) = (s.place (16 * c + 7) + 1) % 2 ^ 64 := by
  unfold State.doSwitch State.traceAt
  rw [State.place_bump_same, State.traceAs_place _ _ _ _ _ _ _ (by omega)]
  rfl

theorem State.doSwitch_place_other (c : Nat) (p : Prep) (s : State) {n : Nat} (h : n ≠ 16 * c + 7) (h' : n ≠ 467) :
    (s.doSwitch c p).place n = s.place n := by
  unfold State.doSwitch State.traceAt
  rw [State.place_bump_other h, State.traceAs_place _ _ _ _ _ _ _ h']
  rfl

theorem rangeSwitch_write_arrived {c : Nat} {s : State} {w : RangeWrite} (hw : (s.chan c).writes = [w]) (hn : w.at_ < s.clk.now)
    (hg : s.clk.now < s.clk.epochBase + (w.at_ - s.clk.epochBase) / 64 * 64 + 2560 * 64)
    (hp : ∀ p, (s.chan c).prep = some p → w.at_ < p.at_ ∧ s.clk.now < p.at_) :
    ∃ t, exec (.rangeSwitch c) s = .next t ∧
      t.chan c = { s.chan c with
        writes := [],
        prep := if (s.chan c).prep = none ∧ w.range = (s.chan c).rangeApplied ∧ w.offset = (s.chan c).offsetApplied then none
                else some { at_ := s.clk.epochBase + (w.at_ - s.clk.epochBase) / 64 * 64 + 2560 * 64,
                            range := w.range, offset := w.offset } } ∧
      (∀ d, d ≠ c → t.chan d = s.chan d) ∧ KeepsBut [.chans] s t := by
  have hl : ∀ p, ((s.setChan c { s.chan c with writes := [] }).chan c).prep = some p → w.at_ < p.at_ := by
    simpa using fun p h => (hp p h).1
  obtain ⟨C, hC⟩ := State.rangeArrives_chans hl
  have hch := State.chan_rangeArrives_same hl
  have e : s.rangeSwitch c = (s.setChan c { s.chan c with writes := [] }).rangeArrives c w := by
    refine State.rangeSwitch_of_write hw hn rfl fun p h => ?_
    rw [hch] at h
    obtain ⟨-, rfl⟩ : _ ∧ _ = p := by simpa using h
    rw [hC]
    exact hg
  obtain ⟨t, ht, htch, hkeep⟩ := State.done_of_chans (s := s) (u := s.rangeSwitch c) ⟨C, by rw [e, hC]; rfl⟩
  refine ⟨t, ht, ?_, fun d hd => ?_, hkeep⟩
  · rw [htch, e, hch]; simp
  · rw [htch, e, State.chan_rangeArrives_other hl hd, State.chan_setChan_other hd]

theorem rangeSwitch_due {c : Nat} {s : State} {p : Prep} (hc : c < 4) (hw : (s.chan c).writes = []) (hp : (s.chan c).prep = some p)
    (hd : p.at_ ≤ s.clk.now) :
    ∃ t, exec (.rangeSwitch c) s = .next t ∧
      t.chan c = { s.chan c with
        rangeApplied := p.range, offsetApplied := p.offset, prep := none, lastSwitch := s.idxAt p.at_, settleNext := true,
        switchNext := true, ranges := (s.dir.epochs % 256, s.idxAt p.at_, p.range, p.offset) :: (s.chan c).ranges } ∧
      (∀ d, d ≠ c → t.chan d = s.chan d) ∧ t.place (16 * c + 7) = (s.place (16 * c + 7) + 1) % 2 ^ 64 ∧ CtrBut [16 * c + 7] s t ∧
      KeepsBut [.chans, .ctr] s t := by
  have hch : ∀ d, (s.after (s.rangeSwitch c)).chan d = (s.rangeSwitch c).chan d := State.chan_of_chans (by simp)
  have e := State.rangeSwitch_of_due hw hp hd
  refine ⟨_, State.done_eq s (s.rangeSwitch c), ?_, fun d hd' => ?_, ?_, fun n hn h1 h2 => ?_, KeepsBut.after fun x hx => ?_⟩
  · rw [hch, e, State.chan_doSwitch_same]; simp [State.idxAt]
  · rw [hch, e, State.chan_doSwitch_other hd', State.chan_setChan_other hd']
  · rw [State.after_place _ _ (by omega) (by omega), e, State.doSwitch_place_same hc]; rfl
  · rw [State.after_place _ _ h1 h2, e, State.doSwitch_place_other _ _ _ (by simpa using hn) h2]; rfl
  · rw [e]
    exact Part.same_trans (State.modChan_same c id s fun hm => hx (by simp [hm])) (State.doSwitch_same c p _ hx)

/-! ### Enabling (R67, R68) -/

theorem State.startChannel_of_noSwap {s : State} {c : Nat} (h : (s.chan c).swap = none) :
    s.startChannel c = s.setChan c { s.chan c with
      ready := true, readyAt := none, settleNext := true, hist := [], lastValid := [],
      recoverTo := s.idxAt (s.grainAt s.clk.now) - 1, zeroAt := s.idxAt (s.grainAt s.clk.now),
      chainAt := s.idxAt (s.grainAt s.clk.now), settleLeft := (s.chan c).cfg.settleAll, mm := none, inRun := false,
      out := { num := (s.chan c).cfg.outputFrom s.origin.o (s.idxAt (s.grainAt s.clk.now)) / (s.chan c).cfg.n,
               broken := (s.chan c).cfg.outputFrom s.origin.o (s.idxAt (s.grainAt s.clk.now)) % (s.chan c).cfg.n != 0 } } := by
  simp [State.startChannel, State.countSwap, h, Chan.abandon, Chan.zero, Chan.swapNow, Chan.endSwap]

theorem channelReady_due {c : Nat} {s : State} {x : Time} (hr : (s.chan c).readyAt = some x) (hd : x ≤ s.clk.now)
    (hs : (s.chan c).swap = none) :
    ∃ t, exec (.channelReady c) s = .next t ∧
      (∃ b, b = s.idxAt (s.grainAt s.clk.now) ∧ t.chan c = { s.chan c with
        ready := true, readyAt := none, settleNext := true, hist := [], lastValid := [], recoverTo := b - 1, zeroAt := b, chainAt := b,
        settleLeft := (s.chan c).cfg.settleAll, mm := none, inRun := false,
        out := { num := (s.chan c).cfg.outputFrom s.origin.o b / (s.chan c).cfg.n,
                 broken := (s.chan c).cfg.outputFrom s.origin.o b % (s.chan c).cfg.n != 0 } }) ∧
      (∀ d, d ≠ c → t.chan d = s.chan d) ∧ KeepsBut [.chans] s t := by
  have e : s.channelReady c = s.startChannel c := by simp [State.channelReady, hr, State.due, hd]
  rw [State.startChannel_of_noSwap hs] at e
  obtain ⟨t, ht, hch, hkeep⟩ := State.done_of_chans (s := s) (u := s.channelReady c) ⟨_, e⟩
  refine ⟨t, ht, ⟨_, rfl, ?_⟩, fun d hd => ?_, hkeep⟩
  · rw [hch, e, State.chan_setChan_same]
  · rw [hch, e, State.chan_setChan_other hd]

theorem writeEnable_inUse {s : State} {c : Nat} (h : s.inUse c = true) (v : Int) :
    writeEnable c v s = notNow Why.CHANNEL_IN_USE := by
  simp [writeEnable, h]

/-- CH_ENABLE written on a channel that no plan uses: the value stored, and the channel changed. -/
theorem writeEnable_free {s : State} {c : Nat} (h : s.inUse c = false) (v : Int) :
    ∃ u, writeEnable c v s = .ok u ∧ (∃ C, u = { s.wr (O.CH_ENABLE c) v with chans := C }) ∧ (∀ d, d ≠ c → u.chan d = s.chan d) ∧
      u.chan c = (if v = 0 then { s.chan c with
          ready := false, readyAt := none, rangeApplied := s.rdN (O.RANGE c), offsetApplied := s.rd (O.OFFSET c), prep := none, writes := [],
          ranges := (s.dir.epochs % 256, s.idx, s.rdN (O.RANGE c), s.rd (O.OFFSET c)) :: (s.chan c).ranges }
        else if s.rd (O.CH_ENABLE c) = 0 then { s.chan c with ready := false, readyAt := some (s.clk.now + ms 1) } else s.chan c) := by
  by_cases hv : v = 0
  · refine ⟨((s.wr (O.CH_ENABLE c) v).applyObjects c).modChan c (fun ch => { ch with ready := false, readyAt := none }),
      by simp [writeEnable, h, hv], ⟨_, rfl⟩, fun d hd => by simp [hd], ?_⟩
    rw [if_pos hv]
    simp [State.idx, State.idxAt]
  · by_cases ho : s.rd (O.CH_ENABLE c) = 0
    · exact ⟨(s.wr (O.CH_ENABLE c) v).modChan c (fun ch => { ch with ready := false, readyAt := some (s.clk.now + ms 1) }),
        by simp [writeEnable, h, hv, ho], ⟨_, rfl⟩, fun d hd => by simp [hd], by simp [hv, ho]⟩
    · exact ⟨s.wr (O.CH_ENABLE c) v, by simp [writeEnable, h, hv, ho], ⟨_, rfl⟩, fun d _ => by simp, by simp [hv, ho]⟩

theorem chEnableWrite_free {p : Path} {c : Nat} {v : Int} {s : State} (hc : c < 4) (ha : Admitted s p (O.CH_ENABLE c) v)
    (h : s.inUse c = false) :
    ∃ t, exec (.chEnableWrite p c v) s = .next t ∧ t.rd (O.CH_ENABLE c) = v ∧
      t.chan c = (if v = 0 then { s.chan c with
          ready := false, readyAt := none, rangeApplied := s.rdN (O.RANGE c), offsetApplied := s.rd (O.OFFSET c), prep := none, writes := [],
          ranges := (s.dir.epochs % 256, s.idx, s.rdN (O.RANGE c), s.rd (O.OFFSET c)) :: (s.chan c).ranges }
        else if s.rd (O.CH_ENABLE c) = 0 then { s.chan c with ready := false, readyAt := some (s.clk.now + ms 1) } else s.chan c) ∧
      (∀ d, d ≠ c → t.chan d = s.chan d) ∧ OdBut [O.CH_ENABLE c] s t ∧ Written p (O.CH_ENABLE c) s t ∧
      KeepsBut [.net, .ctr, .free, .od, .chans] s t := by
  obtain ⟨u, e, ⟨C, hC⟩, hother, hself⟩ := writeEnable_free (s := s.dropXfer p) (c := c) (by simpa using h) v
  obtain ⟨t, ht, hv, hch, hod, hw, hkeep⟩ := State.write_of_chans ha (chEnable_ne_emcyLost hc) e ⟨C, _, hC⟩
  refine ⟨t, ht, hv, ?_, fun d hd => ?_, hod, hw, hkeep⟩
  · rw [hch, hself]; simp
  · rw [hch, hother d hd, State.dropXfer_chan]

/-! ### The obligation -/

/-- Settles O13: each of its cases is one branch of the four instructions of the front end. -/
theorem frontEndWrites : Obligations.FrontEndWrites := by
  refine ⟨fun p c isOffset v s hc ha => ⟨fun h => ?_, rangeOffsetWrite_disabled hc ha, fun h he => ?_⟩,
    fun c s hc => ⟨fun w hw hn hg hp => rangeSwitch_write_arrived hw hn hg hp, fun p hw hp hd => rangeSwitch_due hc hw hp hd,
      fun x hr hd hs => channelReady_due hr hd hs⟩,
    fun p c v s hc ha => ⟨fun h => ?_, chEnableWrite_free hc ha⟩⟩
  · exact State.write_refusedWith ha (writeRange_dressing (by simpa using h) isOffset v)
  · have hfv : s.fv 4000 < 4000 := Nat.mod_lt _ (by decide)
    obtain ⟨t, ht, hv, hch, hrest⟩ := rangeOffsetWrite_enabled hc ha h he
    exact ⟨t, s.fv 4000 + 1, ht, hv, Nat.succ_pos _, Nat.succ_le_of_lt hfv, hch, hrest⟩
  · exact State.write_refusedWith ha (writeEnable_inUse (by simpa using h) v)

end Sys2Proof.Machine
end

section
/-!
PROOF. SYNC_IN and the gap ranges (R25, R277 to R279): what becomes of an edge, what an epoch's start changes, how ranges leave a channel's
registers, and `Obligations.SyncAndGaps` from that.
-/

namespace Sys2Proof.Machine

/-! ### Folds over the state, and tables -/

/-- What every step of a fold leaves alone, the fold leaves alone. -/
theorem foldl_keeps {α β γ : Type} (view : β → γ) {f : β → α → β} {l : List α} (h : ∀ x ∈ l, ∀ s, view (f s x) = view s)
    (s : β) : view (l.foldl f s) = view s := by
  induction l generalizing s with
  | nil => rfl
  | cons x l ih => rw [List.foldl_cons, ih fun y hy => h y (List.mem_cons_of_mem _ hy), h x List.mem_cons_self]

/-- What both branches leave alone, the choice between them leaves alone. -/
theorem view_ite {β γ : Type} (view : β → γ) {p : Prop} [Decidable p] {a b : β} {x : γ} (ha : view a = x) (hb : view b = x) :
    view (if p then a else b) = x := by
  split
  · exact ha
  · exact hb

theorem mem_of_tfind {α : Type} {t : Tbl α} {k : Nat} {v : α} (h : tfind t k = some v) : (k, v) ∈ t := by
  induction t with
  | nil => simp [tfind] at h
  | cons e r ih =>
    obtain ⟨j, w⟩ := e
    simp only [tfind] at h
    split at h
    · next hj => simp_all
    · exact List.mem_cons_of_mem _ (ih h)

theorem le_alignUp {m : Nat} (hm : 0 < m) (a b : Nat) : b ≤ alignUp a m b := by
  unfold alignUp
  split
  · assumption
  · have hd := Nat.div_add_mod' (b - a + m - 1) m
    have hr := Nat.mod_lt (b - a + m - 1) hm
    omega

/-! ### One count at the end of a command -/

/-- A command whose meaning counts at place `n` and at no other. -/
theorem State.after_counted {s u : State} {n : Nat} (hn : n ≠ 465 ∧ n ≠ 467) (h : u.ctr = (s.bump n).ctr) :
    (s.after u).place n = (s.place n + 1) % 2 ^ 64 ∧ CtrBut [n] s (s.after u) := by
  refine ⟨?_, fun m hm h1 h2 => ?_⟩
  · rw [State.after_place _ _ hn.1 hn.2, State.place_of_ctr h, State.place_bump_same]
  · rw [State.after_place _ _ h1 h2, State.place_of_ctr h, State.place_bump_other (by simpa using hm)]

/-- A command whose meaning counts in object `k` and changes no other object. -/
theorem State.after_saturated {s u : State} {k : Nat} (hk : k ≠ O.EMCY_LOST) (h : u.od = (s.sat k).od) :
    (s.after u).rd k = min (s.rd k + 1) 4294967295 ∧ OdBut [k] s (s.after u) := by
  refine ⟨?_, fun j hj hj' => ?_⟩
  · rw [State.after_rd _ _ hk, State.rd_of_od h]
    exact State.rd_wr_same _ _ _
  · rw [State.after_rd _ _ hj', State.rd_of_od h]
    exact State.rd_wr_other (by simpa using hj) _ _

/-! ### The open pair of the event timer is cut (R361) -/

theorem State.adoptGen_eq (s : State) : ∃ T, s.adoptGen = { s with timer := T } ∧ T.pair = s.timer.pair := by
  unfold State.adoptGen
  split
  · next hp _ => exact ⟨_, rfl, rfl⟩
  · exact ⟨_, rfl, rfl⟩

theorem State.cutPair_of_none {s : State} (h : s.timer.pair = none) : s.cutPair = s := by simp [State.cutPair, h]

theorem State.cutPair_of_open {s : State} (h : s.timer.pair ≠ none) :
    ∃ T, s.cutPair = { s.sat O.PAIRS_CUT with timer := T } ∧ T.pair = none := by
  obtain ⟨p, hp⟩ := Option.ne_none_iff_exists'.mp h
  obtain ⟨T, hT, hpair⟩ := State.adoptGen_eq ({ s with timer := { s.timer with pair := none } }.sat O.PAIRS_CUT)
  exact ⟨T, by simp only [State.cutPair, hp]; exact hT, hpair⟩

/-! ### A SYNC_IN edge (R277, R279) -/

theorem State.now_le_syncEdge (s : State) : s.clk.now ≤ s.syncEdge := by
  unfold State.syncEdge
  simp only []
  split
  · split
    · exact le_alignUp (by decide) _ _
    · exact Nat.le_trans (le_alignUp (by decide) _ _) (Nat.le_add_right _ _)
  · exact le_alignUp (by decide) _ _

/-- The cases in which R279 has an edge ignored. -/
def State.ignoresSync (s : State) : Prop :=
  s.rd O.SYNC_IN_ENABLE ≠ 1 ∨ s.dev = .boot ∨ s.dev = .sleep ∨ s.asleep = true ∨ s.fan.heldSync = true ∨
    (∃ z, s.fan.sync = some z ∧ s.syncEdge < z) ∨ (∃ z, s.fan.syncDone = some z ∧ s.syncEdge ≤ z + us 1)

theorem State.syncIn_ignored {s : State} (h : s.ignoresSync) : s.syncIn = (s.adv.sat O.SYNC_IGNORED).bump 120 := by
  have hrd : s.adv.rd O.SYNC_IN_ENABLE = s.rd O.SYNC_IN_ENABLE := rfl
  have has : s.adv.asleep = s.asleep := rfl
  unfold State.syncIn
  refine if_pos ?_
  rcases h with h | h | h | h | h | ⟨z, hz, h⟩ | ⟨z, hz, h⟩ <;> simp [*]

/-- An edge that is not ignored is counted; it is held where a failover is in progress, and registered where none is. -/
theorem State.syncIn_taken {s : State} (h : ¬ s.ignoresSync) :
    s.syncIn = s.fan.failUntil.elim
      { (s.adv.bump 119).cutPair with fan := { s.fan with sync := some (s.syncEdge + 16 * 800) } }
      (fun u => { s.adv.bump 119 with
        fan := { s.fan with heldSync := true, sync := some (alignUp s.clk.epochBase 800 u + 16 * 800) } }) := by
  simp only [State.ignoresSync, not_or, not_exists, not_and] at h
  obtain ⟨hen, hboot, hsleep, has, hheld, hbefore, hnear⟩ := h
  have hrd : s.adv.rd O.SYNC_IN_ENABLE = 1 := Decidable.not_not.mp hen
  unfold State.syncIn
  refine (if_neg ?_).trans ?_
  · simp only [Bool.or_eq_true, not_or]
    refine ⟨⟨⟨⟨⟨⟨by simp [hrd], by simp [hboot]⟩, by simp [hsleep]⟩, has⟩, ?_⟩, ?_⟩, hheld⟩
    · split
      · next z hz => simpa using hnear z hz
      · exact Bool.false_ne_true
    · split
      · next z hz => simpa using hbefore z hz
      · exact Bool.false_ne_true
  · cases hf : s.fan.failUntil <;> simp [hf, tbCycle]

/-- An edge ignored leaves its count, in SYNC_IGNORED and among the counters, and nothing else. -/
theorem syncInEdge_ignored {s : State} (h : s.ignoresSync) :
    ∃ t, exec .syncInEdge s = .next t ∧ t.rd O.SYNC_IGNORED = min (s.rd O.SYNC_IGNORED + 1) 4294967295 ∧
      OdBut [O.SYNC_IGNORED] s t ∧ t.place 120 = (s.place 120 + 1) % 2 ^ 64 ∧ CtrBut [120] s t ∧
      KeepsBut [.od, .ctr, .free] s t := by
  have e := State.syncIn_ignored h
  obtain ⟨hcount, hctr⟩ := State.after_counted (s := s) (u := s.syncIn) (n := 120) (by decide) (by rw [e]; rfl)
  obtain ⟨hsat, hod⟩ := State.after_saturated (s := s) (u := s.syncIn) (k := O.SYNC_IGNORED) (by decide) (by rw [e]; rfl)
  refine ⟨_, State.done_eq s s.syncIn, hsat, hod, hcount, hctr, KeepsBut.after fun x hx => ?_⟩
  rw [e]
  cases x
  case od | ctr | free => exact absurd (by decide) hx
  all_goals simp [Part.same]

section
variable {s : State} (h : ¬ s.ignoresSync)
include h

theorem syncInEdge_held {u : Time} (hf : s.fan.failUntil = some u) :
    ∃ t, exec .syncInEdge s = .next t ∧
      t.fan = { s.fan with heldSync := true, sync := some (alignUp s.clk.epochBase 800 u + 16 * 800) } ∧
      t.place 119 = (s.place 119 + 1) % 2 ^ 64 ∧ CtrBut [119] s t ∧ KeepsBut [.fan, .ctr, .free] s t := by
  have e := State.syncIn_taken h
  rw [hf, Option.elim_some] at e
  obtain ⟨hcount, hctr⟩ := State.after_counted (s := s) (u := s.syncIn) (n := 119) (by decide) (by rw [e]; rfl)
  refine ⟨_, State.done_eq s s.syncIn, by rw [State.after_fan, e], hcount, hctr, KeepsBut.after fun x hx => ?_⟩
  rw [e]
  cases x
  case fan | ctr | free => exact absurd (by decide) hx
  all_goals simp [Part.same, State.rd]

theorem syncInEdge_registered (hf : s.fan.failUntil = none) :
    ∃ t, exec .syncInEdge s = .next t ∧ s.clk.now ≤ s.syncEdge ∧ t.fan = { s.fan with sync := some (s.syncEdge + 16 * 800) } ∧
      t.place 119 = (s.place 119 + 1) % 2 ^ 64 ∧ CtrBut [119] s t ∧ t.timer.pair = none ∧
      (s.timer.pair = none → KeepsBut [.fan, .ctr, .free] s t) ∧
      (s.timer.pair ≠ none → t.rd O.PAIRS_CUT = min (s.rd O.PAIRS_CUT + 1) 4294967295 ∧ OdBut [O.PAIRS_CUT] s t ∧
        KeepsBut [.fan, .od, .ctr, .free, .timer] s t) := by
  have e := State.syncIn_taken h
  rw [hf, Option.elim_none] at e
  have hfan : (s.after s.syncIn).fan = { s.fan with sync := some (s.syncEdge + 16 * 800) } := by rw [State.after_fan, e]
  by_cases hp : s.timer.pair = none
  · rw [State.cutPair_of_none (s := s.adv.bump 119) hp] at e
    obtain ⟨hcount, hctr⟩ := State.after_counted (s := s) (u := s.syncIn) (n := 119) (by decide) (by rw [e]; rfl)
    refine ⟨_, State.done_eq s s.syncIn, s.now_le_syncEdge, hfan, hcount, hctr, ?_, fun _ => KeepsBut.after fun x hx => ?_, absurd hp⟩
    · rw [State.after_timer, e]
      exact hp
    · rw [e]
      cases x
      case fan | ctr | free => exact absurd (by decide) hx
      all_goals simp [Part.same, State.rd]
  · obtain ⟨T, hT, hpair⟩ := State.cutPair_of_open (s := s.adv.bump 119) hp
    rw [hT] at e
    obtain ⟨hcount, hctr⟩ := State.after_counted (s := s) (u := s.syncIn) (n := 119) (by decide) (by rw [e]; rfl)
    obtain ⟨hsat, hod⟩ := State.after_saturated (s := s) (u := s.syncIn) (k := O.PAIRS_CUT) (by decide) (by rw [e]; rfl)
    refine ⟨_, State.done_eq s s.syncIn, s.now_le_syncEdge, hfan, hcount, hctr, ?_, fun hn => absurd hn hp,
      fun _ => ⟨hsat, hod, KeepsBut.after fun x hx => ?_⟩⟩
    · rw [State.after_timer, e]
      exact hpair
    · rw [e]
      cases x
      case fan | od | ctr | free | timer => exact absurd (by decide) hx
      all_goals simp [Part.same]

end

/-! ### What an epoch's start leaves alone (R155, R278) -/

/-- The state but for what placing triggers and cutting segments may change: plans, the directory's entries, stored grains, the pins, the
Sluice's own record of both, objects, counters and free values. -/
def State.besideSegs (s : State) : State :=
  { s with od := [], ctr := [], free := 0, plans := [], pond := {}, pins := {},
           sluice := { raster := s.sluice.raster }, dir := { epochs := s.dir.epochs } }

theorem State.of_besideSegs {w s : State} (h : w.besideSegs = s.besideSegs) :
    w.clk = s.clk ∧ w.dir.epochs = s.dir.epochs ∧ w.origin = s.origin ∧ w.fan = s.fan ∧ w.chans = s.chans ∧
      w.sluice.raster = s.sluice.raster :=
  ⟨(congrArg State.clk h :), (congrArg (fun s => s.dir.epochs) h :), (congrArg State.origin h :), (congrArg State.fan h :),
    (congrArg State.chans h :), (congrArg (fun s => s.sluice.raster) h :)⟩

theorem State.setSeg_besideSegs (id : Nat) (g : Seg) (s : State) : (s.setSeg id g).besideSegs = s.besideSegs := by
  unfold State.setSeg
  simp only []
  split
  · split <;> rfl
  · rfl

theorem State.endSeg_besideSegs (id : Nat) (g : Seg) (s : State) : (s.endSeg id g).besideSegs = s.besideSegs := by
  refine (foldl_keeps State.besideSegs (fun c _ s => ?_) _).trans (State.setSeg_besideSegs id g s)
  simp only []
  split
  · split <;> rfl
  · rfl

theorem State.finishPlacing_besideSegs (x : Placing) (s : State) : (s.finishPlacing x).besideSegs = s.besideSegs := by
  unfold State.finishPlacing
  cases x.seg with
  | none => exact view_ite State.besideSegs rfl (view_ite State.besideSegs rfl rfl)
  | some id =>
    simp only []
    split
    · exact (State.setSeg_besideSegs _ _ _).trans (view_ite State.besideSegs rfl (view_ite State.besideSegs rfl rfl))
    · exact view_ite State.besideSegs rfl (view_ite State.besideSegs rfl rfl)

theorem State.placeAll_besideSegs (s : State) : s.placeAll.besideSegs = s.besideSegs :=
  foldl_keeps State.besideSegs (fun x _ s => s.finishPlacing_besideSegs x) _

theorem State.cutSegs_besideSegs (q : Nat) (s : State) : (s.cutSegs q).1.besideSegs = s.besideSegs := by
  refine foldl_keeps (fun a : State × Bool => a.1.besideSegs) (fun e _ a => ?_) (s, false)
  simp only []
  split
  · rfl
  · split
    · rfl
    · exact State.endSeg_besideSegs _ _ a.1

theorem State.rearm_besideSegs (q : Nat) (o b last : Int) (kept goesOn : Bool) (s : State) :
    (s.rearm q o b last kept goesOn).besideSegs = s.besideSegs := by
  unfold State.rearm
  exact view_ite State.besideSegs rfl rfl

theorem State.cutAll_besideSegs (o b : Int) (s : State) : (s.cutAll o b).besideSegs = s.besideSegs := by
  refine foldl_keeps State.besideSegs (fun q _ s => ?_) _
  simp only []
  split
  · exact (State.rearm_besideSegs _ _ _ _ _ _ _).trans (s.cutSegs_besideSegs q)
  · exact s.cutSegs_besideSegs q

theorem State.renumber_besideSegs (s : State) : s.renumber.besideSegs = s.besideSegs := by
  refine foldl_keeps State.besideSegs (fun q _ s => ?_) _
  simp only []
  split <;> rfl

/-- Slots changed one by one: nothing but the slots changes. -/
theorem State.foldl_setSlot (f : Slot → Slot) (l : List Nat) (s : State) :
    ∃ T, l.foldl (fun s n => s.setSlot n (f (s.slot n))) s = { s with sluice := { s.sluice with slots := T } } := by
  induction l generalizing s with
  | nil => exact ⟨_, rfl⟩
  | cons n l ih =>
    obtain ⟨T, hT⟩ := ih (s.setSlot n (f (s.slot n)))
    exact ⟨T, hT⟩

/-- The Sluice as a new epoch finds it: nothing but the Sluice changes, and the raster is as before its first edge. -/
theorem State.sluiceEpoch_eq (s : State) :
    ∃ S, s.sluiceEpoch = { s with sluice := S } ∧
      S.raster = { s.sluice.raster with now := {}, past := [], frameEdge := none, lineEdge := none } := by
  obtain ⟨T, hT⟩ := State.foldl_setSlot (fun x => { x with armUp := false, armDown := false, seqOpen := none, holdTo := none, skip := 0 })
    slotNos s
  unfold State.sluiceEpoch
  simp only []
  rw [hT]
  exact ⟨_, rfl, rfl⟩

/-! ### The channels at an epoch's start (R79, R278) -/

/-- A fold whose steps each change one channel, all in one way, changes each of its channels in that way. -/
theorem State.chan_foldl {f : State → Nat → State} {g : Chan → Chan} (same : ∀ s c, (f s c).chan c = g (s.chan c))
    (other : ∀ s c d, d ≠ c → (f s c).chan d = s.chan d) {l : List Nat} (hl : l.Nodup) {d : Nat} (hd : d ∈ l) (s : State) :
    (l.foldl f s).chan d = g (s.chan d) := by
  induction l generalizing s with
  | nil => simp at hd
  | cons c l ih =>
    obtain ⟨hc, hl⟩ := List.nodup_cons.mp hl
    rw [List.foldl_cons]
    by_cases h : d ∈ l
    · rw [ih hl h, other s c d (fun e => hc (e ▸ h))]
    · obtain rfl : d = c := by simpa [h] using hd
      rw [← same]
      exact foldl_keeps (fun s : State => s.chan d) (fun e he s => other s e d fun hde => h (hde ▸ he)) _

/-- What zeroing and abandoning leave of a channel. -/
theorem Chan.zero_abandon (o b : Int) (t : Time) (ch : Chan) :
    ((ch.zero o b t).abandon o b).hist = ch.hist ∧ ((ch.zero o b t).abandon o b).cfg = ch.cfg ∧
      ((ch.zero o b t).abandon o b).zeroAt = b := by
  unfold Chan.zero Chan.abandon Chan.swapNow Chan.endSwap
  split <;> exact ⟨rfl, rfl, rfl⟩

theorem State.countSwap_chan (c : Nat) (x y : Chan) (s : State) (d : Nat) : (s.countSwap c x y).chan d = s.chan d := by
  unfold State.countSwap
  split <;> rfl

theorem State.chan_restartBolters {c : Nat} (hc : c < 4) (o b : Int) (t : Time) (s : State) :
    (s.restartBolters o b t).chan c = ((s.chan c).zero o b t).abandon o b :=
  State.chan_foldl (g := fun ch => (ch.zero o b t).abandon o b)
    (fun s c => by rw [State.countSwap_chan, State.chan_setChan_same])
    (fun s c d hd => by rw [State.countSwap_chan, State.chan_setChan_other hd])
    List.nodup_range (List.mem_range.mpr hc) s

/-- The state but for its channels, its converter quads and its objects. -/
def State.besideChans (s : State) : State := { s with chans := [], quads := [], od := [] }

theorem State.of_besideChans {x u : State} (h : x.besideChans = u.besideChans) :
    x.clk = u.clk ∧ x.dir = u.dir ∧ x.origin = u.origin ∧ x.fan = u.fan ∧ x.sluice = u.sluice :=
  ⟨(congrArg State.clk h :), (congrArg State.dir h :), (congrArg State.origin h :), (congrArg State.fan h :),
    (congrArg State.sluice h :)⟩

theorem State.restartBolters_besideChans (o b : Int) (t : Time) (s : State) :
    (s.restartBolters o b t).besideChans = s.besideChans := by
  refine foldl_keeps State.besideChans (fun c _ s => ?_) _
  unfold State.countSwap
  simp only []
  split <;> rfl

/-! ### The start of an epoch (R278) -/

/-- The counts, the origin and the clocks' share of a new epoch whose sample 0 is at `z`. -/
def State.epochAt (z : Time) (s : State) : State :=
  { s with clk := { s.clk with epochBase := z, now := max z s.clk.now },
           dir := { s.dir with epochs := s.dir.epochs + 1 },
           origin := { s.origin with o := 0, gen := s.origin.gen + 1 },
           timer := { s.timer with rearm := none },
           fan := { s.fan with sync := none, syncDone := some z, heldSync := false, gridKnown := s.fan.tb == 2 && s.fan.inUse == 1 } }

/-- A channel as an epoch at `z`, `shift` samples after the former one, finds it: without history, and with what goes on there counted in the
new epoch's samples. -/
def Chan.epochAt (z : Time) (shift : Int) (ch : Chan) : Chan :=
  { ch with hist := [], recoverTo := ch.recoverTo - shift, dropping := false,
            prep := ch.prep.map (fun (p : Prep) => { p with at_ := alignUp z 64 p.at_ }) }

/-- Replacements of slices that are under way come about at a raw-grain boundary of the epoch that begins at `z`. -/
def quadsEpochAt (z : Time) (Q : Tbl Quad) : Tbl Quad :=
  Q.map (fun (e : Nat × Quad) => (e.1, { e.2 with pending := e.2.pending.map (fun (p : Time × Nat) => (alignUp z 64 p.1, p.2)) }))

/-- The channels as a new epoch at `z` finds them. -/
def State.channelsAt (z : Time) (shift : Int) (s : State) : State :=
  chanNos.foldl (fun s c => s.modChan c (Chan.epochAt z shift)) s

/-- The channels and the slices as a new epoch at `z` finds them, the Bolters' histories zeroed. -/
def State.restartAt (z : Time) (shift : Int) (s : State) : State :=
  { s.channelsAt z shift with quads := quadsEpochAt z s.quads }.restartBolters 0 0 z

theorem State.channelsAt_besideChans (z : Time) (shift : Int) (s : State) : (s.channelsAt z shift).besideChans = s.besideChans := by
  refine foldl_keeps State.besideChans (fun _ _ _ => ?_) s
  rfl

theorem State.channelsAt_quads (z : Time) (shift : Int) (s : State) : (s.channelsAt z shift).quads = s.quads := by
  refine foldl_keeps State.quads (fun _ _ _ => ?_) s
  rfl

theorem State.chan_channelsAt {c : Nat} (hc : c < 4) (z : Time) (shift : Int) (s : State) :
    (s.channelsAt z shift).chan c = (s.chan c).epochAt z shift :=
  State.chan_foldl (fun s c => State.chan_modChan_same c _ s) (fun s _ _ hd => State.chan_modChan_other hd _ s)
    List.nodup_range (List.mem_range.mpr hc) s

theorem State.restartAt_besideChans (z : Time) (shift : Int) (s : State) : (s.restartAt z shift).besideChans = s.besideChans :=
  (State.restartBolters_besideChans 0 0 z _).trans (State.channelsAt_besideChans z shift s)

/-- After the restart a channel has no history, its filters begin at sample 0, and its configuration is in force as before. -/
theorem State.chan_restartAt {c : Nat} (hc : c < 4) (z : Time) (shift : Int) (s : State) :
    ((s.restartAt z shift).chan c).hist = [] ∧ ((s.restartAt z shift).chan c).zeroAt = 0 ∧
      ((s.restartAt z shift).chan c).cfg = (s.chan c).cfg := by
  have hchan : (s.restartAt z shift).chan c = (((s.chan c).epochAt z shift).zero 0 0 z).abandon 0 0 :=
    (State.chan_restartBolters hc 0 0 z _).trans
      (congrArg (fun ch => (Chan.zero 0 0 z ch).abandon 0 0) (State.chan_channelsAt hc z shift s))
  obtain ⟨hhist, hcfg, hzero⟩ := Chan.zero_abandon 0 0 z ((s.chan c).epochAt z shift)
  rw [hchan]
  exact ⟨hhist, hzero, hcfg⟩

/-- A new epoch, stage by stage: what was under way is placed and cut, the epoch's counts begin, and the channels start afresh. -/
theorem State.newEpoch_stages (z : Time) (s : State) :
    ∃ (w : State) (n : Nat), w.besideSegs = s.besideSegs ∧
      s.newEpoch z = ((w.sluiceEpoch.epochAt z).restartAt z ((z : Int) - s.clk.epochBase)).traceAt 0 9 0 0xFFFF n := by
  unfold State.newEpoch
  extract_lets shift cut sluice _ _ _ _ counts _ epoch chans slices
  have hsluice : sluice = cut.renumber.sluiceEpoch := rfl
  have hcut : cut.renumber.besideSegs = s.besideSegs := by
    rw [State.renumber_besideSegs, State.cutAll_besideSegs, State.placeAll_besideSegs]
  clear_value cut sluice
  have hepoch : epoch = sluice.epochAt z := rfl
  have hchans : chans = epoch.channelsAt z shift := rfl
  have hslices : slices = { chans with quads := quadsEpochAt z chans.quads } := rfl
  refine ⟨cut.renumber, slices.dir.epochs, hcut, ?_⟩
  clear_value slices chans epoch
  rw [hslices, hchans, State.channelsAt_quads, hepoch, hsluice]
  rfl

theorem State.epochStart_of_due {s : State} {z : Time} (hz : s.fan.sync = some z) (hd : z ≤ s.clk.now) : s.epochStart = s.newEpoch z := by
  simp only [State.epochStart, hz]
  exact if_pos (decide_eq_true hd)

theorem State.epochStart_of_later {s : State} {z : Time} (hz : s.fan.sync = some z) (hd : s.clk.now < z) : s.epochStart = s := by
  simp only [State.epochStart, hz]
  exact if_neg fun h => Nat.not_le.mpr hd (of_decide_eq_true h)

theorem epochStart_due {s : State} {z : Time} (hz : s.fan.sync = some z) (hd : z ≤ s.clk.now) :
    ∃ t, exec .epochStart s = .next t ∧ t.clk = { s.clk with epochBase := z } ∧ t.dir.epochs = s.dir.epochs + 1 ∧
      t.origin = { s.origin with o := 0, gen := s.origin.gen + 1 } ∧
      t.fan = { s.fan with sync := none, syncDone := some z, heldSync := false, gridKnown := s.fan.tb == 2 && s.fan.inUse == 1 } ∧
      t.sluice.raster = { s.sluice.raster with now := {}, past := [], frameEdge := none, lineEdge := none } ∧
      (∀ c, c < 4 → (t.chan c).hist = [] ∧ (t.chan c).zeroAt = 0 ∧ (t.chan c).cfg = (s.chan c).cfg) ∧
      (∀ y, y ∈ [Part.dev, .net, .dress, .gov, .layer, .mon, .upd] → y.same s t) := by
  obtain ⟨w, n, hw, hnew⟩ := State.newEpoch_stages z s
  obtain ⟨S, hS, hraster⟩ := State.sluiceEpoch_eq w
  rw [hS] at hnew
  obtain ⟨hclk, hepochs, horigin, hfan, hchans, hras⟩ := State.of_besideSegs hw
  have hcount := State.restartAt_besideChans z ((z : Int) - s.clk.epochBase) (State.epochAt z { w with sluice := S })
  have hchan := fun c (hc : c < 4) =>
    State.chan_restartAt hc z ((z : Int) - s.clk.epochBase) (State.epochAt z { w with sluice := S })
  generalize (State.epochAt z { w with sluice := S }).restartAt z ((z : Int) - s.clk.epochBase) = x at hnew hcount hchan
  obtain ⟨hxclk, hxdir, hxorigin, hxfan, hxsluice⟩ := State.of_besideChans hcount
  have ht : exec .epochStart s = .next (s.after (x.traceAt 0 9 0 0xFFFF n)) := by
    rw [← hnew, ← State.epochStart_of_due hz hd]
    rfl
  refine ⟨_, ht, ?_, ?_, ?_, ?_, ?_, fun c hc => ?_,
    fun y hy => Part.same_trans ?_ (Part.same_trans (State.traceAs_same _ _ _ _ _ _ x y) (State.after_same _ _ y))⟩
  · rw [State.after_clk, State.traceAt_clk, hxclk]
    simp [State.epochAt, hclk, Nat.max_eq_right hd]
  · rw [State.after_dir, State.traceAt_dir, hxdir]
    simp [State.epochAt, hepochs]
  · rw [State.after_origin, State.traceAt_origin, hxorigin]
    simp [State.epochAt, horigin]
  · rw [State.after_fan, State.traceAt_fan, hxfan]
    simp [State.epochAt, hfan]
  · rw [State.after_sluice, State.traceAt_sluice, hxsluice]
    simp [State.epochAt, hraster, hras]
  · rw [State.chan_of_chans (State.after_chans s _), State.traceAt_chan, ← State.chan_of_chans hchans c]
    exact hchan c hc
  · cases y
    case dev => exact (congrArg State.dev hcount :).trans (congrArg State.dev hw :)
    case net => exact (congrArg State.net hcount :).trans (congrArg State.net hw :)
    case dress => exact (congrArg State.dress hcount :).trans (congrArg State.dress hw :)
    case gov => exact (congrArg State.gov hcount :).trans (congrArg State.gov hw :)
    case layer => exact (congrArg State.layer hcount :).trans (congrArg State.layer hw :)
    case mon => exact (congrArg State.mon hcount :).trans (congrArg State.mon hw :)
    case upd => exact (congrArg State.upd hcount :).trans (congrArg State.upd hw :)
    all_goals exact absurd hy (by decide)

theorem epochStart_later {s : State} {z : Time} (hz : s.fan.sync = some z) (hd : s.clk.now < z) :
    ∃ t, exec .epochStart s = .next t ∧ KeepsBut [] s t :=
  ⟨_, State.done_eq s s.epochStart, KeepsBut.after fun x _ => by rw [State.epochStart_of_later hz hd]; exact x.same_refl s⟩

/-! ### A protective stop leaves the gap registers alone (R25, R154) -/

theorem State.uncovered_chans (kind unit slice detail intr : Nat) (s : State) :
    (s.uncovered kind unit slice detail intr).chans = s.chans := by
  simp [State.uncovered, State.uncoveredAs]

theorem State.addGap_chans (g : GapRec) (s : State) : (s.addGap g).chans = s.chans := by
  unfold State.addGap
  split
  · rfl
  · exact State.uncovered_chans _ _ _ _ _ s

theorem State.retire_chans (row : Nat) (s : State) : (s.retire row).chans = s.chans := by
  unfold State.retire
  split <;> rfl

theorem State.markSegs_chans (c r gen : Nat) (idx : Int) (flags : Nat) (s : State) : (s.markSegs c r gen idx flags).chans = s.chans := by
  unfold State.markSegs
  refine view_ite State.chans ?_ ?_
  · rfl
  · rfl

theorem State.closeSegs_chans (q : Nat) (stop : Int) (flag : List Nat) (s : State) : (s.closeSegs q stop flag).chans = s.chans := by
  refine foldl_keeps State.chans (fun e _ s => view_ite State.chans ?_ rfl) s
  exact (congrArg State.chans (State.endSeg_besideSegs e.1 (e.2.close stop flag) s) :)

theorem State.forget_chans (a n : Nat) (s : State) : (s.forget a n).chans = s.chans :=
  foldl_keeps State.chans (fun row _ s => s.retire_chans row) _

theorem State.freePlan_chans (q : Nat) (s : State) : (s.freePlan q).chans = s.chans :=
  foldl_keeps State.chans (fun _ _ s => s.forget_chans _ _) (s.releaseEntries q)

theorem State.stopPlan_chans (q : Nat) (gB : Int) (flag : Nat) (s : State) : (s.stopPlan q gB flag).chans = s.chans := by
  have hclose := State.closeSegs_chans q gB [flag] s
  unfold State.stopPlan
  exact view_ite State.chans ((State.freePlan_chans q _).trans hclose) hclose

theorem State.fillDropped_chans (q : Nat) (s : State) : (s.fillDropped q).chans = s.chans := by
  refine foldl_keeps State.chans (fun e _ s => foldl_keeps State.chans (fun c _ s => ?_) s) s
  simp only []
  split
  · rfl
  · refine (State.addGap_chans _ _).trans (foldl_keeps State.chans (fun i _ s => ?_) s)
    exact State.markSegs_chans _ _ _ _ _ _

theorem State.faultStop_chans (s : State) : s.faultStop.chans = s.chans := by
  refine foldl_keeps State.chans (fun q _ s => ?_) s
  have hstop := fun stop => State.stopPlan_chans q stop 8 (s.setPlan q { s.plan q with cmds := [] })
  exact view_ite State.chans rfl (view_ite State.chans (hstop _) ((State.fillDropped_chans q _).trans (hstop _)))

theorem State.rejoinLanes_chans (u : Nat) (s : State) : (s.rejoinLanes u).chans = s.chans := by
  have hback : ∀ (f : Lane → Lane) (l : List Nat) (s : State), (l.foldl (fun s l => s.modLane l f) s).chans = s.chans := by
    refine fun f l s => foldl_keeps State.chans (fun _ _ _ => ?_) s
    rfl
  unfold State.rejoinLanes
  simp only []
  split
  · split
    · refine (foldl_keeps State.chans (fun l _ s => ?_) _).trans (hback _ _ s)
      split <;> rfl
    · exact hback _ _ s
  · rfl

theorem State.endPass_chans (p : Pass) (outcome : Nat) (s : State) : (s.endPass p outcome).chans = s.chans :=
  State.traceEv_chans _ _ _ _ _

/-- A channel's gap ranges, and whether grains are being dropped into the newest. -/
def State.gapRegs (c : Nat) (s : State) : List GapReg × Bool := ((s.chan c).gaps, (s.chan c).dropping)

theorem State.gapRegs_of_chans (c : Nat) {s t : State} (h : t.chans = s.chans) : t.gapRegs c = s.gapRegs c := by
  simp [State.gapRegs, State.chan_of_chans h c]

theorem State.unblind_gapRegs (c : Nat) (p : Pass) (s : State) : (s.unblind p).gapRegs c = s.gapRegs c := by
  unfold State.unblind
  split
  · by_cases h : c = p.unit / 256 - 1
    · subst h
      simp [State.gapRegs]
    · simp [State.gapRegs, h]
  · rfl

theorem State.abortPasses_gapRegs (c : Nat) (s : State) : s.abortPasses.gapRegs c = s.gapRegs c := by
  refine foldl_keeps (State.gapRegs c) (fun p _ s => ?_) s
  calc _ = ((s.rejoinLanes p.unit).unblind p).gapRegs c := State.gapRegs_of_chans c (State.endPass_chans p 4 _)
    _ = (s.rejoinLanes p.unit).gapRegs c := State.unblind_gapRegs c p _
    _ = s.gapRegs c := State.gapRegs_of_chans c (s.rejoinLanes_chans p.unit)

theorem State.protect_gapRegs (c : Nat) (s : State) : s.protect.gapRegs c = s.gapRegs c := by
  unfold State.protect
  split
  · exact (State.abortPasses_gapRegs c _).trans (State.gapRegs_of_chans c (State.faultStop_chans _))
  · rfl

theorem State.protect_of_noStop {s : State} (h : s.fault.stop = false) : s.protect = s := by simp [State.protect, h]

/-! ### Gap ranges leave their registers (R25) -/

theorem State.writeRangeRec_chans (c : Nat) (s : State) (g : GapReg) : (State.writeRangeRec c s g).chans = s.chans := by
  unfold State.writeRangeRec
  rw [State.traceAt_chans, State.retire_chans]
  refine (foldl_keeps State.chans (fun a _ s => ?_) _).trans (State.addGap_chans _ s)
  rfl

/-- With the domain running, the channel's registers are empty in the end, whatever else the records led to. -/
theorem State.gapRangeWrite_gapRegs {c : Nat} {s : State} (h : s.stopped 2 = false) : (s.gapRangeWrite c).gapRegs c = ([], false) := by
  unfold State.gapRangeWrite
  rw [if_neg (by simp [h])]
  refine (State.gapRegs_of_chans c (foldl_keeps State.chans (fun g _ s => State.writeRangeRec_chans c s g) _)).trans ?_
  simp [State.gapRegs]

/-- Marking locations as lost changes the store's record of lost locations alone; the record in `row` then covers each of them. -/
theorem State.coverLost_foldl (row : Nat) (addrs : List Nat) (s : State) :
    ∃ L, addrs.foldl (fun s a => s.coverLost row a) s = { s with pond := { s.pond with lost := L } } ∧
      ∀ a, a ∈ addrs ∨ row ∈ tget (fun _ => []) s.pond.lost a → row ∈ tget (fun _ => []) L a := by
  induction addrs generalizing s with
  | nil => exact ⟨s.pond.lost, rfl, fun a h => h.resolve_left (by simp)⟩
  | cons b addrs ih =>
    obtain ⟨L, hL, hcov⟩ := ih (s.coverLost row b)
    refine ⟨L, hL, fun a h => hcov a ?_⟩
    by_cases hab : a = b
    · subst hab
      simp [State.coverLost]
    · simpa [State.coverLost, hab] using h

/-- A record that still covers a location stays. -/
theorem State.retire_of_covers {row a : Nat} {s : State} (h : row ∈ tget (fun _ => []) s.pond.lost a) : s.retire row = s := by
  unfold State.retire
  refine if_pos ?_
  cases hf : tfind s.pond.lost a with
  | none => simp [tget, hf] at h
  | some rows => exact List.any_eq_true.mpr ⟨_, mem_of_tfind hf, by simpa [tget, hf] using h⟩

/-- The record that a range becomes. -/
def gapRecOf (c : Nat) (g : GapReg) : GapRec :=
  { kind := 1, ch := c, first := g.first, grains := g.count, addr := g.addrs.headD 0, pc := pcNo (g.addrs.headD 0), epoch := g.epoch }

theorem State.writeRangeRec_eq (c : Nat) (s : State) (g : GapReg) :
    State.writeRangeRec c s g =
      ((g.addrs.foldl (fun x a => x.coverLost s.gapRow a) (s.addGap (gapRecOf c g))).retire s.gapRow).traceAt
        g.first 3 (256 * (c + 1) + 255) 0xFFFF g.count :=
  rfl

/-- A range with grains that plans took, written while the gap list has room. -/
theorem State.writeRangeRec_room {c : Nat} {s : State} {g : GapReg} (ha : g.addrs ≠ []) (hroom : s.pond.gaps.length < 1048576) :
    ∃ L n, State.writeRangeRec c s g =
        (State.bump 208 { s with pond := { s.pond with gaps := tset s.gapRow (gapRecOf c g) s.pond.gaps, lost := L } }).traceAt
          g.first 3 (256 * (c + 1) + 255) 0xFFFF n ∧
      ∀ a, a ∈ g.addrs → s.gapRow ∈ tget (fun _ => []) L a := by
  have hadd : s.addGap (gapRecOf c g) =
      State.bump 208 { s with pond := { s.pond with gaps := tset s.gapRow (gapRecOf c g) s.pond.gaps } } := if_pos hroom
  obtain ⟨L, hL, hcov⟩ := State.coverLost_foldl s.gapRow g.addrs (s.addGap (gapRecOf c g))
  refine ⟨L, g.count, ?_, fun a h => hcov a (.inl h)⟩
  obtain ⟨a, has⟩ := List.exists_mem_of_ne_nil _ ha
  have hretire := State.retire_of_covers (s := { s.addGap (gapRecOf c g) with pond := { (s.addGap (gapRecOf c g)).pond with lost := L } })
    (hcov a (.inl has))
  rw [State.writeRangeRec_eq, hL, hretire, hadd]
  rfl

/-- A channel's only range, written while the gap list has room: the step, before what ends it. -/
theorem State.gapRangeWrite_single {c : Nat} {s : State} {g : GapReg} (h : s.stopped 2 = false) (hg : (s.chan c).gaps = [g])
    (ha : g.addrs ≠ []) (hroom : s.pond.gaps.length < 1048576) :
    ∃ L n, s.gapRangeWrite c =
        (State.bump 208 { s.modChan c (fun ch => { ch with gaps := [], dropping := false }) with
          pond := { s.pond with gaps := tset s.gapRow (gapRecOf c g) s.pond.gaps, lost := L } }).traceAt
          g.first 3 (256 * (c + 1) + 255) 0xFFFF n ∧
      ∀ a, a ∈ g.addrs → s.gapRow ∈ tget (fun _ => []) L a := by
  have e : s.gapRangeWrite c = State.writeRangeRec c (s.modChan c (fun ch => { ch with gaps := [], dropping := false })) g := by
    unfold State.gapRangeWrite
    rw [if_neg (by simp [h]), hg]
    rfl
  rw [e]
  exact State.writeRangeRec_room ha hroom

theorem gapRangeWrite_stopped {c : Nat} {s : State} (hf : s.fault.stop = false) (h : s.stopped 2 = true) :
    ∃ t, exec (.gapRangeWrite c) s = .next t ∧ KeepsBut [] s t := by
  have e : (s.gapRangeWrite c).protect = s := by
    rw [show s.gapRangeWrite c = s from if_pos h, State.protect_of_noStop hf]
  exact ⟨_, State.done_eq s (s.gapRangeWrite c).protect, KeepsBut.after fun x _ => by rw [e]; exact x.same_refl s⟩

theorem gapRangeWrite_running {c : Nat} {s : State} (hf : s.fault.stop = false) (h : s.stopped 2 = false) :
    ∃ t, exec (.gapRangeWrite c) s = .next t ∧ (t.chan c).gaps = [] ∧ (t.chan c).dropping = false ∧
      (∀ g, (s.chan c).gaps = [g] → g.addrs ≠ [] → s.pond.gaps.length < 1048576 →
        t.chan c = { s.chan c with gaps := [], dropping := false } ∧ (∀ d, d ≠ c → t.chan d = s.chan d) ∧
        t.pond = { s.pond with gaps := tset s.gapRow (gapRecOf c g) s.pond.gaps, lost := t.pond.lost } ∧
        (∀ a, a ∈ g.addrs → s.gapRow ∈ tget (fun _ => []) t.pond.lost a) ∧
        t.place 208 = (s.place 208 + 1) % 2 ^ 64 ∧ CtrBut [208] s t ∧ KeepsBut [.chans, .pond, .ctr] s t) := by
  have hregs : (s.after (s.gapRangeWrite c).protect).gapRegs c = ([], false) := by
    rw [State.gapRegs_of_chans c (State.after_chans _ _), State.protect_gapRegs, State.gapRangeWrite_gapRegs h]
  obtain ⟨hgaps, hdropping⟩ := Prod.mk.inj hregs
  refine ⟨_, State.done_eq s (s.gapRangeWrite c).protect, hgaps, hdropping, fun g hg ha hroom => ?_⟩
  obtain ⟨L, n, e, hcov⟩ := State.gapRangeWrite_single h hg ha hroom
  have hstop : (s.gapRangeWrite c).fault.stop = false := by
    rw [e, State.traceAt_fault]
    exact hf
  rw [State.protect_of_noStop hstop]
  have hpond : (s.after (s.gapRangeWrite c)).pond =
      { s.pond with gaps := tset s.gapRow (gapRecOf c g) s.pond.gaps, lost := L } := by
    rw [State.after_pond, e, State.traceAt_pond]
    rfl
  have hchan : ∀ d, (s.after (s.gapRangeWrite c)).chan d =
      (s.modChan c (fun ch => { ch with gaps := [], dropping := false })).chan d := by
    refine State.chan_of_chans ?_
    rw [State.after_chans, e, State.traceAt_chans]
    rfl
  have hplace : ∀ m, m ≠ 465 → m ≠ 467 → (s.after (s.gapRangeWrite c)).place m = (s.bump 208).place m := by
    intro m h1 h2
    rw [State.after_place _ _ h1 h2, e, State.traceAt, State.traceAs_place _ _ _ _ _ _ _ h2]
    rfl
  refine ⟨?_, fun d hd => ?_, ?_, fun a hmem => ?_, ?_, fun m hm h1 h2 => ?_, KeepsBut.after fun x hx => ?_⟩
  · rw [hchan, State.chan_modChan_same]
  · rw [hchan, State.chan_modChan_other hd]
  · rw [hpond]
  · rw [hpond]
    exact hcov a hmem
  · rw [hplace 208 (by decide) (by decide), State.place_bump_same]
  · rw [hplace m h1 h2, State.place_bump_other (by simpa using hm)]
  · rw [e]
    refine Part.same_trans ?_ (State.traceAs_same _ _ _ _ _ _ _ x)
    cases x
    case chans | pond | ctr => exact absurd (by decide) hx
    all_goals simp [Part.same, State.rd]

/-! ### The obligation -/

/-- Settles O25: the edges by what R279 ignores and what a failover holds, the epoch's start stage by stage, and the ranges by what a record
changes, whatever a protective stop then does. -/
theorem syncAndGaps : Obligations.SyncAndGaps := by
  refine ⟨fun s => ⟨syncInEdge_ignored, fun hen hdev has hsync hdone hheld => ?_, fun z => epochStart_due, fun z => epochStart_later⟩,
    fun c s hf => ⟨gapRangeWrite_stopped hf, gapRangeWrite_running hf⟩⟩
  have hgo : ¬ s.ignoresSync := by
    rintro (h | h | h | h | h | ⟨z, hz, h⟩ | ⟨z, hz, h⟩)
    · exact h hen
    · simp [h] at hdev
    · simp [h] at hdev
    · simp [h] at has
    · simp [h] at hheld
    · exact absurd h (Nat.not_lt.mpr (hsync z hz))
    · exact absurd h (Nat.not_le.mpr (hdone z hz))
  exact ⟨syncInEdge_registered hgo, fun u => syncInEdge_held hgo⟩

end Sys2Proof.Machine
end

section
/-!
PROOF. The event timer (R348 to R361, R370): what closing a pair leaves, what an edge, the pair's limit and the end of the dead time come to,
and the objects by which a host reaches the timer; `Obligations.EventTimer` from that.
-/

namespace Sys2Proof.Machine

/-! ### A read of one object -/

/-- A served access keeps what its effect `u` keeps of the state that serving began with. -/
theorem KeepsBut.of_served {s u t : State} {p : Path} {l : List Part} (hl : ∀ x ∈ accessParts, x ∈ l) (hpend : t.pending = s.pending)
    (hu : ∀ x, x ∉ l → x.same (s.dropXfer p) u) (ht : ∀ x, x ∉ accessParts → x.same u t) : KeepsBut l s t := by
  refine ⟨hpend, fun x hx => ?_⟩
  have hx' : x ∉ accessParts := fun hm => hx (hl x hm)
  have hnet : x ≠ .net := fun hm => hx' (by simp [hm, accessParts])
  exact Part.same_trans (State.dropXfer_same p s hnet) (Part.same_trans (hu x hx) (ht x hx'))

/-- An access that is admitted and not waited for is served, whatever the device state. -/
theorem State.access_of_admitted {s : State} {a : Acc} (ha : s.admits a.path = true) (hw : s.waits a.idx = false) (f : State → State) :
    s.access a f = f (s.dropXfer a.path) := by
  have hrun := State.running_of_waits hw
  simp [State.access, ha, hrun, State.dropXfer_waits, hw]

/-- The access that a read of object `k` is. -/
def readAcc (p : Path) (k : Nat) : Acc := { path := p, write := false, idx := k / 256 % 65536, sub := k % 256, len := 0, v := 0 }

section
variable {s : State} {p : Path} {k : Nat} {f : State → RRes} (ha : s.admits p = true) (hw : s.waits (k / 256 % 65536) = false)
include ha hw

theorem State.readObj_served : s.readObj p k f = (s.dropXfer p).serveRead (readAcc p k) s.clk.now f :=
  (State.access_of_admitted (a := readAcc p k) ha hw _).trans (by rw [State.dropXfer_clk]; rfl)

/-- What a served read of one object leaves: the effect `u`, and what every access does beside it. -/
theorem State.read_done {u : State} {v : Int} (e : f (s.dropXfer p) = .ok (u, v)) (hu : u.net = (s.dropXfer p).net) :
    ∃ t, s.done (s.readObj p k f) = .next t ∧ Answered p k v s t ∧
      (∀ n, n ∉ [460, 461] → n ≠ 465 → n ≠ 467 → t.place n = u.place n) ∧
      t.pending = s.pending ∧ ∀ x, x ∉ accessParts → x.same u t := by
  have hread : s.readObj p k f = u.respond (readAcc p k) s.clk.now v 0 0 := by
    rw [State.readObj_served ha hw, State.serveRead, e]
  refine ⟨_, State.done_eq s _, ?_, fun n hn h1 h2 => ?_, rfl, fun x hx => ?_⟩
  · obtain ⟨m, hm⟩ := u.respond_net (readAcc p k) s.clk.now v 0 0
    refine ⟨m, ?_⟩
    rw [State.after_net, hread, hm, hu, State.dropXfer_net]
    cases p <;> rfl
  · rw [State.after_place _ _ h1 h2, hread]
    exact State.respond_place _ _ _ _ _ _ (by simp at hn; exact hn.1) (by simp at hn; exact hn.2)
  · rw [hread]
    exact Part.same_trans (State.respond_same _ _ _ _ _ _ hx) (State.after_same _ _ x)

theorem State.read_refusedWith {r : Rej} (e : f (s.dropXfer p) = .error r) :
    ∃ t, s.done (s.readObj p k f) = .next t ∧ RefusedWith (readAcc p k) 0 r.abort r.reason r.plan s t := by
  rw [State.readObj_served ha hw, State.serveRead, e]
  exact State.refused_done (a := readAcc p k) r 0

end

/-! ### A write of one object that acts on the timer -/

/-- A write of one object refused with any abort. -/
theorem State.write_refusedBy {s : State} {p : Path} {k : Nat} {v : Int} {f : State → WRes} {r : Rej} (h : Admitted s p k v)
    (e : f (s.dropXfer p) = .error r) :
    ∃ t, s.done (s.write p k v f) = .next t ∧ RefusedWith (accOf p k v) 0 r.abort r.reason r.plan s t := by
  rw [State.write_refused h e]
  exact State.refused_done (a := accOf p k v) r 0

/-- A write whose effect is on objects and on the timer alone. -/
theorem State.write_of_timer {s : State} {p : Path} {k : Nat} {v : Int} {f : State → WRes} {D : Tbl Int} {T : TimerSt}
    (h : Admitted s p k v) (e : f (s.dropXfer p) = .ok { s.dropXfer p with od := D, timer := T }) :
    ∃ t, s.done (s.write p k v f) = .next t ∧ t.timer = T ∧ (∀ j, j ≠ O.EMCY_LOST → t.rd j = tget odDefault D j) ∧
      Written p k s t ∧ KeepsBut [.net, .ctr, .free, .od, .timer] s t := by
  obtain ⟨t, ht, hnet, hctr, hpend, hsame⟩ := State.write_done h e
  refine ⟨t, ht, hsame .timer (by decide), hsame .od (by decide), ⟨hnet rfl, fun n hn h1 h2 => ?_⟩,
    KeepsBut.of_served (p := p) (by decide) hpend (fun x hx => ?_) hsame⟩
  · rw [hctr n hn h1 h2]
    exact State.place_of_ctr (State.dropXfer_ctr p s) n
  · cases x
    case od | timer => exact absurd (by decide) hx
    all_goals simp [Part.same, State.place]

/-! ### Commands that act on the timer -/

/-- A command whose meaning changes the timer alone. -/
theorem State.done_of_timer {s u : State} {T : TimerSt} (e : u = { s with timer := T }) :
    ∃ t, s.done u = .next t ∧ t.timer = T ∧ KeepsBut [.timer] s t := by
  refine ⟨_, s.done_eq u, by rw [State.after_timer, e], KeepsBut.after fun x hx => ?_⟩
  rw [e]
  cases x
  case timer => exact absurd (by decide) hx
  all_goals simp [Part.same, State.rd, State.place]

/-- A command whose meaning changes the timer and counts in object `k`. -/
theorem State.done_of_timer_sat {s u : State} {k : Nat} {T : TimerSt} (hk : k ≠ O.EMCY_LOST) (e : u = { s.sat k with timer := T }) :
    ∃ t, s.done u = .next t ∧ t.timer = T ∧ t.rd k = min (s.rd k + 1) 4294967295 ∧ OdBut [k] s t ∧ KeepsBut [.timer, .od] s t := by
  obtain ⟨hsat, hod⟩ := State.after_saturated (s := s) (u := u) hk (by rw [e])
  refine ⟨_, s.done_eq u, by rw [State.after_timer, e], hsat, hod, KeepsBut.after fun x hx => ?_⟩
  rw [e]
  cases x
  case timer | od => exact absurd (by decide) hx
  all_goals simp [Part.same, State.place]

/-- A command whose meaning is to change nothing. -/
theorem State.done_of_idle {s u : State} (e : u = s) : ∃ t, s.done u = .next t ∧ KeepsBut [] s t :=
  ⟨_, s.done_eq u, KeepsBut.after fun x _ => by rw [e]; exact x.same_refl s⟩

/-! ### Generations of constants (R359) -/

/-- The timer but for its constants, which a new generation replaces. -/
def TimerSt.besideGen (t : TimerSt) : TimerSt := { t with gen := 0, gens := [], nextGen := none }

theorem TimerSt.of_besideGen {t u : TimerSt} (h : t.besideGen = u.besideGen) :
    t = { u with gen := t.gen, gens := t.gens, nextGen := t.nextGen } := by
  cases t; cases u
  simpa [TimerSt.besideGen] using h

theorem State.adoptGen_timer (s : State) : ∃ T, s.adoptGen = { s with timer := T } ∧ T.besideGen = s.timer.besideGen := by
  unfold State.adoptGen
  split
  · exact ⟨_, rfl, rfl⟩
  · exact ⟨_, rfl, rfl⟩

/-! ### A pair closed (R355, R356) -/

/-- The record that a pair becomes. -/
def TimerSt.stamp (t : TimerSt) (epochs sk sf pk pf flags : Nat) : Stamp :=
  { seq := t.seq, startK := sk, stopK := pk, startF := sf, stopF := pf, flags := flags + at_ t.lostBefore 5, epoch := epochs % 256,
    gen := t.gen % 256 }

/-- The timer without its open pair, whose number is used. -/
def TimerSt.closed (t : TimerSt) : TimerSt := { t with pair := none, seq := (t.seq + 1) % 2 ^ 32 }

/-- The objects after a record has entered the queue: single mode stops (R348). -/
def State.odQueued (s : State) : Tbl Int := if s.rd O.TIMER_MODE = 1 then (s.wr O.TIMER_MODE 0).od else s.od

theorem State.tget_odQueued (s : State) (k : Nat) :
    tget odDefault s.odQueued k = if k = O.TIMER_MODE ∧ s.rd O.TIMER_MODE = 1 then 0 else s.rd k := by
  unfold State.odQueued
  split
  · next h =>
    simp only [h, and_true]
    exact State.rd_wr _ _ _ s
  · next h =>
    rw [if_neg fun hc => h hc.2]
    rfl

theorem State.stopSingle_eq (s : State) : (if s.rd O.TIMER_MODE == 1 then s.wr O.TIMER_MODE 0 else s) = { s with od := s.odQueued } := by
  simp only [State.odQueued, beq_iff_eq]
  split <;> rfl

theorem State.closePair_room {s : State} {sk sf pk pf flags : Nat} (h : s.timer.queue.length < 16) :
    ∃ T, s.closePair sk sf pk pf flags = { s.bump 470 with od := s.odQueued, timer := T } ∧
      T.besideGen = { s.timer.closed with
        queue := s.timer.queue ++ [s.timer.stamp s.dir.epochs sk sf pk pf flags], lostBefore := false }.besideGen := by
  unfold State.closePair
  simp only [h, if_true, State.stopSingle_eq]
  obtain ⟨T, hT, hgen⟩ := State.adoptGen_timer _
  exact ⟨T, hT, hgen⟩

theorem State.closePair_full {s : State} {sk sf pk pf flags : Nat} (h : 16 ≤ s.timer.queue.length) :
    ∃ T, s.closePair sk sf pk pf flags = { s.bump 470 with od := (s.sat O.PAIRS_LOST).od, timer := T } ∧
      T.besideGen = { s.timer.closed with lostBefore := true }.besideGen := by
  unfold State.closePair
  simp only [Nat.not_lt.mpr h, if_false]
  obtain ⟨T, hT, hgen⟩ := State.adoptGen_timer _
  exact ⟨T, hT, hgen⟩

/-- A command whose meaning changes the timer and objects and counts at place 470. -/
theorem State.done_of_timer_counted {s u : State} {D : Tbl Int} {T : TimerSt} (e : u = { s.bump 470 with od := D, timer := T }) :
    ∃ t, s.done u = .next t ∧ t.timer = T ∧ (∀ k, k ≠ O.EMCY_LOST → t.rd k = tget odDefault D k) ∧
      t.place 470 = (s.place 470 + 1) % 2 ^ 64 ∧ CtrBut [470] s t ∧ KeepsBut [.timer, .od, .ctr] s t := by
  obtain ⟨hcount, hctr⟩ := State.after_counted (s := s) (u := u) (n := 470) (by decide) (by rw [e])
  refine ⟨_, s.done_eq u, by rw [State.after_timer, e], fun k hk => ?_, hcount, hctr, KeepsBut.after fun x hx => ?_⟩
  · rw [State.after_rd _ _ hk, e]
    rfl
  · rw [e]
    cases x
    case timer | od | ctr => exact absurd (by decide) hx
    all_goals simp [Part.same]

/-- What a closed pair leaves, from the timer `t0` that it closes: its number used, and its record in the queue, or lost to a full one. -/
structure PairClosed (s : State) (t0 : TimerSt) (x : Stamp) (t : State) : Prop where
  pair : t.timer.pair = none
  seq : t.timer.seq = (t0.seq + 1) % 2 ^ 32
  rearm : t.timer.rearm = t0.rearm
  queued : t0.queue.length < 16 → t.timer.queue = t0.queue ++ [x] ∧ t.timer.lostBefore = false ∧
    t.rd O.TIMER_MODE = (if s.rd O.TIMER_MODE = 1 then 0 else s.rd O.TIMER_MODE) ∧ OdBut [O.TIMER_MODE] s t
  lost : 16 ≤ t0.queue.length → t.timer.queue = t0.queue ∧ t.timer.lostBefore = true ∧
    t.rd O.PAIRS_LOST = min (s.rd O.PAIRS_LOST + 1) 4294967295 ∧ OdBut [O.PAIRS_LOST] s t
  count : t.place 470 = (s.place 470 + 1) % 2 ^ 64
  ctr : CtrBut [470] s t
  keeps : KeepsBut [.timer, .od, .ctr] s t

/-- Whether its record is queued or lost, a closed pair changes no other object than these two. -/
theorem PairClosed.odBut {s t : State} {t0 : TimerSt} {x : Stamp} (h : PairClosed s t0 x t) : OdBut [O.TIMER_MODE, O.PAIRS_LOST] s t := by
  intro k hk
  simp only [List.mem_cons, List.not_mem_nil, or_false, not_or] at hk
  by_cases hq : t0.queue.length < 16
  · obtain ⟨-, -, -, hod⟩ := h.queued hq
    exact hod k (by simp [hk.1])
  · obtain ⟨-, -, -, hod⟩ := h.lost (Nat.not_lt.mp hq)
    exact hod k (by simp [hk.2])

theorem State.done_of_close {s u : State} {t0 : TimerSt} {sk sf pk pf flags : Nat}
    (e : u = ({ s with timer := t0 } : State).closePair sk sf pk pf flags) :
    ∃ t, s.done u = .next t ∧ PairClosed s t0 (t0.stamp s.dir.epochs sk sf pk pf flags) t := by
  by_cases hq : t0.queue.length < 16
  · obtain ⟨T, hT, hgen⟩ := State.closePair_room (s := { s with timer := t0 }) (sk := sk) (sf := sf) (pk := pk) (pf := pf)
      (flags := flags) hq
    obtain ⟨t, ht, rfl, hrd, hcount, hctr, hkeep⟩ := State.done_of_timer_counted (s := s) (e.trans hT)
    have hrd' : ∀ k, k ≠ O.EMCY_LOST → t.rd k = if k = O.TIMER_MODE ∧ s.rd O.TIMER_MODE = 1 then 0 else s.rd k :=
      fun k hk => (hrd k hk).trans (State.tget_odQueued _ k)
    have htimer := TimerSt.of_besideGen hgen
    refine ⟨t, ht, by rw [htimer]; rfl, by rw [htimer]; rfl, by rw [htimer]; rfl, fun _ => ⟨by rw [htimer], by rw [htimer], ?_, ?_⟩,
      fun h => absurd hq (Nat.not_lt.mpr h), hcount, hctr, hkeep⟩
    · simpa using hrd' O.TIMER_MODE (by decide)
    · intro k hk hk'
      rw [hrd' k hk', if_neg fun h => hk (by simp [h.1])]
  · obtain ⟨T, hT, hgen⟩ := State.closePair_full (s := { s with timer := t0 }) (sk := sk) (sf := sf) (pk := pk) (pf := pf)
      (flags := flags) (Nat.not_lt.mp hq)
    obtain ⟨t, ht, rfl, hrd, hcount, hctr, hkeep⟩ := State.done_of_timer_counted (s := s) (e.trans hT)
    have htimer := TimerSt.of_besideGen hgen
    refine ⟨t, ht, by rw [htimer]; rfl, by rw [htimer]; rfl, by rw [htimer]; rfl, fun h => absurd h hq,
      fun _ => ⟨by rw [htimer]; rfl, by rw [htimer], ?_, ?_⟩, hcount, hctr, hkeep⟩
    · exact (hrd _ (by decide)).trans (State.rd_wr_same _ _ s)
    · intro k hk hk'
      exact (hrd k hk').trans (State.rd_wr_other (by simpa using hk) _ s)

/-! ### The limit of an open pair (R350) -/

/-- At count `now` no open pair has reached its limit, or the timer stands still. -/
def State.withinLimit (s : State) (now : Nat) : Prop :=
  ∀ o, s.timer.pair = some o → s.rdN O.PAIR_LIMIT = 0 ∨ s.timerRuns = false ∨ now < o.k + s.rdN O.PAIR_LIMIT

theorem State.limitAt_of_within {s : State} {now : Nat} (h : s.withinLimit now) : s.limitAt now = s := by
  unfold State.limitAt
  simp only []
  split
  · next o ho =>
    refine if_pos ?_
    rcases h o ho with h | h | h <;> simp [h]
  · rfl

section
variable {s : State} {o : OpenPair} (ho : s.timer.pair = some o) (hl : s.rdN O.PAIR_LIMIT ≠ 0) (hr : s.timerRuns = true)
  {now : Nat} (hn : o.k + s.rdN O.PAIR_LIMIT ≤ now)
include ho hl hr hn

/-- A START alone: its STOP is missing, and the timer re-arms at once. -/
theorem State.limitAt_start (hs : o.isStart = true) :
    s.limitAt now = ({ s with timer := { s.timer with rearm := none } } : State).closePair o.k o.f 0 0 (at_ o.ref 1 + 16) := by
  simp [State.limitAt, ho, hl, hr, Nat.not_lt.mpr hn, hs]

/-- A STOP alone: its START is missing, and the timer is dead until 50 ns after it. -/
theorem State.limitAt_stop (hs : o.isStart = false) :
    s.limitAt now =
      ({ s with timer := { s.timer with
        rearm := if 4096 * now < 4096 * o.k - o.f + 20 * 4096 then some (4096 * o.k - o.f + 20 * 4096) else none } } : State).closePair
        0 0 o.k o.f (at_ o.ref 1 + 8) := by
  simp [State.limitAt, ho, hl, hr, Nat.not_lt.mpr hn, hs]

end

theorem bit_missingStop (ref lost : Bool) : bit (at_ ref 1 + 16 + at_ lost 5) 4 = true := by cases ref <;> cases lost <;> decide

theorem bit_missingStart (ref lost : Bool) : bit (at_ ref 1 + 8 + at_ lost 5) 3 = true := by cases ref <;> cases lost <;> decide

theorem pairLimitExpire_over {s : State} {o : OpenPair} (ho : s.timer.pair = some o) (hl : s.rdN O.PAIR_LIMIT ≠ 0)
    (hr : s.timerRuns = true) (hn : o.k + s.rdN O.PAIR_LIMIT ≤ s.coarse) :
    ∃ t, exec .pairLimitExpire s = .next t ∧ t.timer.pair = none ∧
      t.timer.rearm = (if o.isStart = false ∧ 4096 * s.coarse < 4096 * o.k - o.f + 20 * 4096 then some (4096 * o.k - o.f + 20 * 4096)
                       else none) ∧
      (s.timer.queue.length < 16 → ∃ x, t.timer.queue = s.timer.queue ++ [x] ∧ x.seq = s.timer.seq ∧
        (o.isStart = true → x.startK = o.k ∧ x.startF = o.f ∧ x.stopK = 0 ∧ x.stopF = 0 ∧ bit x.flags 4 = true) ∧
        (o.isStart = false → x.startK = 0 ∧ x.startF = 0 ∧ x.stopK = o.k ∧ x.stopF = o.f ∧ bit x.flags 3 = true)) ∧
      OdBut [O.TIMER_MODE, O.PAIRS_LOST] s t ∧ CtrBut [470] s t ∧ KeepsBut [.timer, .od, .ctr] s t := by
  cases hs : o.isStart with
  | true =>
    obtain ⟨t, ht, hc⟩ := State.done_of_close (s := s) (State.limitAt_start ho hl hr hn hs)
    refine ⟨t, ht, hc.pair, by simp [hc.rearm], fun hq => ⟨_, (hc.queued hq).1, rfl, fun _ => ?_, by simp⟩, hc.odBut, hc.ctr, hc.keeps⟩
    exact ⟨rfl, rfl, rfl, rfl, bit_missingStop _ _⟩
  | false =>
    obtain ⟨t, ht, hc⟩ := State.done_of_close (s := s) (State.limitAt_stop ho hl hr hn hs)
    refine ⟨t, ht, hc.pair, by simp [hc.rearm], fun hq => ⟨_, (hc.queued hq).1, rfl, by simp, fun _ => ?_⟩, hc.odBut, hc.ctr, hc.keeps⟩
    exact ⟨rfl, rfl, rfl, rfl, bit_missingStart _ _⟩

/-! ### The end of the dead time (R349) -/

theorem State.timerRearm_due {s : State} {r : Nat} (h : s.timer.rearm = some r) (hd : r ≤ 4096 * s.coarse) :
    s.timerRearm = { s with timer := { s.timer with rearm := none } } := by
  simp [State.timerRearm, h, hd]

theorem State.timerRearm_later {s : State} (h : ∀ r, s.timer.rearm = some r → 4096 * s.coarse < r) : s.timerRearm = s := by
  unfold State.timerRearm
  split
  · next r hr => exact if_neg (Nat.not_le.mpr (h r hr))
  · rfl

/-! ### An edge (R348, R349, R352, R353) -/

/-- The state in which START or STOP has just had an edge (R292). -/
def State.edgeSeen (s : State) : State := { s with timer := { s.timer with edgeAt := some s.clk.now } }

/-- The timer runs and the edge is one that EDGE_SELECT chooses; an open pair's limit ended at no count before the edge's. -/
structure State.TakesEdge (s : State) (start falling : Bool) (k f : Nat) : Prop where
  fine : f < 4096
  mode : s.rd O.TIMER_MODE ≠ 0
  runs : s.timerRuns = true
  chosen : s.rdBit O.EDGE_SELECT (if start = true then 0 else 1) = falling
  limit : ∀ o, s.timer.pair = some o → s.rdN O.PAIR_LIMIT = 0 ∨ k - 1 < o.k + s.rdN O.PAIR_LIMIT

theorem State.timerEdge_notTaken {s : State} {start falling : Bool} {k : Nat} (f : Nat) (hp : s.timer.pair = none)
    (h : s.rd O.TIMER_MODE = 0 ∨ s.timerRuns = false ∨ s.rdBit O.EDGE_SELECT (if start = true then 0 else 1) ≠ falling) :
    s.timerEdge start falling k f = s.edgeSeen := by
  have hlimit : s.edgeSeen.limitAt (k - 1) = s.edgeSeen := State.limitAt_of_within fun o ho => absurd (hp ▸ ho) (by simp)
  unfold State.timerEdge
  simp only []
  rw [show ({ s with timer := { s.timer with edgeAt := some s.clk.now } } : State) = s.edgeSeen from rfl, hlimit]
  refine if_pos ?_
  rw [show s.edgeSeen.rd O.TIMER_MODE = s.rd O.TIMER_MODE from rfl, show s.edgeSeen.timerRuns = s.timerRuns from rfl,
    show ∀ i, s.edgeSeen.rdBit O.EDGE_SELECT i = s.rdBit O.EDGE_SELECT i from fun _ => rfl]
  rcases h with h | h | h <;> simp [h]

theorem State.edgeSeen_def (s : State) : ({ s with timer := { s.timer with edgeAt := some s.clk.now } } : State) = s.edgeSeen := rfl

/-- The dead time has ended at an edge with count `k` and code `f`. -/
def State.rearmedAt (s : State) (k f : Nat) : Prop := ∀ r, s.timer.rearm = some r → r ≤ 4096 * k - f

/-- ORDER and ZERO of a pair, by the tables of the generation in force (R353). -/
def State.orderOf (s : State) (sk sf pk pf : Nat) : Nat :=
  pairOrder (edgeTime ((s.timerTables s.timer.gen).getD ([], [])).1 (Config.pathDelay 0) sk sf)
    (edgeTime ((s.timerTables s.timer.gen).getD ([], [])).2 (Config.pathDelay 1) pk pf)

/-- When the timer re-arms after a pair: 50 ns after its STOP edge, or after its START edge where ORDER is set (R349). -/
def State.closingRearm (s : State) (sk sf pk pf : Nat) : Nat :=
  (if s.orderOf sk sf pk pf = 1 then 4096 * sk - sf else 4096 * pk - pf) + 20 * 4096

/-- The timebase has been disciplined from the edge that opened `o` until now (R354). -/
def State.refAcross (s : State) (o : OpenPair) : Bool := o.ref && o.changes == s.fan.changes && !s.unref

/-- What an edge that is taken outside the dead time does, by the open pair. -/
def State.pairEdge (start : Bool) (k f : Nat) (s : State) : State :=
  match s.timer.pair with
  | none =>
    { s with timer := { s.timer with
        rearm := none, pair := some { isStart := start, k := k, f := f, ref := !s.unref, changes := s.fan.changes } } }
  | some o =>
    if o.isStart = start then State.sat O.EXTRA_EDGES { s with timer := { s.timer with rearm := none } }
    else if start = true then
      State.closePair k f o.k o.f (s.orderOf k f o.k o.f + at_ (s.refAcross o) 1)
        { s with timer := { s.timer with rearm := some (s.closingRearm k f o.k o.f) } }
    else
      State.closePair o.k o.f k f (s.orderOf o.k o.f k f + at_ (s.refAcross o) 1)
        { s with timer := { s.timer with rearm := some (s.closingRearm o.k o.f k f) } }

section
variable {s : State} {start falling : Bool} {k f : Nat} (h : s.TakesEdge start falling k f)
include h

theorem State.TakesEdge.limitAt : s.edgeSeen.limitAt (k - 1) = s.edgeSeen :=
  State.limitAt_of_within fun o ho => (h.limit o ho).imp_right .inr

theorem State.TakesEdge.guard :
    (s.edgeSeen.rd O.TIMER_MODE == 0 || !s.edgeSeen.timerRuns ||
      s.edgeSeen.rdBit O.EDGE_SELECT (if start = true then 0 else 1) != falling) = false := by
  rw [show s.edgeSeen.rd O.TIMER_MODE = s.rd O.TIMER_MODE from rfl, show s.edgeSeen.timerRuns = s.timerRuns from rfl,
    show ∀ i, s.edgeSeen.rdBit O.EDGE_SELECT i = s.rdBit O.EDGE_SELECT i from fun _ => rfl]
  simp [h.mode, h.runs, h.chosen]

theorem State.timerEdge_dead {r : Nat} (hr : s.timer.rearm = some r) (hd : 4096 * k - f < r) :
    s.timerEdge start falling k f = s.edgeSeen.sat O.DEAD_EDGES := by
  have hr' : s.edgeSeen.timer.rearm = some r := hr
  unfold State.timerEdge
  simp only [State.edgeSeen_def, Nat.mod_eq_of_lt h.fine, h.limitAt, h.guard, hr', decide_eq_true hd, Bool.false_eq_true, if_false,
    if_true]

theorem State.timerEdge_armed (hd : s.rearmedAt k f) : s.timerEdge start falling k f = s.edgeSeen.pairEdge start k f := by
  unfold State.timerEdge
  simp only [State.edgeSeen_def, Nat.mod_eq_of_lt h.fine, h.limitAt, h.guard, Bool.false_eq_true, if_false]
  refine (if_neg ?_).trans ?_
  · split
    · next r hr => simpa using hd r hr
    · exact Bool.false_ne_true
  · unfold State.pairEdge
    cases hp : s.edgeSeen.timer.pair with
    | none => rfl
    | some o =>
      simp only [beq_iff_eq, hp]
      split
      · rfl
      · cases start <;> rfl
end

theorem State.orderOf_of_tables {s : State} {a b : List Nat} (ht : s.timerTables s.timer.gen = some (a, b)) (sk sf pk pf : Nat) :
    s.orderOf sk sf pk pf = pairOrder (edgeTime a (Config.pathDelay 0) sk sf) (edgeTime b (Config.pathDelay 1) pk pf) := by
  simp [State.orderOf, ht]

section
variable {s : State} {start : Bool} {k f : Nat}

theorem State.pairEdge_opens (hp : s.timer.pair = none) :
    s.pairEdge start k f = { s with timer := { s.timer with
      rearm := none, pair := some { isStart := start, k := k, f := f, ref := !s.unref, changes := s.fan.changes } } } := by
  simp only [State.pairEdge, hp]

variable {o : OpenPair} (hp : s.timer.pair = some o)
include hp

theorem State.pairEdge_extra (hs : o.isStart = start) :
    s.pairEdge start k f = State.sat O.EXTRA_EDGES { s with timer := { s.timer with rearm := none } } := by
  simp only [State.pairEdge, hp, hs, if_true]

/-- An edge on the other input closes the pair, START's stamp before STOP's whichever came first. -/
theorem State.pairEdge_closes (hs : o.isStart ≠ start) {sk sf pk pf : Nat}
    (he : (sk, sf, pk, pf) = if start = true then (k, f, o.k, o.f) else (o.k, o.f, k, f)) :
    s.pairEdge start k f =
      State.closePair sk sf pk pf (s.orderOf sk sf pk pf + at_ (s.refAcross o) 1)
        { s with timer := { s.timer with rearm := some (s.closingRearm sk sf pk pf) } } := by
  simp only [State.pairEdge, hp, hs, if_false]
  cases start <;> cases he <;> rfl

end

section
variable {s : State} {start falling : Bool} {k f : Nat} (h : s.TakesEdge start falling k f)
include h

theorem timerEdge_dead {r : Nat} (hr : s.timer.rearm = some r) (hd : 4096 * k - f < r) :
    ∃ t, exec (.timerEdge start falling k f) s = .next t ∧ t.timer = { s.timer with edgeAt := some s.clk.now } ∧
      t.rd O.DEAD_EDGES = min (s.rd O.DEAD_EDGES + 1) 4294967295 ∧ OdBut [O.DEAD_EDGES] s t ∧ KeepsBut [.od, .timer] s t := by
  obtain ⟨t, ht, htimer, hsat, hod, hkeep⟩ := State.done_of_timer_sat (by decide) (State.timerEdge_dead h hr hd)
  exact ⟨t, ht, htimer, hsat, hod, hkeep.mono (by decide)⟩

variable (hd : s.rearmedAt k f)
include hd

theorem timerEdge_opens (hp : s.timer.pair = none) :
    ∃ t, exec (.timerEdge start falling k f) s = .next t ∧
      t.timer = { s.timer with edgeAt := some s.clk.now, rearm := none,
                               pair := some { isStart := start, k := k, f := f, ref := !s.unref, changes := s.fan.changes } } ∧
      KeepsBut [.timer] s t :=
  State.done_of_timer (s := s) ((State.timerEdge_armed h hd).trans (State.pairEdge_opens (s := s.edgeSeen) hp))

theorem timerEdge_extra {o : OpenPair} (hp : s.timer.pair = some o) (hs : o.isStart = start) :
    ∃ t, exec (.timerEdge start falling k f) s = .next t ∧ t.timer = { s.timer with edgeAt := some s.clk.now, rearm := none } ∧
      t.rd O.EXTRA_EDGES = min (s.rd O.EXTRA_EDGES + 1) 4294967295 ∧ OdBut [O.EXTRA_EDGES] s t ∧ KeepsBut [.timer, .od] s t :=
  State.done_of_timer_sat (by decide) ((State.timerEdge_armed h hd).trans (State.pairEdge_extra (s := s.edgeSeen) hp hs))

/-- The record of a closed pair and what it leaves. -/
theorem timerEdge_closes {o : OpenPair} (hp : s.timer.pair = some o) (hs : o.isStart ≠ start) {sk sf pk pf : Nat}
    (he : (sk, sf, pk, pf) = if start = true then (k, f, o.k, o.f) else (o.k, o.f, k, f)) :
    ∃ t, exec (.timerEdge start falling k f) s = .next t ∧
      PairClosed s { s.timer with edgeAt := some s.clk.now, rearm := some (s.closingRearm sk sf pk pf) }
        (s.timer.stamp s.dir.epochs sk sf pk pf (s.orderOf sk sf pk pf + at_ (s.refAcross o) 1)) t :=
  State.done_of_close (s := s) ((State.timerEdge_armed h hd).trans (State.pairEdge_closes (s := s.edgeSeen) hp hs he))

end

/-! ### TIMER_MODE written (R361) -/

@[simp] theorem State.dropXfer_timerDead (p : Path) (s : State) : (s.dropXfer p).timerDead = s.timerDead := by
  simp [State.timerDead, State.loop]

@[simp] theorem State.dropXfer_timerTables (p : Path) (s : State) (g : Nat) : (s.dropXfer p).timerTables g = s.timerTables g := by
  simp [State.timerTables]

/-- The open pair is discarded and counted, where there is one. -/
theorem State.cutPair_eq (s : State) :
    ∃ D T, s.cutPair = { s with od := D, timer := T } ∧ T.besideGen = { s.timer with pair := none }.besideGen ∧
      ∀ k, tget odDefault D k =
        if k = O.PAIRS_CUT ∧ s.timer.pair ≠ none then min (s.rd O.PAIRS_CUT + 1) 4294967295 else s.rd k := by
  unfold State.cutPair
  cases hp : s.timer.pair with
  | none => exact ⟨s.od, s.timer, rfl, by rw [← hp], fun k => by simp [State.rd]⟩
  | some o =>
    obtain ⟨T, hT, hgen⟩ := State.adoptGen_timer (State.sat O.PAIRS_CUT { s with timer := { s.timer with pair := none } })
    refine ⟨(s.sat O.PAIRS_CUT).od, T, hT, hgen, fun k => ?_⟩
    refine (State.rd_wr O.PAIRS_CUT k _ s).trans ?_
    simp

theorem writeTimerMode_dead {s : State} {v : Int} (hv : v ≠ 0) (hd : s.timerDead = true) :
    writeTimerMode v s = notNow Why.TIMER_OUT_OF_SERVICE := by
  simp [writeTimerMode, hv, hd]

theorem timerModeWrite_taken {s : State} {p : Path} {v : Int} (ha : Admitted s p O.TIMER_MODE v) (h : v = 0 ∨ s.timerDead = false) :
    ∃ t, exec (.timerModeWrite p v) s = .next t ∧ t.rd O.TIMER_MODE = v ∧
      t.timer = { s.timer with pair := none, rearm := none, gen := t.timer.gen, gens := t.timer.gens, nextGen := t.timer.nextGen } ∧
      t.rd O.PAIRS_CUT = (if s.timer.pair = none then s.rd O.PAIRS_CUT else min (s.rd O.PAIRS_CUT + 1) 4294967295) ∧
      Written p O.TIMER_MODE s t ∧ OdBut [O.TIMER_MODE, O.PAIRS_CUT] s t ∧ KeepsBut [.net, .ctr, .free, .od, .timer] s t := by
  obtain ⟨D, T, hcut, hgen, hD⟩ := State.cutPair_eq (s.dropXfer p)
  have e : writeTimerMode v (s.dropXfer p) =
      .ok { s.dropXfer p with od := tset O.TIMER_MODE v D, timer := { T with rearm := none } } := by
    unfold writeTimerMode
    rw [if_neg (by rcases h with h | h <;> simp [h]), hcut]
    rfl
  obtain ⟨t, ht, htimer, hrd, hw, hkeep⟩ := State.write_of_timer ha e
  have hother : ∀ k, k ≠ O.TIMER_MODE → k ≠ O.EMCY_LOST → t.rd k =
      if k = O.PAIRS_CUT ∧ s.timer.pair ≠ none then min (s.rd O.PAIRS_CUT + 1) 4294967295 else s.rd k := by
    intro k hk hk'
    have hD' := hD k
    simp only [State.dropXfer_rd, State.dropXfer_timer] at hD'
    rw [hrd k hk', ← hD']
    simp [hk]
  have hT := TimerSt.of_besideGen hgen
  refine ⟨t, ht, ?_, ?_, ?_, hw, fun k hk hk' => ?_, hkeep⟩
  · rw [hrd _ (by decide)]
    simp
  · rw [htimer, hT]
    simp
  · rw [hother _ (by decide) (by decide)]
    by_cases hp : s.timer.pair = none <;> simp [hp]
  · simp only [List.mem_cons, List.not_mem_nil, or_false, not_or] at hk
    rw [hother k hk.1 hk', if_neg fun hc => hk.2 hc.1]

/-! ### STAMP_NEXT read (R356) -/

theorem readStamp_oldest {s : State} {x : Stamp} {rest : List Stamp} (hq : s.timer.queue = x :: rest) :
    readStamp s = .ok ({ s with timer := { s.timer with queue := rest } }, ofLe x.bytes) := by
  simp only [readStamp, hq]

theorem stampNext_oldest {s : State} {p : Path} (ha : s.admits p = true) (hw : s.waits (O.STAMP_NEXT / 256 % 65536) = false)
    {x : Stamp} {rest : List Stamp} (hq : s.timer.queue = x :: rest) :
    ∃ t, exec (.stampNext p) s = .next t ∧ t.timer = { s.timer with queue := rest } ∧ Answered p O.STAMP_NEXT (ofLe x.bytes) s t ∧
      CtrBut [460, 461] s t ∧ KeepsBut [.net, .ctr, .free, .timer] s t := by
  have e := readStamp_oldest (s := s.dropXfer p) ((congrArg TimerSt.queue (State.dropXfer_timer p s)).trans hq)
  obtain ⟨t, ht, hanswer, hctr, hpend, hsame⟩ := State.read_done (k := O.STAMP_NEXT) ha hw e rfl
  refine ⟨t, ht, ?_, hanswer, fun n hn h1 h2 => ?_, KeepsBut.of_served (p := p) (by decide) hpend (fun y hy => ?_) hsame⟩
  · rw [← State.dropXfer_timer p s]
    exact hsame .timer (by decide)
  · rw [hctr n hn h1 h2]
    exact State.place_of_ctr (State.dropXfer_ctr p s) n
  · cases y
    case timer => exact absurd (by decide) hy
    all_goals simp [Part.same, State.rd, State.place]

theorem readStamp_empty {s : State} (hq : s.timer.queue = []) :
    readStamp s = .error { abort := Why.noData, reason := Why.TIMER_EMPTY } := by
  simp [readStamp, hq]

/-! ### TT_ROW written (R370) -/

/-- The generation that a path's TT_GEN selects, 0 being the one in force. -/
def State.ttGen (s : State) (p : Path) : Nat :=
  if s.rdN (win p O.TT_GEN) = 0 then s.timer.gen else s.rdN (win p O.TT_GEN)

theorem win_ttRow_ne_emcyLost (p : Path) : win p O.TT_ROW ≠ O.EMCY_LOST := by cases p <;> decide

section
variable {s : State} {p : Path} {v : Int}

theorem writeTtRow_gone (h : s.timerTables (s.ttGen p) = none) :
    writeTtRow p v s = .error { abort := Why.noData, reason := Why.TIMER_CONST_GONE } := by
  unfold State.ttGen at h
  simp [writeTtRow, h]

theorem writeTtRow_held {a b : List Nat} (h : s.timerTables (s.ttGen p) = some (a, b)) :
    writeTtRow p v s = .ok { s.wr (win p O.TT_ROW) v with timer := { s.timer with
      win := tset (side p) (((if s.rd (win p O.TT_CONVERTER) = 0 then a else b)[v.toNat]?).getD 0) s.timer.win } } := by
  unfold State.ttGen at h
  simp [writeTtRow, h]

theorem State.dropXfer_ttGen : (s.dropXfer p).ttGen p = s.ttGen p := by simp [State.ttGen]

theorem ttRowLatch_held (ha : Admitted s p O.TT_ROW v) {a b : List Nat} (h : s.timerTables (s.ttGen p) = some (a, b)) :
    ∃ t, exec (.ttRowLatch p v) s = .next t ∧ t.rd (win p O.TT_ROW) = v ∧
      t.timer = { s.timer with
        win := tset (side p) (((if s.rd (win p O.TT_CONVERTER) = 0 then a else b)[v.toNat]?).getD 0) s.timer.win } ∧
      OdBut [win p O.TT_ROW] s t ∧ Written p O.TT_ROW s t ∧ KeepsBut [.net, .ctr, .free, .od, .timer] s t := by
  have e := writeTtRow_held (s := s.dropXfer p) (p := p) (v := v) (a := a) (b := b) (by simpa [State.dropXfer_ttGen] using h)
  obtain ⟨t, ht, htimer, hrd, hw, hkeep⟩ := State.write_of_timer ha e
  refine ⟨t, ht, ?_, ?_, fun k hk hk' => ?_, hw, hkeep⟩
  · exact (hrd _ (win_ttRow_ne_emcyLost p)).trans (State.rd_wr_same _ _ _)
  · rw [htimer]
    simp
  · rw [hrd k hk', ← State.dropXfer_rd p s k]
    exact State.rd_wr_other (by simpa using hk) v (s.dropXfer p)

theorem ttRowLatch_gone (ha : Admitted s p O.TT_ROW v) (h : s.timerTables (s.ttGen p) = none) :
    ∃ t, exec (.ttRowLatch p v) s = .next t ∧ RefusedWith (accOf p O.TT_ROW v) 0 0x08000024 Why.TIMER_CONST_GONE 255 s t :=
  State.write_refusedBy ha (writeTtRow_gone (by simpa [State.dropXfer_ttGen] using h))

end

/-! ### The obligation -/

/-- Settles O44: an edge by the dead time and the open pair, the pair's limit and the dead time by the count, and the three objects by what
their reads and writes do to the timer. -/
theorem eventTimer : Obligations.EventTimer := by
  intro s
  refine ⟨fun start falling k f hf hm hr he hl => ⟨fun r => timerEdge_dead ⟨hf, hm, hr, he, hl⟩, fun hd =>
      ⟨timerEdge_opens ⟨hf, hm, hr, he, hl⟩ hd, fun o => timerEdge_extra ⟨hf, hm, hr, he, hl⟩ hd, fun o hp hs => ?_⟩⟩,
    fun start falling k f hp h => State.done_of_timer (State.timerEdge_notTaken f hp h), fun o => pairLimitExpire_over,
    fun h => State.done_of_idle (State.limitAt_of_within fun o ho => ?_), fun r h hd => State.done_of_timer (State.timerRearm_due h hd),
    fun h => State.done_of_idle (State.timerRearm_later h),
    fun p v ha => ⟨fun hv hd => State.write_refusedWith ha (writeTimerMode_dead hv (by simpa using hd)), timerModeWrite_taken ha⟩,
    fun p ha hw => ⟨fun x rest => stampNext_oldest ha hw, fun hq => State.read_refusedWith ha hw (readStamp_empty (by simpa using hq))⟩,
    fun p v ha => ⟨fun a b => ttRowLatch_held ha, ttRowLatch_gone ha⟩⟩
  · obtain ⟨⟨sk, sf, pk, pf⟩, hedges⟩ : ∃ q, q = if start = true then (k, f, o.k, o.f) else (o.k, o.f, k, f) := ⟨_, rfl⟩
    obtain ⟨t, ht, hc⟩ := timerEdge_closes ⟨hf, hm, hr, he, hl⟩ hd hp hs hedges
    refine ⟨t, _, ht, hc.pair, hc.seq, ⟨rfl, rfl, rfl⟩, ?_, ?_, hc.queued, hc.lost, hc.count, hc.ctr, hc.keeps⟩
    · cases start <;> cases hedges <;> exact ⟨rfl, rfl, rfl, rfl⟩
    · rintro a b ord htab rfl
      exact ⟨by rw [← State.orderOf_of_tables htab]; rfl, by rw [hc.rearm, ← State.orderOf_of_tables htab]; rfl⟩
  · rcases h with h | h | h | ⟨q, hq, h⟩
    · simp [h] at ho
    · exact .inl h
    · exact .inr (.inl h)
    · exact .inr (.inr (by simp_all))

end Sys2Proof.Machine
end

section
/-!
PROOF. Image data of an update session (R454, R455): what staging bytes changes, how UPD_DATA is served, what becomes of an UPDATE frame,
and how a session ends; `Obligations.ImageData` from that.
-/

namespace Sys2Proof.Machine

/-! ### Bytes in the staging area -/

@[simp] theorem leBytes_length (n v : Nat) : (leBytes n v).length = n := by
  induction n generalizing v with
  | zero => rfl
  | succ n ih => simp [leBytes, ih]

theorem leBytes_getElem? {n i : Nat} (h : i < n) (v : Nat) : (leBytes n v)[i]? = some (v / 256 ^ i % 256) := by
  induction n generalizing i v with
  | zero => exact absurd h (Nat.not_lt_zero i)
  | succ n ih =>
    cases i with
    | zero => simp [leBytes]
    | succ i => simp [leBytes, ih (Nat.lt_of_succ_lt_succ h), Nat.div_div_eq_div_mul, Nat.pow_succ']

/-- The table `t` with the bytes `bs` written from `off` on. -/
def putBytes (off : Nat) (bs : List Nat) (t : Tbl Nat) : Tbl Nat :=
  bs.zipIdx.foldl (fun t e => tset (off + e.2) (e.1 % 256) t) t

theorem putBytes_cons (off b : Nat) (bs : List Nat) (t : Tbl Nat) :
    putBytes off (b :: bs) t = putBytes (off + 1) bs (tset off (b % 256) t) := by
  simp [putBytes, List.zipIdx_succ, List.foldl_map, Nat.add_assoc, Nat.add_comm 1]

theorem tget_putBytes (off : Nat) (bs : List Nat) (t : Tbl Nat) (i : Nat) :
    tget (fun _ => 0) (putBytes off bs t) i =
      if off ≤ i ∧ i < off + bs.length then (bs[i - off]?).getD 0 % 256 else tget (fun _ => 0) t i := by
  induction bs generalizing off t with
  | nil => rw [if_neg (by simp)]; rfl
  | cons b bs ih =>
    rw [putBytes_cons, ih, List.length_cons]
    rcases Nat.lt_trichotomy i off with hlt | rfl | hgt
    · rw [if_neg (by omega), if_neg (by omega), tget_tset_other _ (by omega)]
    · rw [if_neg (by omega), if_pos (by omega), tget_tset_same]
      simp
    · have hidx : i - off = i - (off + 1) + 1 := by omega
      have hrange : (off + 1 ≤ i ∧ i < off + 1 + bs.length) = (off ≤ i ∧ i < off + (bs.length + 1)) := propext (by omega)
      rw [tget_tset_other _ (by omega), hidx, List.getElem?_cons_succ]
      simp only [hrange]

theorem State.written_pond (region a : Nat) (s : State) : ∃ P, s.written region a = { s with pond := P } := by
  unfold State.written
  simp only []
  split <;> exact ⟨_, rfl⟩

theorem State.writtenAll_pond (region base : Nat) (lines : List Nat) (s : State) :
    ∃ P, lines.foldl (fun (s : State) l => s.written region (base + l)) s = { s with pond := P } := by
  induction lines generalizing s with
  | nil => exact ⟨s.pond, rfl⟩
  | cons l lines ih =>
    obtain ⟨P, hP⟩ := s.written_pond region (base + l)
    obtain ⟨Q, hQ⟩ := ih (s.written region (base + l))
    exact ⟨Q, by rw [List.foldl_cons, hQ, hP]⟩

/-- Staging writes the bytes, notes the time of the session's last data, and goes to the store as class 5 (place 207). -/
theorem State.stage_eq (off : Nat) (bs : List Nat) (s : State) :
    ∃ P n, s.stage off bs = { s with
      upd := { s.upd with staging := putBytes off bs s.upd.staging,
                          session := s.upd.session.map fun (x : Session) => { x with last := s.clk.now } },
      pond := P, ctr := tset 207 n s.ctr } := by
  unfold State.stage
  simp only []
  obtain ⟨P, hP⟩ := State.writtenAll_pond 2 stagingLine0 (bs.zipIdx.map (fun e => (off + e.2) / 64)).eraseDups
    { s with upd := { s.upd with staging := putBytes off bs s.upd.staging,
                                 session := s.upd.session.map fun (x : Session) => { x with last := s.clk.now } } }
  unfold putBytes at hP ⊢
  rw [hP]
  exact ⟨_, _, rfl⟩

/-- What staging leaves of a state whose session is `x`. -/
theorem State.stage_upd {s : State} {x : Session} (hx : s.upd.session = some x) (off : Nat) (bs : List Nat) :
    (s.stage off bs).upd =
      { s.upd with staging := putBytes off bs s.upd.staging, session := some { x with last := s.clk.now } } := by
  obtain ⟨P, n, h⟩ := s.stage_eq off bs
  rw [h, hx]
  rfl

@[simp] theorem State.stage_net (off : Nat) (bs : List Nat) (s : State) : (s.stage off bs).net = s.net := by
  obtain ⟨P, n, h⟩ := s.stage_eq off bs
  rw [h]

@[simp] theorem State.stage_tail (off : Nat) (bs : List Nat) (s : State) : (s.stage off bs).tail = s.tail := by
  obtain ⟨P, n, h⟩ := s.stage_eq off bs
  rw [h]

@[simp] theorem State.stage_od (off : Nat) (bs : List Nat) (s : State) : (s.stage off bs).od = s.od := by
  obtain ⟨P, n, h⟩ := s.stage_eq off bs
  rw [h]

theorem State.stage_place (off : Nat) (bs : List Nat) (s : State) {n : Nat} (hn : n ≠ 207) : (s.stage off bs).place n = s.place n := by
  obtain ⟨P, m, h⟩ := s.stage_eq off bs
  rw [h]
  exact tget_tset_other _ hn m s.ctr

theorem State.stage_same (off : Nat) (bs : List Nat) (s : State) {x : Part} (hx : x ∉ [Part.upd, .pond, .ctr]) :
    x.same s (s.stage off bs) := by
  obtain ⟨P, n, h⟩ := s.stage_eq off bs
  rw [h]
  cases x
  case upd | pond | ctr => exact absurd (by decide) hx
  all_goals simp [Part.same, State.rd]

theorem State.wr_same (k : Nat) (v : Int) (s : State) {x : Part} (hx : x ≠ .od) : x.same s (s.wr k v) := by
  cases x
  case od => exact absurd rfl hx
  all_goals simp [Part.same, State.place]

/-! ### A served write whose row is checked with its own length -/

section
variable {s : State} {a : Acc} {f : State → WRes} (hs : s.serves a.path a.idx)
include hs

theorem State.accessWrite_served :
    s.access a (fun s => s.serveWrite a 0 s.clk.now f) = (s.dropXfer a.path).serveWrite a 0 s.clk.now f := by
  rw [State.access_served hs, State.dropXfer_clk]

theorem State.dropXfer_awake : ((s.dropXfer a.path).dev == .sleep) = false := by simpa using hs.2.2

/-- What a served write that its chapter accepts leaves: the effect `u`, and what every access does beside it. -/
theorem State.accessWrite_done {u : State} (e : f (s.dropXfer a.path) = .ok u) (hu : u.net = (s.dropXfer a.path).net) :
    ∃ t m, s.done (s.access a fun s => s.serveWrite a 0 s.clk.now f) = .next t ∧
      t.net = answered { path := a.path, idx := a.idx, sub := a.sub } m s.net ∧
      (∀ n, n ∉ [460, 461] → n ≠ 465 → n ≠ 467 → t.place n = u.place n) ∧ t.pending = s.pending ∧
      ∀ x, x ∉ accessParts → x.same u t := by
  have hserve : s.access a (fun s => s.serveWrite a 0 s.clk.now f) = u.respond a s.clk.now 0 0 0 := by
    rw [State.accessWrite_served hs]
    simp only [State.serveWrite, State.dropXfer_awake hs, Bool.false_eq_true, if_false, e]
  obtain ⟨m, hm⟩ := u.respond_net a s.clk.now 0 0 0
  refine ⟨_, m, State.done_eq s _, ?_, fun n hn h1 h2 => ?_, rfl, fun x hx => ?_⟩
  · rw [State.after_net, hserve, hm, hu, State.dropXfer_net]
    cases a.path <;> rfl
  · simp only [List.mem_cons, List.not_mem_nil, or_false, not_or] at hn
    rw [State.after_place _ _ h1 h2, hserve, State.respond_place _ _ _ _ _ _ hn.1 hn.2]
  · rw [hserve]
    exact Part.same_trans (State.respond_same _ _ _ _ _ _ hx) (State.after_same _ _ x)

theorem State.accessWrite_refused {r : Rej} (e : f (s.dropXfer a.path) = .error r) :
    ∃ t, s.done (s.access a fun s => s.serveWrite a 0 s.clk.now f) = .next t ∧ RefusedWith a 0 r.abort r.reason r.plan s t := by
  rw [State.accessWrite_served hs]
  simp only [State.serveWrite, State.dropXfer_awake hs, Bool.false_eq_true, if_false, e]
  exact State.refused_done r 0

end

/-! ### UPD_DATA written (R454) -/

/-- The access that a write of `len` bytes to UPD_DATA is. -/
def updDataAcc (p : Path) (len : Nat) (v : Int) : Acc := { path := p, write := true, idx := 0x5800, sub := 6, len := len, v := v }

section
variable {s : State} {p : Path} {len : Nat} {v : Int}

theorem writeUpdData_foreign (h : ∀ x, s.upd.session = some x → x.source ≠ pathSource p ∧ pathSource p ∉ x.dups) :
    writeUpdData p len v s = notNow Why.UPDATE_NO_SESSION := by
  unfold writeUpdData
  cases hx : s.upd.session with
  | none => rfl
  | some x => simp [h x hx]

variable {x : Session} (hx : s.upd.session = some x)
include hx

theorem writeUpdData_dup (hsrc : x.source ≠ pathSource p) (hdup : pathSource p ∈ x.dups) : writeUpdData p len v s = .ok s := by
  simp [writeUpdData, hx, hsrc, hdup]

variable (hsrc : x.source = pathSource p)
include hsrc

theorem writeUpdData_passes (h : x.len < s.rdN (win p O.UPD_OFFSET) + len) : writeUpdData p len v s = bad Why.VALUE_RANGE := by
  simp [writeUpdData, hx, hsrc, h]

theorem writeUpdData_fits (h : s.rdN (win p O.UPD_OFFSET) + len ≤ x.len) :
    writeUpdData p len v s =
      .ok ((s.stage (s.rdN (win p O.UPD_OFFSET)) (leBytes len v.toNat)).wr (win p O.UPD_OFFSET)
        (s.rdN (win p O.UPD_OFFSET) + len : Nat)) := by
  simp [writeUpdData, hx, hsrc, Nat.not_lt.mpr h]

end

theorem win_updOffset_ne_emcyLost (p : Path) : win p O.UPD_OFFSET ≠ O.EMCY_LOST := by cases p <;> decide

section
variable {s : State} {p : Path} {len : Nat} {v : Int} (hs : s.serves p 0x5800) (hrow : ∃ r, writeCheck 0x5800 6 len v = .ok r)
include hs hrow

theorem updData_refused {r : Rej} (e : writeUpdData p len v (s.dropXfer p) = .error r) :
    ∃ t, exec (.updData p len v) s = .next t ∧ RefusedWith (updDataAcc p len v) 0 r.abort r.reason r.plan s t := by
  obtain ⟨row, hrow⟩ := hrow
  exact State.accessWrite_refused (a := updDataAcc p len v) hs (by simp only [updDataAcc, hrow]; exact e)

theorem updData_taken {u : State} (e : writeUpdData p len v (s.dropXfer p) = .ok u) (hu : u.net = (s.dropXfer p).net) :
    ∃ t m, exec (.updData p len v) s = .next t ∧ t.net = answered { path := p, idx := 0x5800, sub := 6 } m s.net ∧
      (∀ n, n ∉ [460, 461] → n ≠ 465 → n ≠ 467 → t.place n = u.place n) ∧ t.pending = s.pending ∧
      ∀ x, x ∉ accessParts → x.same u t := by
  obtain ⟨row, hrow⟩ := hrow
  exact State.accessWrite_done (a := updDataAcc p len v) hs (by simp only [updDataAcc, hrow]; exact e) hu

variable {x : Session} (hx : s.upd.session = some x)
include hx

theorem updData_dropped (hsrc : x.source ≠ pathSource p) (hdup : pathSource p ∈ x.dups) :
    ∃ t m, exec (.updData p len v) s = .next t ∧ t.net = answered { path := p, idx := 0x5800, sub := 6 } m s.net ∧
      CtrBut [460, 461] s t ∧ KeepsBut [.net, .ctr, .free] s t := by
  have e : writeUpdData p len v (s.dropXfer p) = .ok (s.dropXfer p) := writeUpdData_dup (by simpa using hx) hsrc hdup
  obtain ⟨t, m, ht, hnet, hctr, hpend, hsame⟩ := updData_taken hs hrow e rfl
  refine ⟨t, m, ht, hnet, fun n hn h1 h2 => ?_, KeepsBut.of_served (p := p) (by decide) hpend (fun y _ => y.same_refl _) hsame⟩
  rw [hctr n hn h1 h2]
  exact State.place_of_ctr (State.dropXfer_ctr p s) n

theorem updData_staged (hsrc : x.source = pathSource p) {off : Nat} (hoff : off = s.rdN (win p O.UPD_OFFSET))
    (hfit : off + len ≤ x.len) :
    ∃ t m, exec (.updData p len v) s = .next t ∧
      t.upd = { s.upd with staging := putBytes off (leBytes len v.toNat) s.upd.staging, session := some { x with last := s.clk.now } } ∧
      t.rd (win p O.UPD_OFFSET) = (off + len : Nat) ∧ OdBut [win p O.UPD_OFFSET] s t ∧
      t.net = answered { path := p, idx := 0x5800, sub := 6 } m s.net ∧
      CtrBut [207, 460, 461] s t ∧ KeepsBut [.net, .ctr, .free, .od, .upd, .pond] s t := by
  subst hoff
  have hx' : (s.dropXfer p).upd.session = some x := by simpa using hx
  have e := writeUpdData_fits (v := v) hx' hsrc (by simpa using hfit)
  rw [State.dropXfer_rdN] at e
  obtain ⟨t, m, ht, hnet, hctr, hpend, hsame⟩ := updData_taken hs hrow e (State.stage_net _ _ _)
  have hod : ∀ k, k ≠ O.EMCY_LOST → t.rd k = _ := hsame .od (by decide)
  refine ⟨t, m, ht, (hsame .upd (by decide)).trans ?_, (hod _ (win_updOffset_ne_emcyLost p)).trans (State.rd_wr_same _ _ _),
    fun k hk hk' => ?_, hnet, fun n hn h1 h2 => ?_, KeepsBut.of_served (p := p) (by decide) hpend (fun y hy => ?_) hsame⟩
  · rw [State.wr_upd, State.stage_upd hx', State.dropXfer_upd, State.dropXfer_clk]
  · rw [hod k hk', State.rd_wr_other (by simpa using hk), State.rd_of_od (State.stage_od _ _ _), State.dropXfer_rd]
  · simp only [List.mem_cons, List.not_mem_nil, or_false, not_or] at hn
    rw [hctr n (by simp [hn]) h1 h2, State.place_of_ctr (State.wr_ctr _ _ _), State.stage_place _ _ _ hn.1]
    exact State.place_of_ctr (State.dropXfer_ctr p s) n
  · simp only [List.mem_cons, List.not_mem_nil, or_false, not_or] at hy
    obtain ⟨-, hctr', -, hod', hupd', hpond'⟩ := hy
    exact Part.same_trans (State.stage_same _ (leBytes len v.toNat) _ (by simp [hctr', hupd', hpond'])) (State.wr_same _ _ _ hod')

end

/-! ### UPDATE frames (R454) -/

/-- What the Tailrace's part holds once the frame at the front of the UPDATE queue is gone and its credit has returned. -/
structure TailSt.Popped (T T' : TailSt) (g : Nat) (f : Frame) (rest : List (Nat × Frame)) : Prop where
  queue : T'.updQueue = rest
  credit : g < 4 → f.stream = 1 → T' = { T with updQueue := rest, grant1 := (T.grant1 + ceilDiv f.len 64) % 65536 }

theorem State.popUpd_front {s : State} {g : Nat} {f : Frame} {rest : List (Nat × Frame)} {mine : Nat → Nat → Bool}
    (hq : s.tail.updQueue = (g, f) :: rest) (hmine : mine g (fieldOf f.data 0 4) = true) :
    ∃ T, s.popUpd mine = some (g, f, { s with tail := T }) ∧ s.tail.Popped T g f rest := by
  simp only [State.popUpd, hq, hmine, if_true, State.returnCredit]
  split
  · next hg => exact ⟨_, rfl, rfl, fun h => absurd h (Nat.not_lt.mpr hg)⟩
  · split
    · next h0 => exact ⟨_, rfl, rfl, fun _ h1 => by simp [h1] at h0⟩
    · refine ⟨_, rfl, rfl, fun hg h1 => ?_⟩
      simp [Frame.cost, h1]

theorem State.updateFrame_idle {s : State} (h : s.tail.updQueue = [] ∨ (s.storeServes = false ∧ s.gov.boot ≠ 3)) :
    s.updateFrame = s := by
  unfold State.updateFrame
  rcases h with hq | ⟨hserve, hboot⟩
  · simp [State.popUpd, hq]
  · simp [hserve, hboot]

/-- Who sends UPDATE frames on a link: the host's are of the Tailrace, the others of their side (R452). -/
def updSource (g : Nat) : Nat := if g < 4 then 2 else g - 1

/-- The frame at the front of the UPDATE queue is image data, and the store takes it. -/
structure State.TakesImage (s : State) (g : Nat) (f : Frame) (rest : List (Nat × Frame)) : Prop where
  serves : s.storeServes = true
  queue : s.tail.updQueue = (g, f) :: rest
  data : g < 4 ∨ (fieldOf f.data 0 4 ≠ offerAt ∧ fieldOf f.data 0 4 ≠ answerAt ∧ fieldOf f.data 0 4 ≠ endAt)

/-- Image data at `off` from source `src` belong to the session and end within UPD_LENGTH. -/
def Session.accepts (x : Session) (src off n : Nat) : Prop := x.source = src ∧ off + n ≤ x.len ∧ off < offerAt

section
variable {s : State} {g : Nat} {f : Frame} {rest : List (Nat × Frame)} (h : s.TakesImage g f rest)
include h

theorem State.TakesImage.popped :
    ∃ T, s.popUpd (fun g off => g < 4 || (off != offerAt && off != answerAt && off != endAt)) = some (g, f, { s with tail := T }) ∧
      s.tail.Popped T g f rest :=
  State.popUpd_front h.queue (by simpa [and_assoc] using h.data)

theorem State.updateFrame_staged {x : Session} (hx : s.upd.session = some x)
    (hfit : x.accepts (updSource g) (fieldOf f.data 0 4) f.image.length) :
    ∃ T, s.updateFrame = State.stage (fieldOf f.data 0 4) f.image { s with tail := T } ∧ s.tail.Popped T g f rest := by
  obtain ⟨T, hpop, hT⟩ := h.popped
  obtain ⟨hsrc, hlen, hoff⟩ := hfit
  refine ⟨T, ?_, hT⟩
  unfold updSource at hsrc
  simp [State.updateFrame, h.serves, hpop, hx, hsrc, hlen, hoff]

theorem State.updateFrame_discarded
    (hmiss : ∀ x, s.upd.session = some x → ¬ x.accepts (updSource g) (fieldOf f.data 0 4) f.image.length) :
    ∃ T, s.updateFrame = (if g < 4 then State.sat O.UPD_DISCARDED { s with tail := T } else { s with tail := T }) ∧
      s.tail.Popped T g f rest := by
  obtain ⟨T, hpop, hT⟩ := h.popped
  refine ⟨T, ?_, hT⟩
  simp only [State.updateFrame, h.serves, hpop, Bool.not_true, Bool.false_and, Bool.false_eq_true, if_false]
  refine if_neg ?_
  cases hx : s.upd.session with
  | none => simp
  | some x => simpa [Session.accepts, updSource, and_assoc] using hmiss x hx

theorem updateFrame_staged {x : Session} (hx : s.upd.session = some x)
    (hfit : x.accepts (updSource g) (fieldOf f.data 0 4) f.image.length) :
    ∃ t, exec .updateFrame s = .next t ∧ s.tail.Popped t.tail g f rest ∧
      t.upd = { s.upd with staging := putBytes (fieldOf f.data 0 4) f.image s.upd.staging, session := some { x with last := s.clk.now } } ∧
      CtrBut [207] s t ∧ KeepsBut [.tail, .upd, .pond, .ctr] s t := by
  obtain ⟨T, e, hT⟩ := State.updateFrame_staged h hx hfit
  refine ⟨_, State.done_eq s s.updateFrame, ?_, ?_, fun n hn h1 h2 => ?_, KeepsBut.after fun y hy => ?_⟩
  · rw [State.after_tail, e, State.stage_tail]
    exact hT
  · rw [State.after_upd, e]
    exact State.stage_upd (s := { s with tail := T }) hx _ _
  · rw [State.after_place _ _ h1 h2, e, State.stage_place _ _ _ (by simpa using hn)]
    rfl
  · rw [e]
    refine Part.same_trans (t := { s with tail := T }) ?_ (State.stage_same _ _ _ fun hm => hy (List.mem_cons_of_mem _ hm))
    cases y
    case tail => exact absurd (by decide) hy
    all_goals simp [Part.same, State.rd, State.place]

theorem updateFrame_discarded
    (hmiss : ∀ x, s.upd.session = some x → ¬ x.accepts (updSource g) (fieldOf f.data 0 4) f.image.length) :
    ∃ t, exec .updateFrame s = .next t ∧ s.tail.Popped t.tail g f rest ∧
      t.rd O.UPD_DISCARDED = (if g < 4 then min (s.rd O.UPD_DISCARDED + 1) 4294967295 else s.rd O.UPD_DISCARDED) ∧
      OdBut [O.UPD_DISCARDED] s t ∧ KeepsBut [.tail, .od] s t := by
  obtain ⟨T, e, hT⟩ := State.updateFrame_discarded h hmiss
  obtain ⟨D, hu, hD⟩ : ∃ D, s.updateFrame = { s with tail := T, od := D } ∧ D = if g < 4 then (s.sat O.UPD_DISCARDED).od else s.od := by
    rw [e]
    split
    · exact ⟨_, rfl, rfl⟩
    · exact ⟨_, rfl, rfl⟩
  have hrd : ∀ k, k ≠ O.EMCY_LOST → (s.after s.updateFrame).rd k = tget odDefault D k := fun k hk => by
    rw [State.after_rd _ _ hk, hu]
    rfl
  refine ⟨_, State.done_eq s s.updateFrame, ?_, ?_, fun k hk hk' => ?_, KeepsBut.after fun y hy => ?_⟩
  · rw [State.after_tail, hu]
    exact hT
  · rw [hrd _ (by decide), hD]
    split
    · exact State.rd_wr_same _ _ s
    · rfl
  · rw [hrd k hk', hD]
    split
    · exact State.rd_wr_other (by simpa using hk) _ s
    · rfl
  · rw [hu]
    cases y
    case tail | od => exact absurd (by decide) hy
    all_goals simp [Part.same, State.place]

end

/-! ### Sessions that end (R454, R455) -/

theorem State.setUpd_upd (st : Nat) (s : State) : (s.setUpd st).upd = { s.upd with state := st } := by
  unfold State.setUpd
  split
  · next h => rw [← eq_of_beq h]
  · exact State.traceEv_upd _ _ _ _ _

theorem State.setUpd_same (st : Nat) (s : State) {x : Part} (hx : x ≠ .upd) : x.same s (s.setUpd st) := by
  unfold State.setUpd
  split
  · exact x.same_refl s
  · refine Part.same_trans ?_ (State.traceAs_same _ _ _ _ _ _ _ x)
    cases x
    case upd => exact absurd rfl hx
    all_goals simp [Part.same, State.rd, State.place]

theorem State.failSession_upd (s : State) :
    s.failSession.upd = { s.upd with session := none, staging := [], staged := none, state := 4 } :=
  State.setUpd_upd 4 _

theorem State.failSession_same (s : State) {x : Part} (hx : x ≠ .upd) : x.same s s.failSession := by
  refine Part.same_trans ?_ (State.setUpd_same 4 _ hx)
  cases x
  case upd => exact absurd rfl hx
  all_goals simp [Part.same, State.rd, State.place]

theorem sessionInactivity_over {s : State} {x : Session} (hx : s.upd.session = some x) (hdue : x.due = none)
    (hlast : x.last + sec 60 ≤ s.clk.now) :
    ∃ t, exec .sessionInactivity s = .next t ∧
      t.upd = { s.upd with session := none, staging := [], staged := none, state := 4 } ∧ KeepsBut [.upd] s t := by
  have e : s.inactivity = s.failSession := by simp [State.inactivity, hx, hdue, State.due, hlast]
  refine ⟨_, State.done_eq s s.inactivity, ?_, KeepsBut.after fun y hy => ?_⟩
  · rw [State.after_upd, e, State.failSession_upd]
  · rw [e]
    exact s.failSession_same (by simpa using hy)

theorem State.inactivity_open {s : State} (h : ∀ x, s.upd.session = some x → x.due ≠ none ∨ s.clk.now < x.last + sec 60) :
    s.inactivity = s := by
  unfold State.inactivity
  cases hx : s.upd.session with
  | none => rfl
  | some x =>
    refine if_neg fun hc => ?_
    simp only [Bool.and_eq_true, Option.isNone_iff_eq_none, State.due, decide_eq_true_eq] at hc
    obtain ⟨hdue, hlast⟩ := hc
    exact (h x hx).elim (fun hn => hn hdue) (Nat.not_lt.mpr hlast)

theorem writeUpdAbort_foreign {s : State} {p : Path} (h : ∀ x, s.upd.session = some x → x.source ≠ pathSource p) :
    writeUpdAbort p s = notNow Why.UPDATE_NO_SESSION := by
  unfold writeUpdAbort
  cases hx : s.upd.session with
  | none => rfl
  | some x => simp [h x hx]

section
variable {s : State} {p : Path} {x : Session} (hx : s.upd.session = some x) (hsrc : x.source = pathSource p)
include hx hsrc

theorem writeUpdAbort_writing (hdue : x.due ≠ none) : writeUpdAbort p s = notNow Why.UPDATE_BUSY := by
  simp [writeUpdAbort, hx, hsrc, Option.isSome_iff_ne_none, hdue]

theorem writeUpdAbort_receiving (hdue : x.due = none) : writeUpdAbort p s = .ok s.failSession := by
  simp [writeUpdAbort, hx, hsrc, hdue]

theorem updAbort_receiving {v : Int} (ha : Admitted s p O.UPD_ABORT v) (hdue : x.due = none) :
    ∃ t, exec (.updAbort p v) s = .next t ∧
      t.upd = { s.upd with session := none, staging := [], staged := none, state := 4 } ∧ Written p O.UPD_ABORT s t ∧
      KeepsBut [.net, .ctr, .free, .upd] s t := by
  have e : writeUpdAbort p (s.dropXfer p) = .ok (s.dropXfer p).failSession :=
    writeUpdAbort_receiving (by simpa using hx) hsrc hdue
  obtain ⟨t, ht, hnet, hctr, hpend, hsame⟩ := State.write_done ha e
  have hfail : ∀ y, y ≠ Part.upd → y.same (s.dropXfer p) (s.dropXfer p).failSession := fun y => State.failSession_same _
  refine ⟨t, ht, (hsame .upd (by decide)).trans ?_, ⟨hnet (hfail .net (by decide)), fun n hn h1 h2 => ?_⟩,
    KeepsBut.of_served (p := p) (by decide) hpend (fun y hy => hfail y fun hm => hy (by simp [hm])) hsame⟩
  · rw [State.failSession_upd, State.dropXfer_upd]
  · rw [hctr n hn h1 h2, hfail .ctr (by decide) n h1 h2]
    exact State.place_of_ctr (State.dropXfer_ctr p s) n

end

/-! ### The obligation -/

/-- Settles O58: UPD_DATA and UPDATE frames by whether the open session takes them, and the two ends of a session by its source and state. -/
theorem imageData : Obligations.ImageData := by
  intro s
  refine ⟨fun p len v a hs hrow ha => ⟨fun x hx hsrc => ⟨fun off hoff hfit => ?_, fun hpass => ?_⟩, fun hforeign => ?_,
      fun x hx => updData_dropped hs hrow hx⟩,
    fun h => State.done_of_idle (State.updateFrame_idle h),
    fun g f rest src off hserve hq hoff hsrc hdata => ?_,
    fun x => sessionInactivity_over, fun h => State.done_of_idle (State.inactivity_open h),
    fun p v ha => ⟨fun x hx hsrc => updAbort_receiving hx hsrc ha,
      fun h => State.write_refusedWith ha (writeUpdAbort_foreign (by simpa using h)),
      fun x hx hsrc hdue => State.write_refusedWith ha (writeUpdAbort_writing (by simpa using hx) hsrc hdue)⟩⟩
  · obtain ⟨t, m, ht, hupd, hrest⟩ := updData_staged hs hrow hx hsrc hoff hfit
    refine ⟨t, m, ht, fun i => ?_, by rw [hupd], hrest⟩
    rw [hupd]
    refine (tget_putBytes off (leBytes len v.toNat) s.upd.staging i).trans ?_
    rw [leBytes_length]
    split
    · rw [leBytes_getElem? (by omega), Option.getD_some, Nat.mod_mod]
    · rfl
  · subst ha
    exact updData_refused hs hrow (writeUpdData_passes (by simpa using hx) hsrc (by simpa using hpass))
  · subst ha
    exact updData_refused hs hrow (writeUpdData_foreign (by simpa using hforeign))
  · subst hoff hsrc
    have himage : s.TakesImage g f rest := ⟨hserve, hq, hdata⟩
    refine ⟨fun x hx hsrc hlen hoff => ?_, fun hmiss => ?_⟩
    · obtain ⟨t, ht, hT, hupd, hrest⟩ := updateFrame_staged himage hx ⟨hsrc, hlen, hoff⟩
      refine ⟨t, ht, hT.queue, hT.credit, fun i => ?_, by rw [hupd], hrest⟩
      rw [hupd]
      exact tget_putBytes _ _ _ i
    · obtain ⟨t, ht, hT, hcount, hrest⟩ := updateFrame_discarded himage fun x hx hacc => by
        obtain ⟨hsrc, hlen, hoff⟩ := hacc
        rcases hmiss x hx with h | h | h
        · exact h hsrc
        · omega
        · omega
      exact ⟨t, ht, hT.queue, hT.credit, fun hg => hcount.trans (if_pos hg), fun hg => hcount.trans (if_neg (Nat.not_lt.mpr hg)), hrest⟩

end Sys2Proof.Machine
end
